-- ==== Sys2Proof/Word.lean ====
section
/-!
DEFINITION. The words of the FC-D48: octets, 32-bit host words, 24-bit byte addresses, van tags, converter codes and the
numbering of bays, lanes, drops, slots and records (Conventions: Memory path, Numbering).
-/

namespace Sys2Proof

/-- One octet: of a memory word, of a lane frame or of the configuration image. -/
abbrev Byte := BitVec 8
/-- One 32-bit word of the memory path, also a depot time or an interval number. -/
abbrev Word := BitVec 32
/-- A 24-bit byte address of the memory path (R130). -/
abbrev Addr := BitVec 24
/-- A 48-bit van tag. Every value is legal, 0 included (R1). -/
abbrev Tag := BitVec 48
/-- A 12-bit code of a feeder current channel (R85). -/
abbrev Code := BitVec 12
/-- A set over M1 to M4: bit 0 is M1, bit 3 is M4 (Record and Frame Layouts, Common codes). -/
abbrev ModeSet := BitVec 4
/-- A 16-bit request tag (R139). -/
abbrev ReqTag := BitVec 16

/-- Bays are numbered 0-47. -/
abbrev BayNo := Fin 48
/-- Lanes are numbered 0-5. -/
abbrev LaneNo := Fin 6
/-- Drops are numbered 0-7. -/
abbrev Drop := Fin 8
/-- Posting slots are numbered 0-15. -/
abbrev SlotNo := Fin 16
/-- Roster entries stand at an index 0-127 (R1). -/
abbrev RosterIx := Fin 128
/-- Bookings stand at an internal index 0-159 (R20). -/
abbrev BookIx := Fin 160
/-- The alert ring has 64 entries (R147). -/
abbrev RingIx := Fin 64
/-- Each log area has 120 entries (R145). -/
abbrev LogIx := Fin 120

end Sys2Proof
end

