-- ==== Sys2Proof/Syntax.lean ====
section
/-!
DEFINITION. The commands of the FC-D48: one constructor for each row of spec/opcode_table.json, each an event or operation
that reaches the part, with the values that come with it from outside.
-/

namespace Sys2Proof

/-- The level at the CURTAIL contact input (R95). -/
inductive Level where
  | released
  | asserted
deriving DecidableEq, Repr

/-- The strap pins as sampled (R152). -/
structure Straps where
  /-- The three LANES pins, read in binary. -/
  lanes : BitVec 3
  /-- The CFGSRC pin: true is high, load the image; false is low, use the defaults. -/
  cfgSrcHigh : Bool
deriving DecidableEq, Repr

/-- The commands. The operands are what the outside gives with the event; what the part itself already holds (the copied
words of a taken request, say) is read from the state. -/
inductive Instr where
  /-- POWER_ON: the straps and the CURTAIL level as the reset ends (R152, R99). -/
  | powerOn (straps : Straps) (curtail : Level)
  /-- RESET_LINE: the straps and the CURTAIL level as the reset ends (R152, R99). -/
  | resetLine (straps : Straps) (curtail : Level)
  /-- CONFIG_IMAGE_LOADED: whether every byte was acknowledged, and the bytes read from the EEPROM from byte 0 on (R153). -/
  | configImageLoaded (acked : Bool) (image : List Byte)
  /-- CONFIG_READ_TIMEOUT: the image read did not complete within 50 ms (R153). -/
  | configReadTimeout
  /-- START_UP_END (R155). -/
  | startUpEnd
  /-- TICK (R122). -/
  | tick
  /-- PLAN_STALE (R127). -/
  | planStale
  /-- CURTAIL_TAIL_END (R96). -/
  | curtailTailEnd
  /-- CURTAIL_INPUT_CHANGE: the level at the pin changes to the other level (R95). -/
  | curtailInputChange
  /-- CURTAIL_ASSERTION_EDGE (R95). -/
  | curtailAssertionEdge
  /-- CURTAIL_RELEASE_EDGE (R95). -/
  | curtailReleaseEdge
  /-- SAMPLE_COMPLETION: the three codes of the conversion set (R85). -/
  | sampleCompletion (l1 l2 l3 : Code)
  /-- PUBLICATION: the pass in flight completes (R110). -/
  | publication
  /-- FRAME_SENT: the last character of the lane's frame ends (R74). -/
  | frameSent (lane : LaneNo)
  /-- REPORT_COMPLETE (R76). -/
  | reportComplete (lane : LaneNo)
  /-- RESPONSE_WINDOW_EXPIRY (R76). -/
  | responseWindowExpiry (lane : LaneNo)
  /-- HOST_ACCESS: a host read or write of the word at a byte address (R130, R132). -/
  | hostAccess (write : Bool) (addr : Addr) (data : Word) (enables : BitVec 4)
  /-- PLAN_WORD_WRITE: a host write of word 0-6 of a posting slot (R133). -/
  | planWordWrite (slot : SlotNo) (word : Fin 7) (data : Word) (enables : BitVec 4)
  /-- HEARTBEAT_WRITE: a host write of the heartbeat word (R127, R133). -/
  | heartbeatWrite (data : Word) (enables : BitVec 4)
  /-- ALERT_CONSUMER_INDEX_WRITE: a host write of the alert consumer index word (R148). -/
  | alertConsumerIndexWrite (data : Word) (enables : BitVec 4)
  /-- TRIGGER_WRITE: a host write of word 7 of a posting slot (R139). -/
  | triggerWrite (slot : SlotNo) (data : Word) (enables : BitVec 4)
  /-- MIRROR_WRITE_STOPPED: a host write at an address of the mirror window (R134). -/
  | mirrorWriteStopped (addr : Addr) (data : Word) (enables : BitVec 4)
  /-- FENCED_READ: a host read at an address of the mirror window (R135). -/
  | fencedRead (addr : Addr)
  /-- DOWNSTREAM_COMPLETION: memory completes the access on the port (R136). -/
  | downstreamCompletion
  /-- RECORD_PUSH (R146). -/
  | recordPush
  /-- BOOK: the request processor takes the BOOK request at the head of the queue (R22, R140). -/
  | book
  /-- CANCEL: the request at the head of the queue is taken (R25). -/
  | cancel
  /-- FORGET: the request at the head of the queue is taken (R16). -/
  | forget
  /-- SET_CLOCK: the request at the head of the queue is taken (R125). -/
  | setClock
  /-- SET_BAY_ENABLE: the request at the head of the queue is taken (R61). -/
  | setBayEnable
  /-- SET_BAY_DISABLE: the request at the head of the queue is taken (R61). -/
  | setBayDisable
  /-- SET_BAY_SET_CAP: the request at the head of the queue is taken (R62). -/
  | setBaySetCap
  /-- SET_BAY_SET_PERMITTED_MODES: the request at the head of the queue is taken (R62). -/
  | setBaySetPermittedModes
  /-- SET_LIMITS: the request at the head of the queue is taken (R97). -/
  | setLimits
  /-- CALIBRATE: the request at the head of the queue is taken (R89). -/
  | calibrate
  /-- RESTART: the request at the head of the queue is taken (R143). -/
  | restart
  /-- UNKNOWN_REQUEST: the request at the head of the queue, of an unlisted code, is taken (R140). -/
  | unknownRequest
  /-- CALIBRATION_COMPLETION: the 16 codes each channel gave (R88). -/
  | calibrationCompletion (l1 l2 l3 : Vector Code 16)
  /-- CHARACTER_ARRIVAL: a character on a lane's pair, and whether its stop element was there (R75). -/
  | characterArrival (lane : LaneNo) (octet : Byte) (stop : Bool)
deriving DecidableEq, Repr

end Sys2Proof
end

