-- ==== Sys2Proof/Decode.lean ====
section
/-!
DEFINITION. Words that spell commands. No row of spec/opcode_table.json gives its command any bits: every command is an event
at the part, so no word spells one.
-/

namespace Sys2Proof

/-- The command that a word of the table spells: none, since no row of the table has bits. -/
def decodeTableWord (_nbits _w : Nat) : Option Instr := none

end Sys2Proof
end

