-- ==== Sys2Proof/Config.lean ====
section
/-!
DEFINITION. The free values: what the manual leaves open where the part goes on. The loaded parameter set is state, not
configuration: it changes at a reset (R154).
-/

namespace Sys2Proof

/-- An order in which the Feeder Meter, the Departure Book and the Van Roster take one tick. -/
inductive TickOrder where
  | meterBookRoster
  | meterRosterBook
  | bookMeterRoster
  | bookRosterMeter
  | rosterMeterBook
  | rosterBookMeter
deriving DecidableEq, Repr, Inhabited

/-- FREE VALUE (log entry 7). R122: "These blocks own different state and take the tick in no order among themselves." The
order of the n-th tick taken; nothing constrains it. -/
opaque Config.tickOrder : Nat → TickOrder

end Sys2Proof
end

