-- ==== Sys2Proof/Machine/State.lean ====
section
/-!
DEFINITION. The state of the FC-D48, block by block as the manual gives it, the reasons a command can stop, and the state
after reset. Every field is plain data.
-/

namespace Sys2Proof.Machine

open Sys2Proof

/-! ### Codes shared by the blocks -/

/-- The charge modes; M4 ranks highest, M1 lowest (Conventions, R154). -/
inductive ChargeMode where
  | m1
  | m2
  | m3
  | m4
deriving DecidableEq, Repr

/-- The ten bay states (R43). -/
inductive BayState where
  | disabled
  | closing
  | empty
  | dozing
  | agreeing
  | plugged
  | incompatible
  | unlisted
  | faulted
  | lost
deriving DecidableEq, Repr

/-- The kinds of a failed exchange, in the order of the checks (R77), and NONE. -/
inductive FailureKind where
  | noFailure
  | framing
  | flags
  | timeout
  | overrun
  | crc
  | dropEcho
  | downlink
deriving DecidableEq, Repr

/-- The five frames (R73). -/
inductive FrameKind where
  | setpoint
  | stop
  | hold
  | poll
  | doze
deriving DecidableEq, Repr

/-- A booking's progress (R20). -/
inductive BookingState where
  | waiting
  | charging
  | ready
  | short
deriving DecidableEq, Repr

/-- Who made a booking (R20): HOST or DEFAULT. -/
inductive Origin where
  | byHost
  | byDefault
deriving DecidableEq, Repr

/-- The roster's answer to a bind request (R4, R64). -/
inductive RosterAnswer where
  | bound
  | migration
  | clash
  | refused
deriving DecidableEq, Repr

/-- Why an interval was skipped (R112). -/
inductive SkipReason where
  | noSample
  | passInFlight
deriving DecidableEq, Repr

/-- The result codes of requests (R140); `noAnswer` is NONE. -/
inductive ResultCode where
  | noAnswer
  | done
  | badField
  | full
  | notFound
  | inUse
  | busy
  | noClock
  | unknownRequest
  | calFailed
deriving DecidableEq, Repr

/-- Why the configuration image was not used (R153); RANGE names the first parameter outside its range. -/
inductive ConfigReason where
  | noAck
  | marker
  | length
  | crc
  | range (parameter : Nat)
  | windows
deriving DecidableEq, Repr

/-- The two areas of the interval log (R149). -/
inductive LogArea where
  | areaA
  | areaB
deriving DecidableEq, Repr

/-- The write that returned an AUTONOMOUS plan to PLANNED (R127). -/
inductive PlanWrite where
  | heartbeat
  | trigger (slot : SlotNo)
deriving DecidableEq, Repr

/-! ### The parameter set (R154) -/

/-- One entry of the mode table, in power units. -/
structure ModeEntry where
  maximum : Nat
  minimumRun : Nat
deriving DecidableEq, Repr

/-- One per-bay entry of the loaded set. -/
structure BaySetting where
  enabled : Bool
  permitted : ModeSet
  cap : Nat
deriving DecidableEq, Repr

/-- The lane rate in kbit/s (R67). -/
inductive LaneRate where
  | kbit250
  | kbit500
  | kbit1000
deriving DecidableEq, Repr

/-- The three limits that SET LIMITS replaces, in power units (R84, R97). -/
structure Limits where
  feederLimit : Nat
  margin : Nat
  curtailCeiling : Nat
deriving DecidableEq, Repr

/-- The loaded parameter set (R154), in the units of its table. -/
structure Params where
  intervalLength : Nat
  planStalePeriod : Nat
  planWindowBase : Addr
  mirrorWindowBase : Addr
  agingHours : Nat
  readyHysteresis : Nat
  departLeadMinutes : Nat
  expiryHoldMinutes : Nat
  defaultDepartureTime : Nat
  defaultTarget : Nat
  failureLimit : Nat
  dozeDelay : Nat
  laneRate : LaneRate
  responseWindowMs : Nat
  phaseVoltage : Nat
  currentScale : Nat
  limits : Limits
  releaseBand : Nat
  overloadTrim : Nat
  curtailTailMinutes : Nat
  skipLimit : Nat
  logLength : Nat
  modeM1 : ModeEntry
  modeM2 : ModeEntry
  modeM3 : ModeEntry
  modeM4 : ModeEntry
  bays : Vector BaySetting 48
deriving DecidableEq, Repr

/-- The defaults of R154's table and of the mode table of Conventions. -/
def Params.defaults : Params where
  intervalLength := 2
  planStalePeriod := 120
  planWindowBase := 0xFFF000
  mirrorWindowBase := 0xFF8000
  agingHours := 18
  readyHysteresis := 100
  departLeadMinutes := 45
  expiryHoldMinutes := 360
  defaultDepartureTime := 18000
  defaultTarget := 6000
  failureLimit := 4
  dozeDelay := 30
  laneRate := .kbit1000
  responseWindowMs := 4
  phaseVoltage := 230
  currentScale := 200
  limits := { feederLimit := 2500, margin := 100, curtailCeiling := 1200 }
  releaseBand := 5
  overloadTrim := 10
  curtailTailMinutes := 5
  skipLimit := 3
  logLength := 60
  modeM1 := { maximum := 37, minimumRun := 14 }
  modeM2 := { maximum := 74, minimumRun := 14 }
  modeM3 := { maximum := 110, minimumRun := 42 }
  modeM4 := { maximum := 220, minimumRun := 42 }
  bays := Vector.replicate 48 { enabled := true, permitted := 0xF, cap := 220 }

/-! ### Van Roster (R1, R13) -/

/-- A roster entry. It is BOUND when `bay` names a bay and PARKED otherwise (R1). -/
structure RosterEntry where
  tag : Tag
  bay : Option BayNo
  plugIn : Word
  lastSeen : Word
  lastEnergy : Nat
deriving DecidableEq, Repr

/-- The Van Roster: an index that holds no entry is free. -/
structure VanRoster where
  entries : Vector (Option RosterEntry) 128
  agingPosition : RosterIx
deriving DecidableEq, Repr

/-! ### Departure Book (R20) -/

/-- The precondition part of a booking: power units and minutes. -/
structure Precondition where
  power : Nat
  leadMinutes : Nat
deriving DecidableEq, Repr

/-- A booking. Its rank is its place in the book's list (R21). -/
structure Booking where
  index : BookIx
  tag : Tag
  departure : Word
  target : Nat
  precondition : Option Precondition
  origin : Origin
  state : BookingState
  delivered : Nat
deriving DecidableEq, Repr

/-! ### Bay Manager (R43) -/

/-- A bay record. -/
structure BayRecord where
  state : BayState
  boundTag : Option Tag
  agreedMode : Option ChargeMode
  unlistedTag : Option Tag
  cap : Nat
  permitted : ModeSet
  confirmed : Nat
  unresolved : Nat
  unknown : Bool
  toggle : Bool
  armed : Bool
  failureCount : Nat
  lastFailure : FailureKind
  postCeiling : Nat
  measuredPower : Nat
  lastEnergy : Nat
  meterBaseline : Option Nat
  lastGoodTime : Word
  lastGoodInterval : Word
  emptyRounds : Nat
  missedSlots : Nat
deriving DecidableEq, Repr

/-! ### Lane Engines (R68) -/

/-- A lane's phase. -/
inductive LanePhase where
  | idle
  | sending
  | listening
deriving DecidableEq, Repr

/-- The exchange in flight on a lane. -/
structure Exchange where
  drop : Drop
  kind : FrameKind
  capabilityRequest : Bool
  toggle : Bool
  value : Nat
deriving DecidableEq, Repr

/-- The receiver's record: the octets in order of arrival. The flags were found inconsistent (R75) when three octets are
in and no implied length is fixed. -/
structure Receiver where
  octets : List Byte
  stopMissing : Bool
  impliedLength : Option Nat
  trailing : Bool
deriving DecidableEq, Repr

/-- One Lane Engine. `onPair` is the frame being put on the pair while SENDING (R74): the part's output there. -/
structure Lane where
  phase : LanePhase
  roundRunning : Bool
  roundInterval : Word
  position : Drop
  pendingStart : Bool
  overrunInterval : Option Word
  discard : Bool
  exchange : Option Exchange
  receiver : Option Receiver
  onPair : List Byte
deriving DecidableEq, Repr

/-! ### Feeder Meter (R84) -/

/-- The zero-current codes of the three channels, held as a set. -/
structure Offsets where
  l1 : Nat
  l2 : Nat
  l3 : Nat
deriving DecidableEq, Repr

/-- Who asked for a calibration. -/
inductive CalOrigin where
  | startUp
  | request (slot : SlotNo)
deriving DecidableEq, Repr

/-- Whether a calibration is running. -/
inductive Calibration where
  | idle
  | inFlight (origin : CalOrigin)
deriving DecidableEq, Repr

/-- Whether a conversion set is running: the interval number noted for it (R85), and whether its sample completion is to
be discarded because a depot restart came after its beginning (R99). -/
inductive Conversion where
  | idle
  | converting (interval : Word) (discard : Bool)
deriving DecidableEq, Repr

/-- The latest valid sample. -/
structure Sample where
  pFeed : Nat
  interval : Word
deriving DecidableEq, Repr

/-- Whether a curtailment is in force, and why. -/
inductive Curtail where
  | inactive
  | asserted
  | tail
deriving DecidableEq, Repr

/-- The Feeder Meter. `changePending` says that the CURTAIL input stands at the level other than `filteredLevel` and the
10 ms of R95 are running. -/
structure FeederMeter where
  offsets : Option Offsets
  calibration : Calibration
  conversion : Conversion
  latest : Option Sample
  overload : Bool
  releaseRun : Nat
  curtail : Curtail
  tailElapsed : Nat
  filteredLevel : Level
  changePending : Bool
  limits : Limits
deriving DecidableEq, Repr

/-! ### Allocator (R100, R103) -/

/-- An entry of a setpoint plane. -/
structure PlaneEntry where
  value : Nat
  tag : Option Tag
  mode : Option ChargeMode
  preconditionOn : Bool
deriving DecidableEq, Repr

/-- The blank entry of R100. -/
def PlaneEntry.blank : PlaneEntry := { value := 0, tag := none, mode := none, preconditionOn := false }

/-- What the snapshot holds of one bay (R103); `plugIn` is the plug-in time of the bound tag's roster entry. -/
structure BaySnap where
  state : BayState
  boundTag : Option Tag
  agreedMode : Option ChargeMode
  cap : Nat
  confirmed : Nat
  unresolved : Nat
  unknown : Bool
  postCeiling : Nat
  measuredPower : Nat
  lastEnergy : Nat
  lastGoodInterval : Word
  plugIn : Option Word
deriving DecidableEq, Repr

/-- What the snapshot holds of one booking (R103). -/
structure BookingSnap where
  tag : Tag
  departure : Word
  target : Nat
  precondition : Option Precondition
  state : BookingState
deriving DecidableEq, Repr

/-- The snapshot of a pass (R103), with the budget formed from it at pass start (R93). -/
structure Snapshot where
  bays : Vector BaySnap 48
  bookings : List BookingSnap
  pFeed : Nat
  overload : Bool
  curtail : Curtail
  limits : Limits
  overloadTrim : Nat
  depotTime : Word
  interval : Word
  intervalLength : Nat
  modeM1 : ModeEntry
  modeM2 : ModeEntry
  modeM3 : ModeEntry
  modeM4 : ModeEntry
  siteLoad : Nat
  budget : Nat
deriving DecidableEq, Repr

/-- The Allocator. The pass is RUNNING when a snapshot is present and IDLE otherwise. `lastB` is the budget of the latest
publication, which the mirror header shows (R110, R150). -/
structure Allocator where
  front : Vector PlaneEntry 48
  back : Vector PlaneEntry 48
  pass : Option Snapshot
  skipCount : Nat
  standDown : Bool
  deliveredTotal : Nat
  lastB : Nat
deriving DecidableEq, Repr

/-! ### Depot Clock (R119) -/

/-- The supervision state of the host's plan. -/
inductive PlanState where
  | planned
  | autonomous
deriving DecidableEq, Repr

/-- The Depot Clock. -/
structure DepotClock where
  timerRunning : Bool
  depotSeconds : Word
  valid : Bool
  limitReached : Bool
  interval : Word
  plan : PlanState
  staleTimer : Nat
deriving DecidableEq, Repr

/-! ### Mirror Writer (R145 to R151) -/

/-- The identity of a mirror record (R145). -/
inductive RecordId where
  | header
  | slot (n : SlotNo)
  | bay (b : BayNo)
  | roster (i : RosterIx)
  | booking (i : BookIx)
  | alert (i : RingIx)
  | log (area : LogArea) (i : LogIx)
deriving DecidableEq, Repr

/-- The kinds of alert with the detail each carries (Record and Frame Layouts, Alert entry). -/
inductive AlertKind where
  | plugIn (answer : RosterAnswer)
  | unplug (stateLeft : BayState)
  | modeAgreed (mode : ChargeMode) (common : ModeSet)
  | incompatible (vanSet postSet : ModeSet)
  | bayFault (stateLeft : BayState)
  | bayClear (stateEntered : BayState)
  | bayLost (kind : FailureKind)
  | bayBack (stateEntered : BayState)
  | tagClash (previous : BayNo)
  | vanMoved (old : BayNo)
  | rosterFull (boundEntries : Nat)
  | rosterEvict (index : RosterIx)
  | vanAged (index : RosterIx)
  | ready (energy : Nat)
  | short (shortfall : Nat)
  | departed (finalEnergy delivered : Nat)
  | expired (delivered : Nat) (state : BookingState)
  | planStale (period : Nat)
  | planBack (write : PlanWrite)
  | overloadOn (pFeed feederLimit : Nat)
  | overloadOff (pFeed threshold : Nat)
  | curtailOn (ceiling : Nat)
  | curtailOff
  | standDownOn (skipCount : Nat) (reason : SkipReason)
  | standDownOff (skipCount : Nat)
  | calDone (offsets : Offsets)
  | calFail (l1 l2 l3 : Option Nat)
  | guard (addr : Addr) (count : Nat)
  | slotCollision (slot : SlotNo) (code : Byte) (tag : ReqTag)
  | roundOverrun (lane : LaneNo) (abandoned : Nat)
  | logHalf (area : LogArea)
  | overflow (lost : Nat)
  | clockLimit
  | configDefaulted (reason : ConfigReason)
deriving DecidableEq, Repr

/-- A stored alert (R147). -/
structure Alert where
  kind : AlertKind
  bay : Option BayNo
  tag : Option Tag
  time : Word
deriving DecidableEq, Repr

/-- An interval log record (R116); `skip` is the reason of a skipped interval. -/
structure LogRecord where
  interval : Word
  depotSeconds : Word
  budget : Nat
  sumG : Nat
  sumK : Nat
  siteLoad : Nat
  delivered : Nat
  skip : Option SkipReason
  overload : Bool
  curtail : Bool
  autonomous : Bool
  standDown : Bool
deriving DecidableEq, Repr

/-- One word waiting for the downstream port: its address and data, the record it belongs to, whether it is that record's
last word pushed (its first by address), and whether its completion frees the record's posting slot (R141). -/
structure BacklogWord where
  addr : Addr
  data : Word
  record : RecordId
  last : Bool
  freesSlot : Bool
deriving DecidableEq, Repr

/-- The dirty set: which of the 657 records wait to be written (R146). -/
structure DirtySet where
  header : Bool
  slots : Vector Bool 16
  bays : Vector Bool 48
  roster : Vector Bool 128
  bookings : Vector Bool 160
  alerts : Vector Bool 64
  logA : Vector Bool 120
  logB : Vector Bool 120
deriving DecidableEq, Repr

/-- The 16-bit generation counts of the records of 8 or more words (R145). -/
structure Generations where
  header : BitVec 16
  bays : Vector (BitVec 16) 48
  roster : Vector (BitVec 16) 128
  bookings : Vector (BitVec 16) 160
deriving DecidableEq, Repr

/-- The Mirror Writer. An alert or log entry that is `none` has not been stored since the last reset. -/
structure MirrorWriter where
  dirty : DirtySet
  backlog : List BacklogWord
  generations : Generations
  producer : RingIx
  consumer : RingIx
  overflow : Bool
  lostCount : Nat
  alerts : Vector (Option Alert) 64
  guardCount : Nat
  logArea : LogArea
  logIndex : LogIx
  logA : Vector (Option LogRecord) 120
  logB : Vector (Option LogRecord) 120
deriving DecidableEq, Repr

/-! ### Path Unit (R130) -/

/-- A host access. `watched` is the mode judged for it when it arrived (R131). -/
structure HostAccess where
  write : Bool
  addr : Addr
  data : Word
  enables : BitVec 4
  watched : Bool
deriving DecidableEq, Repr

/-- The downstream port: FREE, or BUSY with a host access or a backlog word. -/
inductive Port where
  | free
  | host (access : HostAccess)
  | backlog (word : BacklogWord)
deriving DecidableEq, Repr

/-- What the part last completed to the host: the access, and the data a read returned. -/
structure HostReply where
  access : HostAccess
  data : Word
deriving DecidableEq, Repr

/-- The Path Unit. `fence` names the open record; `waiting` is a host access waiting for the port; `reply` is the part's
output to the host. -/
structure PathUnit where
  watching : Bool
  planBase : Addr
  mirrorBase : Addr
  fence : Option RecordId
  heldRead : Option HostAccess
  waiting : Option HostAccess
  port : Port
  alternation : Bool
  backlogOwed : Bool
  guardInterval : Option Word
  reply : Option HostReply
deriving DecidableEq, Repr

/-! ### Plan Intake (R138) -/

/-- The phase of a BUSY slot. -/
inductive BusyPhase where
  | queued
  | inHand
  | answered
deriving DecidableEq, Repr

/-- A request as it stood at its trigger write. -/
structure Request where
  code : Byte
  tag : ReqTag
  words : Vector Word 7
deriving DecidableEq, Repr

/-- The answer a slot's result record shows. -/
structure SlotResult where
  tag : ReqTag
  code : ResultCode
  detail : BitVec 40
deriving DecidableEq, Repr

/-- A posting slot: its shadow words, its phase and request while BUSY (FREE when none), and its result. -/
structure PostingSlot where
  shadow : Vector Word 8
  busy : Option (BusyPhase × Request)
  result : SlotResult
deriving DecidableEq, Repr

/-- Plan Intake: the alert consumer index word of the shadow, the slots, and the queue of QUEUED slots, oldest first. -/
structure PlanIntake where
  consumerShadow : Word
  slots : Vector PostingSlot 16
  queue : List SlotNo
deriving DecidableEq, Repr

/-! ### Configuration Loader (R152 to R155) -/

/-- The step that start-up has reached: waiting for the image read, waiting for the start-up calibration, about to end, or
ended. -/
inductive StartUpStep where
  | loading
  | calibrating
  | ending
  | inService
deriving DecidableEq, Repr

/-- Where the loaded set came from. -/
inductive ConfigSource where
  | image
  | defaults
deriving DecidableEq, Repr

/-- The Configuration Loader, with the hold on the lane drivers that start-up keeps (R82, R155). -/
structure ConfigLoader where
  straps : Straps
  loaded : Params
  source : ConfigSource
  step : StartUpStep
  driversReleased : Bool
deriving DecidableEq, Repr

/-! ### The whole part -/

/-- The state of the part, the static memory behind it (canonical cells), the model's counter of free values drawn, and the
commands that wait, oldest first. -/
structure State where
  roster : VanRoster
  book : List Booking
  bays : Vector BayRecord 48
  lanes : Vector Lane 6
  meter : FeederMeter
  allocator : Allocator
  clock : DepotClock
  mirror : MirrorWriter
  path : PathUnit
  intake : PlanIntake
  config : ConfigLoader
  memory : List Host.Cell
  draws : Nat
  pending : List Instr
deriving DecidableEq, Repr

/-- Why a command stops. Each is raised only when the host itself breaks the bus rule of R130, for which the manual gives
no effect; each is safe, since the part goes nowhere the manual does not say. -/
inductive Fault where
  /-- Raised by a host access whose byte address is no multiple of 4: R130 gives the host no such access. Safe. -/
  | misalignedAddress
  /-- Raised by a host access while the part has not completed the previous one: R130 gives the host at most one. Safe. -/
  | accessOutstanding
deriving DecidableEq, Repr

/-- Why a command has no meaning here. -/
inductive Refusal where
  /-- The command has no meaning yet. No arm of this model answers so. Safe. -/
  | notModelled (mnemonic : String)
deriving DecidableEq, Repr

/-- A bay record after a reset, for an EMPTY bay of cap 220 with all modes permitted (R66). -/
def BayRecord.atReset : BayRecord where
  state := .empty
  boundTag := none
  agreedMode := none
  unlistedTag := none
  cap := 220
  permitted := 0xF
  confirmed := 0
  unresolved := 0
  unknown := true
  toggle := false
  armed := false
  failureCount := 0
  lastFailure := .noFailure
  postCeiling := 0
  measuredPower := 0
  lastEnergy := 0
  meterBaseline := none
  lastGoodTime := 0
  lastGoodInterval := 0
  emptyRounds := 0
  missedSlots := 0

/-- A Lane Engine after power-on or the RESET line (R82). -/
def Lane.atReset : Lane where
  phase := .idle
  roundRunning := false
  roundInterval := 0
  position := 0
  pendingStart := false
  overrunInterval := none
  discard := false
  exchange := none
  receiver := none
  onPair := []

/-- The part right after a power-on with every strap pin low (six lanes, the defaults; R152) and CURTAIL released, the
start-up calibration in flight (R155). The values that the manual does not state are those of log entries 1 to 4, 39 and
42. -/
def State.reset : State where
  roster := { entries := Vector.replicate 128 none, agingPosition := 0 }
  book := []
  bays := Vector.replicate 48 BayRecord.atReset
  lanes := Vector.replicate 6 Lane.atReset
  meter := {
    offsets := none
    calibration := .inFlight .startUp
    conversion := .idle
    latest := none
    overload := false
    releaseRun := 0
    curtail := .inactive
    tailElapsed := 0
    filteredLevel := .released
    changePending := false
    limits := Params.defaults.limits }
  allocator := {
    front := Vector.replicate 48 PlaneEntry.blank
    back := Vector.replicate 48 PlaneEntry.blank
    pass := none
    skipCount := 0
    standDown := false
    deliveredTotal := 0
    lastB := 0 }
  clock := {
    timerRunning := false
    depotSeconds := 0
    valid := false
    limitReached := false
    interval := 0
    plan := .planned
    staleTimer := 0 }
  mirror := {
    dirty := {
      header := true
      slots := Vector.replicate 16 true
      bays := Vector.replicate 48 true
      roster := Vector.replicate 128 true
      bookings := Vector.replicate 160 true
      alerts := Vector.replicate 64 true
      logA := Vector.replicate 120 true
      logB := Vector.replicate 120 true }
    backlog := []
    generations := {
      header := 0
      bays := Vector.replicate 48 0
      roster := Vector.replicate 128 0
      bookings := Vector.replicate 160 0 }
    producer := 0
    consumer := 0
    overflow := false
    lostCount := 0
    alerts := Vector.replicate 64 none
    guardCount := 0
    logArea := .areaA
    logIndex := 0
    logA := Vector.replicate 120 none
    logB := Vector.replicate 120 none }
  path := {
    watching := false
    planBase := Params.defaults.planWindowBase
    mirrorBase := Params.defaults.mirrorWindowBase
    fence := none
    heldRead := none
    waiting := none
    port := .free
    alternation := false
    backlogOwed := false
    guardInterval := none
    reply := none }
  intake := {
    consumerShadow := 0
    slots := Vector.replicate 16 {
      shadow := Vector.replicate 8 0
      busy := none
      result := { tag := 0, code := .noAnswer, detail := 0 } }
    queue := [] }
  config := {
    straps := { lanes := 0, cfgSrcHigh := false }
    loaded := Params.defaults
    source := .defaults
    step := .calibrating
    driversReleased := false }
  memory := []
  draws := 0
  pending := []

end Sys2Proof.Machine
end

