-- ==== Sys2Proof/Machine/Flags.lean ====
section
/-!
DEFINITION. The codes of Record and Frame Layouts (Common codes and the alert kinds), charge modes and mode sets, and the
derived flags and figures that rules name without storing them: in service, K, consistency of flags, header flags.
-/

namespace Sys2Proof.Machine

open Sys2Proof

/-! ### Common codes -/

/-- Mode code; 0 is none. -/
def modeCode : Option ChargeMode → Nat
  | none => 0
  | some .m1 => 1
  | some .m2 => 2
  | some .m3 => 3
  | some .m4 => 4

/-- Bay state code. -/
def BayState.code : BayState → Nat
  | .disabled => 0
  | .closing => 1
  | .empty => 2
  | .dozing => 3
  | .agreeing => 4
  | .plugged => 5
  | .incompatible => 6
  | .unlisted => 7
  | .faulted => 8
  | .lost => 9

/-- Failure kind code. -/
def FailureKind.code : FailureKind → Nat
  | .noFailure => 0
  | .framing => 1
  | .flags => 2
  | .timeout => 3
  | .overrun => 4
  | .crc => 5
  | .dropEcho => 6
  | .downlink => 7

/-- Booking state code; 0 is the empty marker. -/
def BookingState.code : BookingState → Nat
  | .waiting => 1
  | .charging => 2
  | .ready => 3
  | .short => 4

/-- Roster answer code. -/
def RosterAnswer.code : RosterAnswer → Nat
  | .bound => 0
  | .migration => 1
  | .clash => 2
  | .refused => 3

/-- Skip reason code. -/
def SkipReason.code : SkipReason → Nat
  | .noSample => 0
  | .passInFlight => 1

/-- Result code. -/
def ResultCode.code : ResultCode → Nat
  | .noAnswer => 0x00
  | .done => 0x01
  | .badField => 0x02
  | .full => 0x03
  | .notFound => 0x04
  | .inUse => 0x05
  | .busy => 0x06
  | .noClock => 0x07
  | .unknownRequest => 0x08
  | .calFailed => 0x09

/-- Configuration reason code. -/
def ConfigReason.code : ConfigReason → Nat
  | .noAck => 1
  | .marker => 2
  | .length => 3
  | .crc => 4
  | .range _ => 5
  | .windows => 6

/-- The parameter number that CONFIG DEFAULTED carries for RANGE. -/
def ConfigReason.parameter : ConfigReason → Nat
  | .range n => n
  | _ => 0

/-- Frame kind code (Bayline frames). -/
def FrameKind.code : FrameKind → Nat
  | .setpoint => 1
  | .stop => 2
  | .hold => 3
  | .poll => 4
  | .doze => 5

/-- Log area code. -/
def LogArea.code : LogArea → Nat
  | .areaA => 0
  | .areaB => 1

/-- The other log area (R149). -/
def LogArea.other : LogArea → LogArea
  | .areaA => .areaB
  | .areaB => .areaA

/-- The alert kind's code in word 0 of an alert entry. -/
def AlertKind.code : AlertKind → Nat
  | .plugIn _ => 0x01
  | .unplug _ => 0x02
  | .modeAgreed _ _ => 0x03
  | .incompatible _ _ => 0x04
  | .bayFault _ => 0x05
  | .bayClear _ => 0x06
  | .bayLost _ => 0x07
  | .bayBack _ => 0x08
  | .tagClash _ => 0x10
  | .vanMoved _ => 0x11
  | .rosterFull _ => 0x12
  | .rosterEvict _ => 0x13
  | .vanAged _ => 0x14
  | .ready _ => 0x20
  | .short _ => 0x21
  | .departed _ _ => 0x22
  | .expired _ _ => 0x23
  | .planStale _ => 0x30
  | .planBack _ => 0x31
  | .overloadOn _ _ => 0x32
  | .overloadOff _ _ => 0x33
  | .curtailOn _ => 0x34
  | .curtailOff => 0x35
  | .standDownOn _ _ => 0x36
  | .standDownOff _ => 0x37
  | .calDone _ => 0x40
  | .calFail _ _ _ => 0x41
  | .guard _ _ => 0x50
  | .slotCollision _ _ _ => 0x51
  | .roundOverrun _ _ => 0x60
  | .logHalf _ => 0x70
  | .overflow _ => 0x71
  | .clockLimit => 0x72
  | .configDefaulted _ => 0x73

/-- A field of `width` bits at bit `low`, for a record word or an alert detail: the value's low bits, in place. -/
def field (low width value : Nat) : Nat := value % 2 ^ width * 2 ^ low

/-- A flag as one bit. -/
def bit (b : Bool) : Nat := if b then 1 else 0

/-- The 36 bits that carry three offsets: bits 11-0 L1, 23-12 L2, 35-24 L3. -/
def Offsets.detail (o : Offsets) : Nat := field 0 12 o.l1 + field 12 12 o.l2 + field 24 12 o.l3

/-- The failed channels: bit 0 L1, bit 1 L2, bit 2 L3. -/
def failedChannels (l1 l2 l3 : Option Nat) : Nat := bit l1.isSome + 2 * bit l2.isSome + 4 * bit l3.isSome

/-- The detail that an alert of each kind carries (Alert entry table). -/
def AlertKind.detail : AlertKind → Nat
  | .plugIn a => a.code
  | .unplug st => st.code
  | .modeAgreed m c => field 0 8 (modeCode (some m)) + field 8 4 c.toNat
  | .incompatible v p => field 0 4 v.toNat + field 4 4 p.toNat
  | .bayFault st => st.code
  | .bayClear st => st.code
  | .bayLost k => k.code
  | .bayBack st => st.code
  | .tagClash p => p.val
  | .vanMoved p => p.val
  | .rosterFull n => n
  | .rosterEvict i => i.val
  | .vanAged i => i.val
  | .ready e => e
  | .short e => e
  | .departed e d => field 0 16 e + field 16 16 (min d 65535)
  | .expired d st => field 0 16 (min d 65535) + field 16 8 st.code
  | .planStale n => n
  | .planBack .heartbeat => 0
  | .planBack (.trigger n) => 1 + field 8 4 n.val
  | .overloadOn p l => field 0 32 p + field 32 16 l
  | .overloadOff p l => field 0 32 p + field 32 16 l
  | .curtailOn c => c
  | .curtailOff => 0
  | .standDownOn n r => field 0 16 n + field 16 1 r.code
  | .standDownOff n => n
  | .calDone o => o.detail
  | .calFail a b c => failedChannels a b c + field 4 12 (a.getD 0) + field 16 12 (b.getD 0) + field 28 12 (c.getD 0)
  | .guard a n => field 0 24 a.toNat + field 24 16 n
  | .slotCollision n c t => field 0 4 n.val + field 8 8 c.toNat + field 16 16 t.toNat
  | .roundOverrun l n => field 0 8 l.val + field 8 8 n
  | .logHalf a => a.code
  | .overflow n => n
  | .clockLimit => 0
  | .configDefaulted r => field 0 8 r.code + field 8 8 r.parameter

/-! ### Charge modes and mode sets -/

/-- Whether a mode is in a set. -/
def inModeSet (m : ChargeMode) (ms : ModeSet) : Bool :=
  match m with
  | .m1 => ms.getLsbD 0
  | .m2 => ms.getLsbD 1
  | .m3 => ms.getLsbD 2
  | .m4 => ms.getLsbD 3

/-- The highest-ranked mode of a set, M4 first; none for the empty set (R50, R154). -/
def highestMode (ms : ModeSet) : Option ChargeMode :=
  if inModeSet .m4 ms then some .m4
  else if inModeSet .m3 ms then some .m3
  else if inModeSet .m2 ms then some .m2
  else if inModeSet .m1 ms then some .m1
  else none

/-- The set {M1}, taken for a legacy van (R50). -/
def legacySet : ModeSet := 1

/-- The loaded mode table's entry for a mode (R154). -/
def Params.modeEntry (p : Params) : ChargeMode → ModeEntry
  | .m1 => p.modeM1
  | .m2 => p.modeM2
  | .m3 => p.modeM3
  | .m4 => p.modeM4

/-- The snapshot's mode table entry for a mode (R103). -/
def Snapshot.modeEntry (sn : Snapshot) : ChargeMode → ModeEntry
  | .m1 => sn.modeM1
  | .m2 => sn.modeM2
  | .m3 => sn.modeM3
  | .m4 => sn.modeM4

/-- A character time in microseconds: ten bit times at the lane rate (R67). -/
def LaneRate.characterMicros : LaneRate → Nat
  | .kbit250 => 40
  | .kbit500 => 20
  | .kbit1000 => 10

/-! ### Derived figures of a bay -/

/-- A bay is in service in every state except DISABLED (R43). -/
def BayState.inService (st : BayState) : Bool := st != .disabled

/-- The states in which a bay may hold a binding (R43). -/
def BayState.mayBind : BayState → Bool
  | .agreeing | .plugged | .incompatible | .faulted | .lost => true
  | .disabled | .closing | .empty | .dozing | .unlisted => false

/-- The committed setpoint K: the cap while unknown, otherwise the larger of C and U (R44). -/
def committed (unknown : Bool) (cap c u : Nat) : Nat := if unknown then cap else max c u

/-- K of a live bay record. -/
def BayRecord.k (b : BayRecord) : Nat := committed b.unknown b.cap b.confirmed b.unresolved

/-- K of a snapshot's bay. -/
def BaySnap.k (b : BaySnap) : Nat := committed b.unknown b.cap b.confirmed b.unresolved

/-! ### Derived flags of the meter, the clock and the receiver -/

/-- Curtail caps the budget, and the header's curtail flag is set, in ASSERTED and in TAIL (R93, R95). -/
def Curtail.inForce : Curtail → Bool
  | .inactive => false
  | .asserted => true
  | .tail => true

/-- The autonomous flag of a log record and of the header. -/
def PlanState.isAutonomous : PlanState → Bool
  | .planned => false
  | .autonomous => true

/-- The receiver found the flags or the status inconsistent: three octets are in and no implied length is fixed (R75). DEDUCED
(log entry 32): a bad status, too, is judged with the third octet in. -/
def Receiver.inconsistent (r : Receiver) : Bool := 3 ≤ r.octets.length && r.impliedLength.isNone

/-- The implied length has arrived (R75, R76). -/
def Receiver.whole (r : Receiver) : Bool :=
  match r.impliedLength with
  | some n => n ≤ r.octets.length
  | none => false

/-- Start-up is over (R155 step 4). -/
def ConfigLoader.ended (c : ConfigLoader) : Bool := c.step == .inService

/-- How many lanes the LANES strap puts in service: 1-6 as read, 0 and 7 mean 6 (R152). -/
def lanesInService (st : Straps) : Nat := if st.lanes = 0 ∨ st.lanes = 7 then 6 else st.lanes.toNat

end Sys2Proof.Machine
end

