-- ==== Sys2Proof/Machine/Ops.lean ====
section
/-!
DEFINITION. The named operations the meanings share: vectors, static memory, marking records dirty, raising alerts, changing
a bay, a lane, a roster entry or the book, and the result of a request.
-/

namespace Sys2Proof.Machine

open Sys2Proof

/-- What a command answers. -/
abbrev Result := Host.Outcome State Fault Refusal

/-! ### Vectors -/

/-- Store one place of a vector. -/
@[reducible] def vput {α : Type} {n : Nat} (v : Vector α n) (i : Fin n) (x : α) : Vector α n := v.set i.val x i.isLt

/-- Apply a function at every place of a vector. -/
def vmap {α β : Type} {n : Nat} (f : α → β) (v : Vector α n) : Vector β n := Vector.ofFn fun i => f (v.get i)

/-- The sum of a figure over the 48 bay numbers. -/
def sumBays (f : BayNo → Nat) : Nat := ((List.finRange 48).map f).sum

/-! ### Static memory (R130, R132) -/

/-- What a byte of memory reads as that nothing has written (log entry 3). -/
def memUnlisted : Byte := 0

/-- Read one byte of memory. -/
def memByte : List Host.Cell → Nat → Byte
  | [], _ => memUnlisted
  | (k, v) :: rest, a => if k = a then v else memByte rest a

/-- Write one byte of memory, keeping the cells in rising order and listing none that reads as unlisted. -/
def memPut : List Host.Cell → Nat → Byte → List Host.Cell
  | [], a, v => if v = memUnlisted then [] else [(a, v)]
  | (k, w) :: rest, a, v =>
    if a < k then (if v = memUnlisted then (k, w) :: rest else (a, v) :: (k, w) :: rest)
    else if a = k then (if v = memUnlisted then rest else (a, v) :: rest)
    else (k, w) :: memPut rest a v

/-- The cells from an address on, each at a higher address than the one before, none reading as unlisted, all within the
24-bit space. -/
def cellsFrom : Nat → List Host.Cell → Bool
  | _, [] => true
  | low, (k, v) :: rest => decide (low ≤ k) && decide (k < 2 ^ 24) && decide (v ≠ memUnlisted) && cellsFrom (k + 1) rest

/-- The canonical form of memory. -/
def Memory.wf (m : List Host.Cell) : Bool := cellsFrom 0 m

/-- The byte address `i` bytes above `a` in the 24-bit space. -/
def byteAddr (a : Addr) (i : Nat) : Nat := (a + BitVec.ofNat 24 i).toNat

/-- Byte `i` of a word: byte 0 carries bits 7-0 (R130). -/
def wordByte (w : Word) (i : Nat) : Byte := w.extractLsb' (8 * i) 8

/-- The word whose bytes, lowest address first, are given. -/
def wordOfBytes (b0 b1 b2 b3 : Byte) : Word := b3 ++ b2 ++ b1 ++ b0

/-- Read the word at a byte address. -/
def memWord (m : List Host.Cell) (a : Addr) : Word :=
  wordOfBytes (memByte m (byteAddr a 0)) (memByte m (byteAddr a 1)) (memByte m (byteAddr a 2)) (memByte m (byteAddr a 3))

/-- Write one byte of a word where its enable is set. -/
def memPutEnabled (a : Addr) (data : Word) (enables : BitVec 4) (i : Nat) (m : List Host.Cell) : List Host.Cell :=
  if enables.getLsbD i then memPut m (byteAddr a i) (wordByte data i) else m

/-- Write the enabled bytes of a word (R130, R132). -/
def memWrite (m : List Host.Cell) (a : Addr) (data : Word) (enables : BitVec 4) : List Host.Cell :=
  memPutEnabled a data enables 3 (memPutEnabled a data enables 2
    (memPutEnabled a data enables 1 (memPutEnabled a data enables 0 m)))

/-- Merge a write into a word byte by byte: an enabled byte replaces, a byte not enabled keeps (R133). -/
def mergeWord (old data : Word) (enables : BitVec 4) : Word :=
  let pick (i : Nat) : Byte := if enables.getLsbD i then wordByte data i else wordByte old i
  wordOfBytes (pick 0) (pick 1) (pick 2) (pick 3)

/-! ### The dirty set (R146) -/

/-- Put a record into the dirty set; a record already there changes nothing. -/
def DirtySet.mark (d : DirtySet) : RecordId → DirtySet
  | .header => { d with header := true }
  | .slot n => { d with slots := vput d.slots n true }
  | .bay b => { d with bays := vput d.bays b true }
  | .roster i => { d with roster := vput d.roster i true }
  | .booking i => { d with bookings := vput d.bookings i true }
  | .alert i => { d with alerts := vput d.alerts i true }
  | .log .areaA i => { d with logA := vput d.logA i true }
  | .log .areaB i => { d with logB := vput d.logB i true }

/-- Take a record out of the dirty set. -/
def DirtySet.clear (d : DirtySet) : RecordId → DirtySet
  | .header => { d with header := false }
  | .slot n => { d with slots := vput d.slots n false }
  | .bay b => { d with bays := vput d.bays b false }
  | .roster i => { d with roster := vput d.roster i false }
  | .booking i => { d with bookings := vput d.bookings i false }
  | .alert i => { d with alerts := vput d.alerts i false }
  | .log .areaA i => { d with logA := vput d.logA i false }
  | .log .areaB i => { d with logB := vput d.logB i false }

/-- Whether a record is in the dirty set. -/
def DirtySet.has (d : DirtySet) : RecordId → Bool
  | .header => d.header
  | .slot n => d.slots.get n
  | .bay b => d.bays.get b
  | .roster i => d.roster.get i
  | .booking i => d.bookings.get i
  | .alert i => d.alerts.get i
  | .log .areaA i => d.logA.get i
  | .log .areaB i => d.logB.get i

/-- Every record (R151). -/
def DirtySet.every : DirtySet where
  header := true
  slots := Vector.replicate 16 true
  bays := Vector.replicate 48 true
  roster := Vector.replicate 128 true
  bookings := Vector.replicate 160 true
  alerts := Vector.replicate 64 true
  logA := Vector.replicate 120 true
  logB := Vector.replicate 120 true

/-- Mark a record dirty. -/
def State.mark (s : State) (r : RecordId) : State :=
  { s with mirror := { s.mirror with dirty := s.mirror.dirty.mark r } }

/-! ### Alerts (R147) -/

/-- How many alerts the host has not consumed: (producer - consumer) mod 64. -/
def MirrorWriter.unconsumed (m : MirrorWriter) : Nat := (m.producer - m.consumer).val

/-- Write an alert into the entry at the producer index, which rises by one mod 64; the entry and the header are dirty. -/
def State.storeAlert (s : State) (a : Alert) : State :=
  let m := s.mirror
  let m' : MirrorWriter :=
    { m with
      alerts := vput m.alerts m.producer (some a)
      producer := m.producer + 1
      dirty := (m.dirty.mark (.alert m.producer)).mark .header }
  { s with mirror := m' }

/-- An alert that is not stored: the lost count rises, and the overflow flag is set, the header dirty if it was clear. -/
def State.loseAlert (s : State) : State :=
  let m := s.mirror
  let m' : MirrorWriter :=
    { m with
      lostCount := min 65535 (m.lostCount + 1)
      overflow := true
      dirty := if m.overflow then m.dirty else m.dirty.mark .header }
  { s with mirror := m' }

/-- Raise an alert with the present depot time (R147). -/
def State.raise (s : State) (kind : AlertKind) (bay : Option BayNo) (tag : Option Tag) : State :=
  if !s.mirror.overflow && s.mirror.unconsumed < 63 then
    s.storeAlert { kind := kind, bay := bay, tag := tag, time := s.clock.depotSeconds }
  else s.loseAlert

/-! ### Bays and lanes -/

/-- A bay's record. -/
def State.bay (s : State) (b : BayNo) : BayRecord := s.bays.get b

/-- A lane's state. -/
def State.lane (s : State) (l : LaneNo) : Lane := s.lanes.get l

/-- Replace a bay's record; it is dirty when a field has changed (R65). K is a function of the fields, so a change of K is
one of them. -/
def State.setBay (s : State) (b : BayNo) (r : BayRecord) : State :=
  if r = s.bay b then s else State.mark { s with bays := vput s.bays b r } (.bay b)

/-- Change a bay's record. -/
def State.updBay (s : State) (b : BayNo) (f : BayRecord → BayRecord) : State := s.setBay b (f (s.bay b))

/-- Replace a lane's state, none of which the mirror window shows (R68). -/
def State.setLane (s : State) (l : LaneNo) (x : Lane) : State := { s with lanes := vput s.lanes l x }

/-- Change a lane's state. -/
def State.updLane (s : State) (l : LaneNo) (f : Lane → Lane) : State := s.setLane l (f (s.lane l))

/-- The bay at a drop of a lane (R67). -/
def bayAt (l : LaneNo) (d : Drop) : BayNo := ⟨8 * l.val + d.val, by omega⟩

/-- The lane of a bay (R67). -/
def laneOf (b : BayNo) : LaneNo := ⟨b.val / 8, by omega⟩

/-- A lane is in service when its number is below the strap's count (R67). -/
def State.laneInService (s : State) (l : LaneNo) : Bool := l.val < lanesInService s.config.straps

/-! ### Roster entries -/

/-- The index whose entry holds a tag. -/
def State.rosterFind (s : State) (t : Tag) : Option RosterIx :=
  (List.finRange 128).find? fun i => ((s.roster.entries.get i).map RosterEntry.tag) == some t

/-- The entry that holds a tag. -/
def State.rosterEntry (s : State) (t : Tag) : Option RosterEntry :=
  (s.rosterFind t).bind fun i => s.roster.entries.get i

/-- The bay a tag is bound to. -/
def State.boundBay (s : State) (t : Tag) : Option BayNo := (s.rosterEntry t).bind RosterEntry.bay

/-- The roster count (R1). -/
def State.rosterCount (s : State) : Nat := s.roster.entries.toList.countP Option.isSome

/-- The number of BOUND entries (R8). -/
def State.boundCount (s : State) : Nat :=
  s.roster.entries.toList.countP fun e => ((e.bind RosterEntry.bay).isSome : Bool)

/-- Replace what an index holds. The record is dirty when it has changed, and the header when the count has (R18). -/
def State.setRoster (s : State) (i : RosterIx) (e : Option RosterEntry) : State :=
  let old := s.roster.entries.get i
  if e = old then s
  else
    let s' := State.mark { s with roster := { s.roster with entries := vput s.roster.entries i e } } (.roster i)
    if e.isSome = old.isSome then s' else s'.mark .header

/-! ### The book -/

/-- The rank and the booking at an internal index, counting ranks from `rank`. -/
def bookView : List Booking → Nat → BookIx → Option (Nat × Booking)
  | [], _, _ => none
  | b :: rest, rank, i => if b.index = i then some (rank, b) else bookView rest (rank + 1) i

/-- What an internal index's record shows: rank 1 is the earliest (R20). -/
def State.bookRecord (s : State) (i : BookIx) : Option (Nat × Booking) := bookView s.book 1 i

/-- Replace the book. Each record whose shown fields or rank change is dirty, and the header when the count changes (R40).
DEDUCED (log entry 37): an addition that leaves the delivered figure as it was marks nothing. -/
def State.setBook (s : State) (book : List Booking) : State :=
  let d := s.mirror.dirty
  let d' : DirtySet :=
    { d with
      bookings := Vector.ofFn fun i => d.bookings.get i || (bookView book 1 i != bookView s.book 1 i)
      header := d.header || (book.length != s.book.length) }
  { s with book := book, mirror := { s.mirror with dirty := d' } }

/-- The booking for a tag. -/
def State.booking (s : State) (t : Tag) : Option Booking := s.book.find? fun b => b.tag == t

/-- Whether the Book holds a booking for a tag (R39). -/
def State.isBooked (s : State) (t : Tag) : Bool := (s.booking t).isSome

/-! ### Results of requests (R140, R141) -/

/-- A slot. -/
def State.slot (s : State) (n : SlotNo) : PostingSlot := s.intake.slots.get n

/-- Replace a slot. -/
def State.setSlot (s : State) (n : SlotNo) (x : PostingSlot) : State :=
  { s with intake := { s.intake with slots := vput s.intake.slots n x } }

/-- A backlog word pushed before a slot's new result was stored no longer frees the slot (R141). -/
def BacklogWord.outdate (w : BacklogWord) (n : SlotNo) : BacklogWord :=
  if w.record = .slot n then { w with freesSlot := false } else w

/-- The same for the word in progress on the port. -/
def Port.outdate (p : Port) (n : SlotNo) : Port :=
  match p with
  | .free => .free
  | .host a => .host a
  | .backlog w => .backlog (w.outdate n)

/-- Store the answer to the request a slot holds: the tag echo, the code and the detail become the slot's result, the slot
becomes ANSWERED, and its record is dirty (R140). Writes of the record already pushed do not free it (R141). -/
def State.storeResult (s : State) (n : SlotNo) (code : ResultCode) (detail : Nat) : State :=
  match (s.slot n).busy with
  | none => s
  | some (_, req) =>
    let x : PostingSlot :=
      { s.slot n with
        busy := some (.answered, req)
        result := { tag := req.tag, code := code, detail := BitVec.ofNat 40 detail } }
    let s1 := s.setSlot n x
    let s2 : State :=
      { s1 with
        mirror := { s1.mirror with backlog := s1.mirror.backlog.map fun w => w.outdate n }
        path := { s1.path with port := s1.path.port.outdate n } }
    s2.mark (.slot n)

/-- The request at the head of the intake queue with its slot (R140). -/
def State.headRequest (s : State) : Option (SlotNo × Request) :=
  match s.intake.queue with
  | [] => none
  | n :: _ =>
    match (s.slot n).busy with
    | some (.queued, req) => some (n, req)
    | some (.inHand, _) => none
    | some (.answered, _) => none
    | none => none

/-- Take the request at the head of the queue: its slot leaves the queue (R140). -/
def State.dequeue (s : State) : State := { s with intake := { s.intake with queue := s.intake.queue.tail } }

/-- Take the request at the head of the queue when it is the one the command names, and let its owner act. A head of
another kind, or no head, turns the command away (log entry 5). -/
def State.takeRequest (s : State) (is : Request → Bool) (owner : SlotNo → Request → State → State) : State :=
  match s.headRequest with
  | none => s
  | some (n, req) => if is req then owner n req s.dequeue else s

/-- What an owner answers to a request: the state its action leaves, the result code and the detail. -/
structure Answer where
  state : State
  code : ResultCode
  detail : Nat
deriving DecidableEq, Repr

/-- Store an owner's answer in the slot of its request (R140). -/
def Answer.store (a : Answer) (n : SlotNo) : State := a.state.storeResult n a.code a.detail

/-- Take a request whose owner answers at once (R138, R140). -/
def State.answerRequest (s : State) (is : Request → Bool) (owner : Request → State → Answer) : State :=
  s.takeRequest is fun n req s' => (owner req s').store n

end Sys2Proof.Machine
end

