-- ==== Sys2Proof/WellFormed.lean ====
section
/-!
DEFINITION. Which commands the outside can form: host accesses are word-aligned (R130), and a completed image read has
delivered exactly the bytes the loader asks for (R153).
-/

namespace Sys2Proof

/-- A byte address that names a word: a multiple of 4 (R130). -/
def wordAligned (a : Addr) : Bool := a.toNat % 4 == 0

/-- How many bytes of the image the loader reads: the marker word and the length, then the remainder up to the length,
and no more than those six bytes when the length exceeds 512 (R153). -/
def imageReadLength (image : List Byte) : Nat :=
  let len := (image.getD 4 0).toNat * 256 + (image.getD 5 0).toNat
  if len ≤ 512 then max 6 len else 6

/-- The commands that the outside can form. -/
def Instr.wellFormed : Instr → Bool
  | .powerOn _ _ => true
  | .resetLine _ _ => true
  | .configImageLoaded acked image =>
    if acked then image.length == imageReadLength image else image.length ≤ imageReadLength image
  | .configReadTimeout => true
  | .startUpEnd => true
  | .tick => true
  | .planStale => true
  | .curtailTailEnd => true
  | .curtailInputChange => true
  | .curtailAssertionEdge => true
  | .curtailReleaseEdge => true
  | .sampleCompletion _ _ _ => true
  | .publication => true
  | .frameSent _ => true
  | .reportComplete _ => true
  | .responseWindowExpiry _ => true
  | .hostAccess _ addr _ _ => wordAligned addr
  | .planWordWrite _ _ _ _ => true
  | .heartbeatWrite _ _ => true
  | .alertConsumerIndexWrite _ _ => true
  | .triggerWrite _ _ _ => true
  | .mirrorWriteStopped addr _ _ => wordAligned addr
  | .fencedRead addr => wordAligned addr
  | .downstreamCompletion => true
  | .recordPush => true
  | .book => true
  | .cancel => true
  | .forget => true
  | .setClock => true
  | .setBayEnable => true
  | .setBayDisable => true
  | .setBaySetCap => true
  | .setBaySetPermittedModes => true
  | .setLimits => true
  | .calibrate => true
  | .restart => true
  | .unknownRequest => true
  | .calibrationCompletion _ _ _ => true
  | .characterArrival _ _ _ => true

end Sys2Proof
end

