-- ==== Sys2Proof/Machine/Operands.lean ====
section
/-!
DEFINITION. What the part reads and what it puts on the lanes, by the layouts of Record and Frame Layouts: the CRC, the
octets of a frame, the receiver's collection and the fields of a REPORT, the parameter words of a request, and the
configuration image with its checks.
-/

namespace Sys2Proof.Machine

open Sys2Proof

/-! ### The CRC (R74) -/

/-- Shift one bit of the CRC register: generator x^16 + x^12 + x^5 + 1, most significant bit first. -/
def crcShift (c : BitVec 16) : BitVec 16 := if c.msb then (c <<< 1) ^^^ 0x1021 else c <<< 1

/-- Take one octet into the CRC, most significant bit first. -/
def crcOctet (c : BitVec 16) (o : Byte) : BitVec 16 :=
  let c0 := c ^^^ (o.zeroExtend 16 <<< 8)
  crcShift (crcShift (crcShift (crcShift (crcShift (crcShift (crcShift (crcShift c0)))))))

/-- The CRC-16 of a run of octets, from the initial value 0xFFFF, without final inversion. -/
def crc16 (octets : List Byte) : BitVec 16 := octets.foldl crcOctet 0xFFFF

/-- The two octets of a CRC, high octet first (R156). -/
def crcOctets (c : BitVec 16) : List Byte := [c.extractLsb' 8 8, c.extractLsb' 0 8]

/-! ### Frames (R73, R74) -/

/-- A frame as formed: what the exchange record keeps, and the flag and the mode that go on the pair with it. -/
structure Frame where
  exchange : Exchange
  preconditionOn : Bool
  mode : Option ChargeMode
deriving DecidableEq, Repr

/-- The octets of a frame before its CRC (Bayline frames). -/
def Frame.body (f : Frame) : List Byte :=
  let head : List Byte :=
    [0xC3,
     BitVec.ofNat 8 (f.exchange.drop.val + field 4 3 f.exchange.kind.code),
     BitVec.ofNat 8 (bit f.exchange.toggle + 2 * bit f.preconditionOn + 4 * bit f.exchange.capabilityRequest)]
  match f.exchange.kind with
  | .setpoint => head ++ [BitVec.ofNat 8 f.exchange.value, BitVec.ofNat 8 (modeCode f.mode)]
  | .stop => head ++ [BitVec.ofNat 8 f.exchange.value, BitVec.ofNat 8 (modeCode f.mode)]
  | .hold => head
  | .poll => head
  | .doze => head

/-- The octets of a frame: 7 for SETPOINT and STOP, 5 for HOLD, POLL and DOZE. -/
def Frame.octets (f : Frame) : List Byte := f.body ++ crcOctets (crc16 f.body)

/-! ### The receiver (R75) -/

/-- A report's status. -/
inductive ReportStatus where
  | accept
  | busy
  | refuse
deriving DecidableEq, Repr

/-- The status of the second octet, bits 5-4; none of the three for 0 (R157). -/
def statusOf (o : Byte) : Option ReportStatus :=
  if o.extractLsb' 4 2 = 1 then some .accept
  else if o.extractLsb' 4 2 = 2 then some .busy
  else if o.extractLsb' 4 2 = 3 then some .refuse
  else none

/-- The length that the second and third octets imply; none when the flags or the status are inconsistent (R75). -/
def impliedLengthOf (second third : Byte) : Option Nat :=
  let plug := third.getLsbD 1
  let vanCaps := third.getLsbD 2
  if (statusOf second).isNone then none
  else if !plug && vanCaps then none
  else if !plug then some 13
  else if !vanCaps then some 21
  else some 22

/-- The receiver as the response window opens. -/
def Receiver.start : Receiver := { octets := [], stopMissing := false, impliedLength := none, trailing := false }

/-- Keep one octet, noting a missing stop element, and fix the implied length at the third. -/
def Receiver.keep (r : Receiver) (octet : Byte) (stop : Bool) : Receiver :=
  let octets := r.octets ++ [octet]
  { r with
    octets := octets
    stopMissing := r.stopMissing || !stop
    impliedLength := if octets.length = 3 then impliedLengthOf (octets.getD 1 0) (octets.getD 2 0) else r.impliedLength }

/-- Collect one character: ignored after inconsistent flags or a trailing octet, a trailing octet after the implied length,
kept otherwise (R75; log entry 14 on the trailing octet's stop element). -/
def Receiver.take (r : Receiver) (octet : Byte) (stop : Bool) : Receiver :=
  if r.inconsistent || r.trailing then r
  else if r.whole then { r with trailing := true }
  else r.keep octet stop

/-! ### The REPORT (R77, R78) -/

/-- A good report's fields (R78). `plug` is the van tag and van energy when the plug-present flag is set. -/
structure Report where
  status : ReportStatus
  toggleEcho : Bool
  plug : Option (Tag × Nat)
  postSet : ModeSet
  vanSet : Option ModeSet
  applied : Nat
  postCeiling : Nat
  measuredPower : Nat
  meter : Nat
deriving DecidableEq, Repr

/-- A field of several octets, most significant octet first (R156). -/
def bigEndian (octets : List Byte) : Nat := octets.foldl (fun acc o => acc * 256 + o.toNat) 0

/-- The field of `count` octets or bytes at position `at` (counted from 0). -/
def fieldAt (octets : List Byte) (start count : Nat) : Nat := bigEndian ((octets.drop start).take count)

/-- The fields of a report's octets (REPORT table; R78: setpoints above 220 are taken as 220). -/
def readReport (status : ReportStatus) (o : List Byte) : Report :=
  let flags := o.getD 2 0
  let plug := flags.getLsbD 1
  { status := status
    toggleEcho := flags.getLsbD 0
    plug := if plug then some (BitVec.ofNat 48 (fieldAt o 11 6), fieldAt o 17 2) else none
    postSet := (o.getD 3 0).extractLsb' 0 4
    vanSet := if flags.getLsbD 2 then some ((o.getD 19 0).extractLsb' 0 4) else none
    applied := min 220 (o.getD 4 0).toNat
    postCeiling := min 220 (o.getD 5 0).toNat
    measuredPower := fieldAt o 6 2
    meter := fieldAt o 8 3 }

/-- How an exchange ends: a good report, or a failure kind. -/
inductive ExchangeOutcome where
  | good (report : Report)
  | failed (kind : FailureKind)
deriving DecidableEq, Repr

/-- The CRC check over the octets of a whole report (R77 check 5). -/
def crcGood (o : List Byte) : Bool := crcOctets (crc16 (o.take (o.length - 2))) == o.drop (o.length - 2)

/-- Whether a frame is a SETPOINT or a STOP, whose toggle echo is checked (R47, R77). -/
def FrameKind.carriesValue : FrameKind → Bool
  | .setpoint => true
  | .stop => true
  | .hold => false
  | .poll => false
  | .doze => false

/-- The seven checks of R77, in order, on what the receiver holds; the first that fails names the failure kind. -/
def judgeExchange (x : Exchange) (r : Receiver) : ExchangeOutcome :=
  let o := r.octets
  if r.stopMissing || (o.head?.any fun first => first != 0x3C) then .failed .framing
  else if r.inconsistent then .failed .flags
  else if !r.whole then .failed .timeout
  else if r.trailing then .failed .overrun
  else if !crcGood o then .failed .crc
  else if (o.getD 1 0).extractLsb' 0 3 != BitVec.ofNat 3 x.drop.val then .failed .dropEcho
  else
    match statusOf (o.getD 1 0) with
    | none => .failed .flags
    | some status =>
      let report := readReport status o
      if status = .accept && x.kind.carriesValue && report.toggleEcho != x.toggle then .failed .downlink
      else .good report

/-! ### Parameter words of requests (Plan window) -/

/-- A request's parameter word as an unsigned value (R157). -/
def Request.word (r : Request) (i : Fin 7) : Nat := (r.words.get i).toNat

/-- A tag spread over words 0 and 1: bits 31-0, then bits 47-32 in bits 15-0. -/
def Request.vanTag (r : Request) : Tag := (r.words.get 1).extractLsb' 0 16 ++ r.words.get 0

/-- BOOK's precondition-present flag: bit 0 of word 4. -/
def Request.preconditionFlag (r : Request) : Bool := (r.words.get 4).getLsbD 0

/-- The request codes of R140's table. -/
def knownCode (c : Byte) : Bool :=
  c == 0x01 || c == 0x02 || c == 0x03 || c == 0x10 || c == 0x11 || c == 0x12 || c == 0x13 || c == 0x1F

/-- A SET BAY request that the command for one action takes: that action, or an action outside 1-4, which every SET BAY
command answers alike (log entry 9). -/
def Request.isSetBay (r : Request) (action : Nat) : Bool :=
  r.code == 0x11 && (r.word 1 == action || r.word 1 == 0 || 4 < r.word 1)

/-! ### The configuration image (R153, Configuration image) -/

/-- The interval lengths (R154). -/
def intervalLengthOk (n : Nat) : Bool := n == 1 || n == 2 || n == 5 || n == 10

/-- The range of parameters 1 to 24 (R154), by number, on the image's bytes. -/
def scalarOk (i : List Byte) : Nat → Bool
  | 1 => intervalLengthOk (fieldAt i 6 1)
  | 2 => fieldAt i 7 2 == 0 || (10 ≤ fieldAt i 7 2 && fieldAt i 7 2 ≤ 3600)
  | 3 => fieldAt i 9 3 % 4096 == 0
  | 4 => fieldAt i 12 3 % 16384 == 0
  | 5 => fieldAt i 15 1 ≤ 168
  | 6 => fieldAt i 16 2 ≤ 1000
  | 7 => fieldAt i 18 1 ≤ 180
  | 8 => 30 ≤ fieldAt i 19 2 && fieldAt i 19 2 ≤ 1440
  | 9 => fieldAt i 21 4 ≤ 86399
  | 10 => 1 ≤ fieldAt i 25 2 && fieldAt i 25 2 ≤ 20000
  | 11 => 2 ≤ fieldAt i 27 1 && fieldAt i 27 1 ≤ 15
  | 12 => fieldAt i 28 1 ≤ 255
  | 13 => fieldAt i 29 1 ≤ 2
  | 14 => 1 ≤ fieldAt i 30 1
  | 15 => 100 ≤ fieldAt i 31 2 && fieldAt i 31 2 ≤ 300
  | 16 => 1 ≤ fieldAt i 33 2 && fieldAt i 33 2 ≤ 4000
  | 17 => 100 ≤ fieldAt i 35 2
  | 18 => fieldAt i 37 2 ≤ 10000
  | 19 => fieldAt i 39 2 ≤ 65535
  | 20 => 1 ≤ fieldAt i 41 1 && fieldAt i 41 1 ≤ 25
  | 21 => fieldAt i 42 1 ≤ 50
  | 22 => fieldAt i 43 1 ≤ 60
  | 23 => 1 ≤ fieldAt i 44 1 && fieldAt i 44 1 ≤ 10
  | 24 => 8 ≤ fieldAt i 45 1 && fieldAt i 45 1 ≤ 120
  | _ => true

/-- Mode table entry `k` (0 is M1): a maximum of 1-220 and a minimum run up to it. -/
def modeOk (i : List Byte) (k : Nat) : Bool :=
  let top := fieldAt i (46 + 2 * k) 1
  1 ≤ top && top ≤ 220 && fieldAt i (47 + 2 * k) 1 ≤ top

/-- Bay entry `b`: none of bits 6-4 set in its first byte (R157), and a cap of 0-220. -/
def bayOk (i : List Byte) (b : Nat) : Bool :=
  ((i.getD (54 + 2 * b) 0).extractLsb' 4 3 == 0) && fieldAt i (55 + 2 * b) 1 ≤ 220

/-- Whether parameter `n` of 1 to 76 lies in its range. -/
def parameterOk (i : List Byte) (n : Nat) : Bool :=
  if n ≤ 24 then scalarOk i n
  else if n ≤ 28 then modeOk i (n - 25)
  else bayOk i (n - 29)

/-- The number of the first parameter outside its range (R153 check 5). -/
def firstOutOfRange (i : List Byte) : Option Nat := (List.range' 1 76).find? fun n => !parameterOk i n

/-- The windows share an address when the plan base, less the mirror base, lies in 0-16,383 (R153 check 6). -/
def windowsOverlap (plan mirror : Addr) : Bool := (plan - mirror).toNat < 16384

/-- A mode table entry of the image. -/
def imageMode (i : List Byte) (k : Nat) : ModeEntry :=
  { maximum := fieldAt i (46 + 2 * k) 1, minimumRun := fieldAt i (47 + 2 * k) 1 }

/-- A bay entry of the image: bit 7 enable, bits 3-0 permitted modes, then the cap. -/
def imageBay (i : List Byte) (b : Nat) : BaySetting :=
  { enabled := (i.getD (54 + 2 * b) 0).getLsbD 7
    permitted := (i.getD (54 + 2 * b) 0).extractLsb' 0 4
    cap := fieldAt i (55 + 2 * b) 1 }

/-- The lane rate of parameter 13. -/
def imageLaneRate (n : Nat) : LaneRate := if n = 0 then .kbit250 else if n = 1 then .kbit500 else .kbit1000

/-- The parameters of an image. -/
def readParams (i : List Byte) : Params where
  intervalLength := fieldAt i 6 1
  planStalePeriod := fieldAt i 7 2
  planWindowBase := BitVec.ofNat 24 (fieldAt i 9 3)
  mirrorWindowBase := BitVec.ofNat 24 (fieldAt i 12 3)
  agingHours := fieldAt i 15 1
  readyHysteresis := fieldAt i 16 2
  departLeadMinutes := fieldAt i 18 1
  expiryHoldMinutes := fieldAt i 19 2
  defaultDepartureTime := fieldAt i 21 4
  defaultTarget := fieldAt i 25 2
  failureLimit := fieldAt i 27 1
  dozeDelay := fieldAt i 28 1
  laneRate := imageLaneRate (fieldAt i 29 1)
  responseWindowMs := fieldAt i 30 1
  phaseVoltage := fieldAt i 31 2
  currentScale := fieldAt i 33 2
  limits := { feederLimit := fieldAt i 35 2, margin := fieldAt i 37 2, curtailCeiling := fieldAt i 39 2 }
  releaseBand := fieldAt i 41 1
  overloadTrim := fieldAt i 42 1
  curtailTailMinutes := fieldAt i 43 1
  skipLimit := fieldAt i 44 1
  logLength := fieldAt i 45 1
  modeM1 := imageMode i 0
  modeM2 := imageMode i 1
  modeM3 := imageMode i 2
  modeM4 := imageMode i 3
  bays := Vector.ofFn fun b => imageBay i b.val

/-- What the check of an image gives: the parameters, or the reason the defaults are taken. -/
inductive ImageCheck where
  | used (params : Params)
  | failed (reason : ConfigReason)
deriving DecidableEq, Repr

/-- The checks of R153 in order. A byte that was not delivered counts as not acknowledged. -/
def checkImage (acked : Bool) (i : List Byte) : ImageCheck :=
  if !acked || decide (i.length < imageReadLength i) then .failed .noAck
  else if fieldAt i 0 4 ≠ 0x7E43D448 then .failed .marker
  else if fieldAt i 4 2 ≠ 152 then .failed .length
  else if (crc16 (i.take 150)).toNat ≠ fieldAt i 150 2 then .failed .crc
  else
    match firstOutOfRange i with
    | some n => .failed (.range n)
    | none =>
      if windowsOverlap (readParams i).planWindowBase (readParams i).mirrorWindowBase then .failed .windows
      else .used (readParams i)

end Sys2Proof.Machine
end

