-- ==== Sys2Proof/Machine/Book.lean ====
section
/-!
DEFINITION. The Departure Book (chapter 2): placing and removing bookings, BOOK and CANCEL, the claims of the Bay Manager,
the time scan of the tick, and default bookings.
-/

namespace Sys2Proof.Machine

open Sys2Proof

/-- Place a booking as newly taken: after every booking of the same or an earlier departure (R21). -/
def placeBooking (b : Booking) : List Booking → List Booking
  | [] => [b]
  | x :: rest => if b.departure.toNat < x.departure.toNat then b :: x :: rest else x :: placeBooking b rest

/-- The book without the booking for a tag. -/
def withoutTag (t : Tag) (book : List Booking) : List Booking := book.filter fun b => b.tag != t

/-- The lowest internal index that holds no booking (R20). -/
def freeBookIx (book : List Booking) : Option BookIx :=
  (List.finRange 160).find? fun i => book.all fun b => b.index != i

/-- The rank at which an internal index stands in the book (R20). -/
def rankIn (book : List Booking) (i : BookIx) : Nat := ((bookView book 1 i).map Prod.fst).getD 0

/-- The state of a booking newly taken, from the Van Roster (R23). -/
def State.freshBookingState (s : State) (t : Tag) (target : Nat) : BookingState :=
  match s.rosterEntry t with
  | none => .waiting
  | some e => if e.bay.isNone then .waiting else if target ≤ e.lastEnergy then .ready else .charging

/-! ### BOOK (R22 to R24) -/

/-- The precondition part of a BOOK request: absent when the flag is clear. -/
def Request.precondition (r : Request) : Option Precondition :=
  if r.preconditionFlag then some { power := r.word 5, leadMinutes := r.word 6 } else none

/-- The first check of R22 that fails, with its result and detail. -/
def State.bookCheck (s : State) (r : Request) : Option (ResultCode × Nat) :=
  if !s.clock.valid then some (.noClock, 0)
  else if r.word 2 ≤ s.clock.depotSeconds.toNat then some (.badField, 1)
  else if r.word 3 = 0 ∨ 20000 < r.word 3 then some (.badField, 2)
  else if r.preconditionFlag ∧ 100 < r.word 5 then some (.badField, 3)
  else if r.preconditionFlag ∧ 120 < r.word 6 then some (.badField, 4)
  else if 160 ≤ s.book.length ∧ !s.isBooked r.vanTag then some (.full, 160)
  else none

/-- The booking a BOOK makes at an internal index, with the delivered figure it starts from (R23, R24). -/
def State.bookingFor (s : State) (r : Request) (i : BookIx) (delivered : Nat) : Booking :=
  { index := i
    tag := r.vanTag
    departure := r.words.get 2
    target := r.word 3
    precondition := r.precondition
    origin := .byHost
    state := s.freshBookingState r.vanTag (r.word 3)
    delivered := delivered }

/-- The detail of BOOK DONE: the internal index in bits 7-0, the rank after placing in bits 15-8. -/
def bookDetail (book : List Booking) (i : BookIx) : Nat := field 0 8 i.val + field 8 8 (rankIn book i)

/-- Make or replace the tag's booking: a replacement keeps its internal index and delivered figure, and its record is dirty
whatever changed (R23, R24, R40). -/
def State.takeBook (s : State) (r : Request) : Answer :=
  match s.booking r.vanTag with
  | some old =>
    let book := placeBooking (s.bookingFor r old.index old.delivered) (withoutTag r.vanTag s.book)
    { state := (s.setBook book).mark (.booking old.index), code := .done, detail := bookDetail book old.index }
  | none =>
    match freeBookIx s.book with
    | none => { state := s, code := .full, detail := 160 }
    | some i =>
      let book := placeBooking (s.bookingFor r i 0) s.book
      { state := s.setBook book, code := .done, detail := bookDetail book i }

/-- The Book's answer to BOOK (R22). -/
def State.answerBook (s : State) (r : Request) : Answer :=
  match s.bookCheck r with
  | some (code, detail) => { state := s, code := code, detail := detail }
  | none => s.takeBook r

/-- BOOK: the request at the head of the queue is taken (R22, R140). -/
def execBook (s : State) : Result := .next (s.answerRequest (fun r => r.code == 0x01) fun r s' => s'.answerBook r)

/-! ### CANCEL (R25) -/

/-- The Book's answer to CANCEL (R25). -/
def State.answerCancel (s : State) (r : Request) : Answer :=
  match s.booking r.vanTag with
  | some b => { state := s.setBook (withoutTag r.vanTag s.book), code := .done, detail := b.index.val }
  | none => { state := s, code := .notFound, detail := 0 }

/-- CANCEL: the request at the head of the queue is taken (R25, R140). -/
def execCancel (s : State) : Result := .next (s.answerRequest (fun r => r.code == 0x02) fun r s' => s'.answerCancel r)

/-! ### Claims of the Bay Manager (R26 to R30) -/

/-- Change the booking for a tag in its place. -/
def State.updBooking (s : State) (t : Tag) (f : Booking → Booking) : State :=
  s.setBook (s.book.map fun b => if b.tag = t then f b else b)

/-- Move a booking to a state, raising READY when asked. -/
def State.moveBooking (s : State) (t : Tag) (st : BookingState) : State := s.updBooking t fun b => { b with state := st }

/-- A bind claim: the tag became bound at a bay, with the energy of the report (R26). -/
def State.bindClaim (s : State) (t : Tag) (b : BayNo) (energy : Nat) : State :=
  match s.booking t with
  | none => s
  | some k =>
    match k.state with
    | .waiting =>
      if k.target ≤ energy then (s.moveBooking t .ready).raise (.ready energy) (some b) (some t) else s.moveBooking t .charging
    | .short => if k.target ≤ energy then (s.moveBooking t .ready).raise (.ready energy) (some b) (some t) else s
    | .charging => s
    | .ready => s

/-- The energy of a good report from the bay that holds the tag's binding (R27). -/
def State.energyClaim (s : State) (t : Tag) (b : BayNo) (energy : Nat) : State :=
  match s.booking t with
  | none => s
  | some k =>
    match k.state with
    | .charging => if k.target ≤ energy then (s.moveBooking t .ready).raise (.ready energy) (some b) (some t) else s
    | .short => if k.target ≤ energy then (s.moveBooking t .ready).raise (.ready energy) (some b) (some t) else s
    | .ready => if energy + s.config.loaded.readyHysteresis < k.target then s.moveBooking t .charging else s
    | .waiting => s

/-- The departure window is open at the present depot time: from departure less the depart lead onwards (R28). -/
def State.inDepartureWindow (s : State) (k : Booking) : Bool :=
  k.departure.toNat ≤ s.clock.depotSeconds.toNat + 60 * s.config.loaded.departLeadMinutes

/-- The state a booking takes when its tag is released outside the departure window, or on CLOSING (R28, R29). -/
def BookingState.released : BookingState → BookingState
  | .charging => .waiting
  | .ready => .waiting
  | .short => .short
  | .waiting => .waiting

/-- Departure judged at a release by a bay; `finalEnergy` is the roster entry's last van energy at the release (R28). -/
def State.judgeDeparture (s : State) (t : Tag) (b : BayNo) (finalEnergy : Nat) : State :=
  match s.booking t with
  | none => s
  | some k =>
    if s.inDepartureWindow k then
      (s.setBook (withoutTag t s.book)).raise (.departed finalEnergy k.delivered) (some b) (some t)
    else s.moveBooking t k.state.released

/-- The booking's move when its bay enters CLOSING (R29). -/
def State.closingClaim (s : State) (t : Tag) : State :=
  match s.booking t with
  | none => s
  | some k => s.moveBooking t k.state.released

/-- Add an accepted meter delta to the delivered figure of a tag's booking, saturating at 16,777,215 (R30). DEDUCED (log entry 37):
a delta of 0, or a figure already at its top, leaves the record as it was and does not mark it. -/
def State.addDelivered (s : State) (t : Tag) (delta : Nat) : State :=
  s.updBooking t fun b => { b with delivered := min 16777215 (b.delivered + delta) }

/-! ### The time scan (R31, R32) -/

/-- What the scan does to one booking. -/
inductive ScanResult where
  | kept
  | becameShort
  | expired
deriving DecidableEq, Repr

/-- The scan's judgement of a booking at the present depot time: EXPIRED before SHORT (R31, R32). -/
def State.scanJudge (s : State) (b : Booking) : ScanResult :=
  let t := s.clock.depotSeconds.toNat
  if b.departure.toNat + 60 * s.config.loaded.expiryHoldMinutes < t then .expired
  else
    match b.state with
    | .waiting => if b.departure.toNat ≤ t then .becameShort else .kept
    | .charging => if b.departure.toNat ≤ t then .becameShort else .kept
    | .ready => .kept
    | .short => .kept

/-- What is left of a booking after the scan's judgement. -/
def scanned (b : Booking) : ScanResult → Option Booking
  | .kept => some b
  | .becameShort => some { b with state := .short }
  | .expired => none

/-- The shortfall of SHORT: the target less the roster entry's last van energy, the whole target without an entry, 0 when
below 0 (R31). -/
def State.shortfall (s : State) (b : Booking) : Nat :=
  b.target - ((s.rosterEntry b.tag).map RosterEntry.lastEnergy).getD 0

/-- The alert that the scan's judgement of a booking raises (R31, R32). -/
def State.scanAlert (s : State) (b : Booking) (j : ScanResult) : State :=
  match j with
  | .kept => s
  | .becameShort => s.raise (.short (s.shortfall b)) (s.boundBay b.tag) (some b.tag)
  | .expired => s.raise (.expired b.delivered b.state) (s.boundBay b.tag) (some b.tag)

/-- The scan of every booking at a tick, in departure order (R31, R32; log entry 10). -/
def State.bookScan (s : State) : State :=
  let s1 := s.setBook (s.book.filterMap fun b => scanned b (s.scanJudge b))
  s.book.foldl (fun acc b => acc.scanAlert b (s.scanJudge b)) s1

/-! ### Default bookings (R34, R35) -/

/-- The next occurrence, strictly after `t`, of the default departure time of day (R35). -/
def nextDeparture (t timeOfDay : Nat) : Nat :=
  let first := t / 86400 * 86400 + timeOfDay
  if first ≤ t then first + 86400 else first

/-- The default departure at the present depot time. -/
def State.defaultDeparture (s : State) : Nat :=
  nextDeparture s.clock.depotSeconds.toNat s.config.loaded.defaultDepartureTime

/-- Whether the Book makes a default booking for a tag (R34). -/
def State.wantsDefault (s : State) (t : Tag) : Bool :=
  !s.isBooked t && s.clock.plan.isAutonomous && s.clock.valid && s.book.length < 160 && s.defaultDeparture ≤ 4294967295

/-- The default booking check of a tag, and the booking made when it passes (R34, R35). -/
def State.defaultCheck (s : State) (t : Tag) : State :=
  if s.wantsDefault t then
    match freeBookIx s.book with
    | none => s
    | some i =>
      let target := s.config.loaded.defaultTarget
      s.setBook (placeBooking
        { index := i, tag := t, departure := BitVec.ofNat 32 s.defaultDeparture, target := target, precondition := none,
          origin := .byDefault, state := s.freshBookingState t target, delivered := 0 } s.book)
  else s

end Sys2Proof.Machine
end

