-- ==== Sys2Proof/Machine/Roster.lean ====
section
/-!
DEFINITION. The Van Roster (chapter 1): the hand-over of a reported tag, bind requests with their six cases, releases, the
aging step, and FORGET.
-/

namespace Sys2Proof.Machine

open Sys2Proof

/-- The lowest free index (R6). -/
def State.freeRosterIx (s : State) : Option RosterIx :=
  (List.finRange 128).find? fun i => (s.roster.entries.get i).isNone

/-- An entry that eviction or aging may remove: PARKED, with no booking (R7, R13). -/
def State.removable (s : State) (e : RosterEntry) : Bool := e.bay.isNone && !s.isBooked e.tag

/-- Of two candidates for eviction, the one with the smaller last-seen time; the first on a tie (R7). -/
def olderOf (best : Option (RosterIx × RosterEntry)) (i : RosterIx) (e : RosterEntry) : Option (RosterIx × RosterEntry) :=
  match best with
  | none => some (i, e)
  | some (j, f) => if e.lastSeen.toNat < f.lastSeen.toNat then some (i, e) else some (j, f)

/-- The entry eviction chooses: the removable entry with the smallest last-seen time, the lowest index on a tie (R7). -/
def State.evictee (s : State) : Option (RosterIx × RosterEntry) :=
  (List.finRange 128).foldl
    (fun best i =>
      match s.roster.entries.get i with
      | none => best
      | some e => if s.removable e then olderOf best i e else best) none

/-- The hand-over of a plugged report's tag: the entry's last-seen time, and its energy when it is BOUND to the reporting
bay (R3). -/
def State.rosterHandOver (s : State) (t : Tag) (b : BayNo) (energy : Nat) : State :=
  match s.rosterFind t with
  | none => s
  | some i =>
    match s.roster.entries.get i with
    | none => s
    | some e =>
      s.setRoster i (some { e with
        lastSeen := s.clock.depotSeconds
        lastEnergy := if e.bay = some b then energy else e.lastEnergy })

/-- An entry for a tag, bound to a bay at the present depot time with the report's energy (R4). -/
def State.boundEntry (s : State) (t : Tag) (b : BayNo) (energy : Nat) : RosterEntry :=
  { tag := t, bay := some b, plugIn := s.clock.depotSeconds, lastSeen := s.clock.depotSeconds, lastEnergy := energy }

/-- Bind a tag to a bay at an index; the entry's record is dirty (R4). -/
def State.bindAt (s : State) (i : RosterIx) (t : Tag) (b : BayNo) (energy : Nat) : State :=
  (s.setRoster i (some (s.boundEntry t b energy))).mark (.roster i)

/-- A migration away from a LOST bay: its bound tag is cleared (R59). -/
def State.migrateAway (s : State) (p : BayNo) : State := s.updBay p fun r => { r with boundTag := none }

/-- A lost tag clash: the bay enters UNLISTED with the lost tag, and a FAULTED bay raises BAY CLEAR (R10, R59). -/
def State.clashAway (s : State) (p : BayNo) (t : Tag) : State :=
  let wasFaulted := (s.bay p).state == .faulted
  let s' := s.updBay p fun r =>
    { r with state := .unlisted, boundTag := none, agreedMode := none, unlistedTag := some t }
  if wasFaulted then s'.raise (.bayClear .unlisted) (some p) none else s'

/-- Rebind an entry that is BOUND to another bay p: migration when p is LOST, tag clash otherwise (R9, R10). -/
def State.rebind (s : State) (i : RosterIx) (p : BayNo) (t : Tag) (b : BayNo) (energy : Nat) : RosterAnswer × State :=
  if (s.bay p).state = .lost then
    (.migration, ((s.bindAt i t b energy).migrateAway p).raise (.vanMoved p) (some b) (some t))
  else
    (.clash, ((s.bindAt i t b energy).raise (.tagClash p) (some b) (some t)).clashAway p t)

/-- Learn a tag that the roster does not hold: at the lowest free index, by eviction, or refused (R6 to R8). -/
def State.learn (s : State) (t : Tag) (b : BayNo) (energy : Nat) : RosterAnswer × State :=
  match s.freeRosterIx with
  | some i => (.bound, (s.bindAt i t b energy).bindClaim t b energy)
  | none =>
    match s.evictee with
    | some (i, e) =>
      (.bound, ((s.bindAt i t b energy).raise (.rosterEvict i) (some b) (some e.tag)).bindClaim t b energy)
    | none => (.refused, s.raise (.rosterFull s.boundCount) (some b) (some t))

/-- A bind request of bay b for tag t, by the first case of R4 that applies. The Book takes the bind claim of a tag that
became bound (R26). -/
def State.bindRequest (s : State) (t : Tag) (b : BayNo) (energy : Nat) : RosterAnswer × State :=
  match s.rosterFind t with
  | none => s.learn t b energy
  | some i =>
    match (s.roster.entries.get i).bind RosterEntry.bay with
    | some p => if p = b then (.bound, s.bindAt i t b energy) else s.rebind i p t b energy
    | none => (.bound, (s.bindAt i t b energy).bindClaim t b energy)

/-- Release a tag at a bay: the entry BOUND to that bay becomes PARKED (R11). -/
def State.rosterRelease (s : State) (t : Tag) (b : BayNo) : State :=
  match s.rosterFind t with
  | none => s
  | some i =>
    match s.roster.entries.get i with
    | none => s
    | some e => if e.bay = some b then s.setRoster i (some { e with bay := none }) else s

/-- The last van energy of a tag's entry; 0 without one. -/
def State.rosterEnergy (s : State) (t : Tag) : Nat := ((s.rosterEntry t).map RosterEntry.lastEnergy).getD 0

/-! ### Aging (R13, R14) -/

/-- An entry's age in seconds; 0 when its last-seen time lies ahead (R13, R14). -/
def State.age (s : State) (e : RosterEntry) : Nat := s.clock.depotSeconds.toNat - e.lastSeen.toNat

/-- Whether the aging step removes an entry (R13). -/
def State.agedOut (s : State) (e : RosterEntry) : Bool :=
  s.config.loaded.agingHours != 0 && s.removable e && 3600 * s.config.loaded.agingHours < s.age e

/-- The aging step of a tick: examine the entry at the aging position, then advance it (R13). -/
def State.agingStep (s : State) : State :=
  let i := s.roster.agingPosition
  let s1 :=
    match s.roster.entries.get i with
    | none => s
    | some e => if s.agedOut e then (s.setRoster i none).raise (.vanAged i) none (some e.tag) else s
  { s1 with roster := { s1.roster with agingPosition := i + 1 } }

/-! ### FORGET (R16) -/

/-- The roster's answer to FORGET (R16). -/
def State.answerForget (s : State) (r : Request) : Answer :=
  match s.rosterFind r.vanTag with
  | none => { state := s, code := .notFound, detail := 0 }
  | some i =>
    match (s.roster.entries.get i).bind RosterEntry.bay with
    | some b => { state := s, code := .inUse, detail := b.val }
    | none => { state := s.setRoster i none, code := .done, detail := i.val }

/-- FORGET: the request at the head of the queue is taken (R16, R140). -/
def execForget (s : State) : Result := .next (s.answerRequest (fun r => r.code == 0x03) fun r s' => s'.answerForget r)

end Sys2Proof.Machine
end

