-- ==== Sys2Proof/Machine/Bays.lean ====
section
/-!
DEFINITION. The Bay Manager (chapter 3): the arrival of a good report with its five steps, failed exchanges, and SET BAY.
-/

namespace Sys2Proof.Machine

open Sys2Proof

/-! ### Link updates, toggle and metering (R46 to R48) -/

/-- The van energy a report sets: the plugged report's, or what was held (R46). -/
def Report.energyOr (r : Report) (held : Nat) : Nat :=
  match r.plug with
  | some (_, e) => e
  | none => held

/-- Whether a good report flips the toggle: ACCEPT after a SETPOINT or STOP with a matching echo (R47). -/
def flipsToggle (x : Exchange) (r : Report) : Bool :=
  r.status == .accept && x.kind.carriesValue && r.toggleEcho == x.toggle

/-- The link updates of every good report and the toggle flip (R46, R47). -/
def State.linkUpdate (s : State) (b : BayNo) (x : Exchange) (r : Report) : State :=
  s.updBay b fun bay =>
    { bay with
      failureCount := 0
      confirmed := r.applied
      unresolved := 0
      unknown := false
      postCeiling := r.postCeiling
      measuredPower := r.measuredPower
      lastGoodTime := s.clock.depotSeconds
      lastGoodInterval := s.clock.interval
      lastEnergy := r.energyOr bay.lastEnergy
      toggle := if flipsToggle x r then !bay.toggle else bay.toggle }

/-- The meter delta: (m - baseline) mod 16,777,216 (R48). -/
def meterDelta (m baseline : Nat) : Nat := (m + 16777216 - baseline) % 16777216

/-- Count an accepted delta into the interval's delivered total (R115), saturating (R100). -/
def State.addDeliveredTotal (s : State) (delta : Nat) : State :=
  { s with allocator := { s.allocator with deliveredTotal := min 4294967295 (s.allocator.deliveredTotal + delta) } }

/-- Count an accepted delta: the delivered total, and the booking of the tag bound at arrival (R48, R30). DEDUCED (log entry 31):
at a van exchange that is the old van's booking, whose energy the delta is. -/
def State.countDelta (s : State) (held : Option Tag) (delta : Nat) : State :=
  match held with
  | none => s.addDeliveredTotal delta
  | some t => (s.addDeliveredTotal delta).addDelivered t delta

/-- Meter accounting of a good report against the binding held at its arrival: no baseline counts nothing, a delta above
2,000 is a discontinuity, and the baseline becomes the report's value (R48). -/
def State.meterAccount (s : State) (b : BayNo) (held : Option Tag) (m : Nat) : State :=
  let s1 := s.updBay b fun bay => { bay with meterBaseline := some m }
  match (s.bay b).meterBaseline with
  | none => s1
  | some base => if meterDelta m base ≤ 2000 then s1.countDelta held (meterDelta m base) else s1

/-! ### Binding, releasing and moving a bay -/

/-- The bay's move by the roster's answer: AGREEING bound to the tag with its meter baseline cleared, or UNLISTED with the
reported tag (R48, R49, R52). -/
def State.moveByAnswer (s : State) (b : BayNo) (t : Tag) (a : RosterAnswer) : State :=
  if a = .refused then
    s.updBay b fun bay =>
      { bay with state := .unlisted, boundTag := none, agreedMode := none, unlistedTag := some t, emptyRounds := 0 }
  else
    s.updBay b fun bay =>
      { bay with
        state := .agreeing, boundTag := some t, agreedMode := none, unlistedTag := none, emptyRounds := 0, meterBaseline := none }

/-- Make a bind request for a bay without a binding and move the bay by the answer (R4, R49). -/
def State.bindBay (s : State) (b : BayNo) (t : Tag) (energy : Nat) : RosterAnswer × State :=
  let a := s.bindRequest t b energy
  (a.1, a.2.moveByAnswer b t a.1)

/-- Learning: bind, then PLUG IN with the roster's answer, in every case (R49). -/
def State.plugIn (s : State) (b : BayNo) (t : Tag) (energy : Nat) : State :=
  let a := s.bindBay b t energy
  a.2.raise (.plugIn a.1) (some b) (some t)

/-- An UNLISTED bay's retry: PLUG IN when bound, nothing more when refused (R52; log entry 11). -/
def State.retryLearning (s : State) (b : BayNo) (t : Tag) (energy : Nat) : State :=
  let a := s.bindBay b t energy
  if a.1 = .refused then a.2 else a.2.raise (.plugIn a.1) (some b) (some t)

/-- Clear a bay's bound tag and the roster's side of it (R11). -/
def State.unbind (s : State) (b : BayNo) (t : Tag) : State :=
  (s.updBay b fun bay => { bay with boundTag := none }).rosterRelease t b

/-- Release a bay's binding with the departure judgement (R11, R28). -/
def State.releaseBay (s : State) (b : BayNo) (t : Tag) : State := (s.unbind b t).judgeDeparture t b (s.rosterEnergy t)

/-- A different tag at a bound bay: release with UNPLUG for the old tag, then learning of the new (R51). -/
def State.exchangeVan (s : State) (b : BayNo) (old t : Tag) (energy : Nat) : State :=
  let left := (s.bay b).state
  let s1 := (s.releaseBay b old).raise (.unplug left) (some b) (some old)
  (s1.updBay b fun bay => { bay with agreedMode := none }).plugIn b t energy

/-- Unplug processing, up to and with UNPLUG (R54). -/
def State.unplugBay (s : State) (b : BayNo) : State :=
  let left := (s.bay b).state
  let held := (s.bay b).boundTag
  let s1 :=
    match held with
    | none => s
    | some t => s.releaseBay b t
  (s1.updBay b fun bay =>
    { bay with state := .empty, boundTag := none, agreedMode := none, unlistedTag := none, emptyRounds := 0 }).raise
      (.unplug left) (some b) held

/-- A bay comes back to AGREEING keeping its binding (R53, R57). -/
def State.agreeAgain (s : State) (b : BayNo) : State :=
  s.updBay b fun bay => { bay with state := .agreeing, agreedMode := none }

/-- Raise a bay alert with the bay's bound tag or none (R64). -/
def State.raiseForBay (s : State) (b : BayNo) (kind : AlertKind) : State := s.raise kind (some b) (s.bay b).boundTag

/-! ### Mode agreement (R50) -/

/-- The van capability set the report settles agreement with: its own, or {M1} for a legacy van on an ACCEPT that answers
a POLL with the capability request; none in the remaining cases (R50). -/
def agreementSet (x : Exchange) (r : Report) : Option ModeSet :=
  match r.vanSet with
  | some v => some v
  | none => if r.status = .accept ∧ x.kind = .poll ∧ x.capabilityRequest then some legacySet else none

/-- Settle agreement from a van set: the highest common mode, or INCOMPATIBLE (R50). -/
def State.settle (s : State) (b : BayNo) (van post : ModeSet) : State :=
  let common := van &&& post &&& (s.bay b).permitted
  match highestMode common with
  | some m =>
    (s.updBay b fun bay => { bay with state := .plugged, agreedMode := some m }).raiseForBay b (.modeAgreed m common)
  | none => (s.updBay b fun bay => { bay with state := .incompatible }).raiseForBay b (.incompatible van post)

/-- A report naming the bound tag at an AGREEING bay (R50). -/
def State.agree (s : State) (b : BayNo) (x : Exchange) (r : Report) : State :=
  match agreementSet x r with
  | some van => s.settle b van r.postSet
  | none => s

/-! ### The state step (R49 to R57) -/

/-- A no-plug report at EMPTY: the empty-round count rises unless it equals the doze delay or dozing is off (R49). -/
def State.countEmptyRound (s : State) (b : BayNo) : State :=
  s.updBay b fun bay =>
    { bay with
      emptyRounds :=
        if s.config.loaded.dozeDelay = 0 ∨ bay.emptyRounds = s.config.loaded.dozeDelay then bay.emptyRounds
        else bay.emptyRounds + 1 }

/-- Enter FAULTED on REFUSE; a binding held is kept (R53). -/
def State.enterFaulted (s : State) (b : BayNo) : State :=
  s.updBay b fun bay => { bay with state := .faulted, agreedMode := none, unlistedTag := none, emptyRounds := 0 }

/-- The step of a REFUSE report (R53, R57): a LOST bay raises BAY BACK before BAY FAULT. -/
def State.refuseStep (s : State) (b : BayNo) : State :=
  let left := (s.bay b).state
  if left = .faulted then s
  else
    let s1 := s.enterFaulted b
    let s2 := if left = .lost then s1.raiseForBay b (.bayBack .faulted) else s1
    s2.raiseForBay b (.bayFault left)

/-- The step of an ACCEPT or BUSY report at EMPTY (R49). -/
def State.stepEmpty (s : State) (b : BayNo) (r : Report) : State :=
  match r.plug with
  | some (t, e) => s.plugIn b t e
  | none => s.countEmptyRound b

/-- The step of an ACCEPT or BUSY report at DOZING (R49). -/
def State.stepDozing (s : State) (b : BayNo) (r : Report) : State :=
  match r.plug with
  | some (t, e) => s.plugIn b t e
  | none => s

/-- The step at AGREEING (R50, R51, R54). -/
def State.stepAgreeing (s : State) (b : BayNo) (x : Exchange) (r : Report) : State :=
  match r.plug, (s.bay b).boundTag with
  | none, _ => s.unplugBay b
  | some (t, e), some old => if t = old then s.agree b x r else s.exchangeVan b old t e
  | some (t, e), none => s.plugIn b t e

/-- The step at PLUGGED and INCOMPATIBLE (R51, R54). -/
def State.stepSettled (s : State) (b : BayNo) (r : Report) : State :=
  match r.plug, (s.bay b).boundTag with
  | none, _ => s.unplugBay b
  | some (t, e), some old => if t = old then s else s.exchangeVan b old t e
  | some (t, e), none => s.plugIn b t e

/-- A tag is BOUND to a bay other than this one. -/
def State.boundElsewhere (s : State) (t : Tag) (b : BayNo) : Bool :=
  match s.boundBay t with
  | none => false
  | some p => p != b

/-- The step at UNLISTED (R52, R54). -/
def State.stepUnlisted (s : State) (b : BayNo) (r : Report) : State :=
  match r.plug with
  | none => s.unplugBay b
  | some (t, e) =>
    if s.boundElsewhere t b && (s.bay b).unlistedTag == some t then s else s.retryLearning b t e

/-- A report that takes a bay out of FAULTED or LOST by its plug and tag: the kept binding, another van, a bay without a
binding, or no plug (R53, R57). -/
def State.stepReturn (s : State) (b : BayNo) (r : Report) : State :=
  match r.plug, (s.bay b).boundTag with
  | none, _ => s.unplugBay b
  | some (t, e), some old => if t = old then s.agreeAgain b else s.exchangeVan b old t e
  | some (t, e), none => s.plugIn b t e

/-- The step at FAULTED: ACCEPT leaves it, with BAY CLEAR last and the state entered as detail; BUSY does not (R53). -/
def State.stepFaulted (s : State) (b : BayNo) (r : Report) : State :=
  if r.status = .accept then
    let s1 := s.stepReturn b r
    s1.raiseForBay b (.bayClear (s1.bay b).state)
  else s

/-- The step at LOST, with BAY BACK last and the state entered as detail (R57). -/
def State.stepLost (s : State) (b : BayNo) (r : Report) : State :=
  let s1 := s.stepReturn b r
  s1.raiseForBay b (.bayBack (s1.bay b).state)

/-- The step at CLOSING, of any status: DISABLED once the applied setpoint is 0 (R55). -/
def State.stepClosing (s : State) (b : BayNo) (r : Report) : State :=
  if r.applied = 0 then s.updBay b fun bay => { bay with state := .disabled } else s

/-- The state step of a good report, by the bay's state and the report's status (R49 to R57). A DISABLED bay is not visited
and takes no step. -/
def State.stateStep (s : State) (b : BayNo) (x : Exchange) (r : Report) : State :=
  match (s.bay b).state with
  | .disabled => s
  | .closing => s.stepClosing b r
  | .empty => if r.status = .refuse then s.refuseStep b else s.stepEmpty b r
  | .dozing => if r.status = .refuse then s.refuseStep b else s.stepDozing b r
  | .agreeing => if r.status = .refuse then s.refuseStep b else s.stepAgreeing b x r
  | .plugged => if r.status = .refuse then s.refuseStep b else s.stepSettled b r
  | .incompatible => if r.status = .refuse then s.refuseStep b else s.stepSettled b r
  | .unlisted => if r.status = .refuse then s.refuseStep b else s.stepUnlisted b r
  | .faulted => if r.status = .refuse then s.refuseStep b else s.stepFaulted b r
  | .lost => if r.status = .refuse then s.refuseStep b else s.stepLost b r

/-! ### The arrival of a good report (R45) -/

/-- Step 3: the roster hand-over of a plugged report (R3). -/
def State.handOver (s : State) (b : BayNo) (r : Report) : State :=
  match r.plug with
  | some (t, e) => s.rosterHandOver t b e
  | none => s

/-- Step 5, first half: the van energy goes to the Book when the bay held a binding at arrival, still holds it, and the
report names its tag (R45, R27). -/
def State.bookHandOver (s : State) (b : BayNo) (held : Option Tag) (r : Report) : State :=
  match r.plug, held with
  | some (t, e), some h => if t = h ∧ (s.bay b).boundTag = some h then s.energyClaim h b e else s
  | some _, none => s
  | none, _ => s

/-- Step 5, second half: the default booking check of a PLUGGED bay (R34). -/
def State.defaultBookingCheck (s : State) (b : BayNo) : State :=
  match (s.bay b).state, (s.bay b).boundTag with
  | .plugged, some t => s.defaultCheck t
  | _, _ => s

/-- The arrival of a good report, in the order of R45. -/
def State.goodReport (s : State) (b : BayNo) (x : Exchange) (r : Report) : State :=
  let held := (s.bay b).boundTag
  let s1 := (s.linkUpdate b x r).meterAccount b held r.meter
  let s2 := (s1.handOver b r).stateStep b x r
  (s2.bookHandOver b held r).defaultBookingCheck b

/-! ### Failed exchanges (R56) -/

/-- The states from which the failure limit leads to LOST (R56). -/
def BayState.canBeLost : BayState → Bool
  | .empty | .dozing | .agreeing | .plugged | .incompatible | .unlisted | .faulted => true
  | .disabled | .closing | .lost => false

/-- Enter LOST, keeping a binding, C, U and the unknown flag, with BAY LOST (R56). -/
def State.enterLost (s : State) (b : BayNo) (kind : FailureKind) : State :=
  (s.updBay b fun bay => { bay with state := .lost, agreedMode := none, unlistedTag := none, emptyRounds := 0 }).raiseForBay b
    (.bayLost kind)

/-- A failed exchange at a bay in service (R56). -/
def State.failedExchange (s : State) (b : BayNo) (kind : FailureKind) : State :=
  if (s.bay b).state.inService then
    let limit := s.config.loaded.failureLimit
    let s1 := s.updBay b fun bay => { bay with failureCount := min limit (bay.failureCount + 1), lastFailure := kind }
    if limit ≤ (s1.bay b).failureCount ∧ (s1.bay b).state.canBeLost then s1.enterLost b kind else s1
  else s

/-! ### SET BAY (R61, R62) -/

/-- A bay number of a request word, when it is one. -/
def bayNumber (n : Nat) : Option BayNo := if h : n < 48 then some ⟨n, h⟩ else none

/-- Check 4: the value word of set cap and of set permitted modes (R61, R157). -/
def Request.setBayValueOk (r : Request) : Bool :=
  if r.word 1 = 3 then r.word 2 ≤ 220
  else if r.word 1 = 4 then r.word 2 < 16
  else true

/-- The checks of SET BAY after the bay number, in order: the number of the first that fails (R61). -/
def State.setBayCheck (s : State) (r : Request) (b : BayNo) : Option Nat :=
  if !s.laneInService (laneOf b) then some 2
  else if r.word 1 = 0 ∨ 4 < r.word 1 then some 3
  else if !r.setBayValueOk then some 4
  else none

/-- The answer to SET BAY, with the action that the request names (R61). -/
def State.answerSetBay (s : State) (r : Request) (action : State → BayNo → State) : Answer :=
  match bayNumber (r.word 0) with
  | none => { state := s, code := .badField, detail := 1 }
  | some b =>
    match s.setBayCheck r b with
    | some n => { state := s, code := .badField, detail := n }
    | none => { state := action s b, code := .done, detail := ((action s b).bay b).state.code }

/-- Enable: DISABLED to EMPTY with the accounting reset, CLOSING to EMPTY keeping it, no change elsewhere (R61). -/
def State.enableBay (s : State) (b : BayNo) : State :=
  match (s.bay b).state with
  | .disabled =>
    s.updBay b fun bay =>
      { bay with
        state := .empty, toggle := false, unresolved := 0, confirmed := 0, unknown := true, meterBaseline := none,
        failureCount := 0, lastFailure := .noFailure, emptyRounds := 0, armed := false }
  | .closing => s.updBay b fun bay => { bay with state := .empty, emptyRounds := 0 }
  | .empty | .dozing | .agreeing | .plugged | .incompatible | .unlisted | .faulted | .lost => s

/-- Release a binding on CLOSING: without a departure judgement (R29, R61). -/
def State.releaseForClosing (s : State) (b : BayNo) : State :=
  match (s.bay b).boundTag with
  | none => s
  | some t => (s.unbind b t).closingClaim t

/-- Disable: an in-service bay other than CLOSING enters CLOSING (R61). -/
def State.disableBay (s : State) (b : BayNo) : State :=
  match (s.bay b).state with
  | .disabled | .closing => s
  | .empty | .dozing | .agreeing | .plugged | .incompatible | .unlisted | .faulted | .lost =>
    (s.releaseForClosing b).updBay b fun bay =>
      { bay with state := .closing, boundTag := none, agreedMode := none, unlistedTag := none, emptyRounds := 0 }

/-- Set cap: the new cap is stored at once, in every state (R62). -/
def State.setCap (cap : Nat) (s : State) (b : BayNo) : State := s.updBay b fun bay => { bay with cap := cap }

/-- Set permitted modes: stored at once; PLUGGED and INCOMPATIBLE go back to AGREEING (R62). -/
def State.setPermitted (ms : ModeSet) (s : State) (b : BayNo) : State :=
  s.updBay b fun bay =>
    match bay.state with
    | .plugged => { bay with permitted := ms, state := .agreeing, agreedMode := none }
    | .incompatible => { bay with permitted := ms, state := .agreeing, agreedMode := none }
    | .disabled | .closing | .empty | .dozing | .agreeing | .unlisted | .faulted | .lost => { bay with permitted := ms }

/-- SET_BAY_ENABLE: the request at the head of the queue is taken (R61, R140). -/
def execSetBayEnable (s : State) : Result :=
  .next (s.answerRequest (fun r => r.isSetBay 1) fun r s' => s'.answerSetBay r State.enableBay)

/-- SET_BAY_DISABLE: the request at the head of the queue is taken (R61, R140). -/
def execSetBayDisable (s : State) : Result :=
  .next (s.answerRequest (fun r => r.isSetBay 2) fun r s' => s'.answerSetBay r State.disableBay)

/-- SET_BAY_SET_CAP: the request at the head of the queue is taken (R62, R140). -/
def execSetBaySetCap (s : State) : Result :=
  .next (s.answerRequest (fun r => r.isSetBay 3) fun r s' => s'.answerSetBay r (State.setCap (r.word 2)))

/-- SET_BAY_SET_PERMITTED_MODES: the request at the head of the queue is taken (R62, R140). -/
def execSetBaySetPermittedModes (s : State) : Result :=
  .next (s.answerRequest (fun r => r.isSetBay 4) fun r s' =>
    s'.answerSetBay r (State.setPermitted (BitVec.ofNat 4 (r.word 2))))

end Sys2Proof.Machine
end

