-- ==== Sys2Proof/Machine/Lanes.lean ====
section
/-!
DEFINITION. The Lane Engines (chapter 4): rounds and overruns, the choice of frames, sending, the receiver, and the end of
an exchange.
-/

namespace Sys2Proof.Machine

open Sys2Proof

/-! ### Which drop is due (R70) -/

/-- A DOZING bay's turn: the round interval plus the bay number is a multiple of 16 (R70, R124). -/
def dozeTurn (roundInterval : Word) (b : BayNo) : Bool := (roundInterval.toNat + b.val) % 16 == 0

/-- Whether a drop is due a frame, from the live bay record (R70). -/
def State.due (s : State) (l : LaneNo) (d : Drop) : Bool :=
  match (s.bay (bayAt l d)).state with
  | .disabled => false
  | .dozing => dozeTurn (s.lane l).roundInterval (bayAt l d)
  | .closing | .empty | .agreeing | .plugged | .incompatible | .unlisted | .faulted | .lost => true

/-- The first due drop at or beyond `start`. -/
def State.nextDue (s : State) (l : LaneNo) (start : Nat) : Option Drop :=
  (List.finRange 8).find? fun d => start ≤ d.val && s.due l d

/-! ### Choosing and forming the frame (R72, R73, R58) -/

/-- The maximum of an agreed mode; 0 for none. -/
def Params.modeMaximum (p : Params) : Option ChargeMode → Nat
  | some m => (p.modeEntry m).maximum
  | none => 0

/-- An entry matches the live bay when its tag and mode are the live ones (R72). -/
def PlaneEntry.matches (e : PlaneEntry) (bay : BayRecord) : Bool := e.tag == bay.boundTag && e.mode == bay.agreedMode

/-- The value of a SETPOINT for an armed PLUGGED bay (R72). -/
def setpointValue (p : Params) (e : PlaneEntry) (bay : BayRecord) : Nat :=
  if e.matches bay then min e.value (min bay.cap (p.modeMaximum bay.agreedMode)) else 0

/-- A frame with its flags and fields (R73). -/
def mkFrame (d : Drop) (bay : BayRecord) (kind : FrameKind) (capReq : Bool) (value : Nat) (pre : Bool)
    (mode : Option ChargeMode) : Frame :=
  { exchange := { drop := d, kind := kind, capabilityRequest := capReq, toggle := bay.toggle, value := value }
    preconditionOn := pre
    mode := mode }

/-- The frame that R72's table gives a bay, stand-down apart, with the fields of R73. -/
def tableFrame (p : Params) (e : PlaneEntry) (d : Drop) (bay : BayRecord) : Frame :=
  match bay.state with
  | .plugged =>
    if bay.armed then
      mkFrame d bay .setpoint false (setpointValue p e bay) (e.matches bay && e.preconditionOn) bay.agreedMode
    else mkFrame d bay .hold false 0 false none
  | .incompatible | .unlisted =>
    if bay.armed then mkFrame d bay .setpoint false 0 false none else mkFrame d bay .hold false 0 false none
  | .faulted | .closing => mkFrame d bay .stop false 0 false none
  | .agreeing => mkFrame d bay .poll true 0 false none
  | .empty =>
    if bay.emptyRounds = p.dozeDelay ∧ p.dozeDelay ≠ 0 then mkFrame d bay .doze false 0 false none
    else mkFrame d bay .poll false 0 false none
  | .lost | .dozing | .disabled => mkFrame d bay .poll false 0 false none

/-- While stand-down is on, SETPOINT and HOLD give way to STOP (R72, R113). -/
def standDownFrame (standDown : Bool) (d : Drop) (bay : BayRecord) (f : Frame) : Frame :=
  match standDown, f.exchange.kind with
  | true, .setpoint => mkFrame d bay .stop false 0 false none
  | true, .hold => mkFrame d bay .stop false 0 false none
  | _, _ => f

/-- The frame formed for a drop from the live state (R72). -/
def State.frameFor (s : State) (l : LaneNo) (d : Drop) : Frame :=
  let bay := s.bay (bayAt l d)
  standDownFrame s.allocator.standDown d bay (tableFrame s.config.loaded (s.allocator.front.get (bayAt l d)) d bay)

/-- What forming and sending a frame does to the bay: the armed flag clears, a DOZE puts it into DOZING, and a SETPOINT or
STOP raises U (R58). -/
def sendToBay (x : Exchange) (bay : BayRecord) : BayRecord :=
  { bay with
    armed := false
    state := if x.kind = .doze then .dozing else bay.state
    unresolved := if x.kind.carriesValue then max bay.unresolved x.value else bay.unresolved }

/-- Form the frame for a drop and begin sending it: one event (R72, R74). -/
def State.formFrame (s : State) (l : LaneNo) (d : Drop) : State :=
  let f := s.frameFor l d
  (s.updBay (bayAt l d) (sendToBay f.exchange)).updLane l fun x =>
    { x with phase := .sending, position := d, exchange := some f.exchange, receiver := none, onPair := f.octets }

/-! ### Rounds (R69 to R71) -/

/-- Look for the next due drop from `start` on and form its frame; with none, the round is finished (R70). -/
def State.visit (s : State) (l : LaneNo) (start : Nat) : State :=
  match s.nextDue l start with
  | some d => s.formFrame l d
  | none => s.updLane l fun x => { x with roundRunning := false, phase := .idle }

/-- Begin a round: the round interval is the present interval number, and the search starts at drop 0 (R69, R70). -/
def State.beginRound (s : State) (l : LaneNo) : State :=
  (s.updLane l fun x => { x with roundRunning := true, roundInterval := s.clock.interval }).visit l 0

/-- The drops after the position that are due: those an overrun abandons (R71). -/
def State.abandonedDrops (s : State) (l : LaneNo) : List Drop :=
  (List.finRange 8).filter fun d => (s.lane l).position.val < d.val && s.due l d

/-- Raise a bay's missed-slot count (R58). -/
def State.missSlot (s : State) (b : BayNo) : State :=
  s.updBay b fun bay => { bay with missedSlots := min 65535 (bay.missedSlots + 1) }

/-- ROUND OVERRUN, once for each interval and lane (R71). -/
def State.overrunAlert (s : State) (l : LaneNo) (abandoned : Nat) : State :=
  if abandoned = 0 ∨ (s.lane l).overrunInterval = some s.clock.interval then s
  else (s.updLane l fun x => { x with overrunInterval := some s.clock.interval }).raise (.roundOverrun l abandoned) none none

/-- Take a round overrun: abandon the due drops after the position, and begin the new round (R71). -/
def State.takeOverrun (s : State) (l : LaneNo) : State :=
  let drops := s.abandonedDrops l
  let s1 := drops.foldl (fun acc d => acc.missSlot (bayAt l d)) s
  (s1.overrunAlert l drops.length).beginRound l

/-- Take a round start between exchanges: begin the round, or take the overrun of a running one (R69, R71). -/
def State.takeRoundStart (s : State) (l : LaneNo) : State :=
  if (s.lane l).roundRunning then s.takeOverrun l else s.beginRound l

/-- A round start reaches a lane: with an exchange in flight, pending start is set (R69, R71). DEDUCED (log entry 38): which drops
an overrun abandons depends on whether the round start or the end of an exchange before the last due drop comes first. -/
def State.startRound (s : State) (l : LaneNo) : State :=
  if (s.lane l).exchange.isSome then s.updLane l fun x => { x with pendingStart := true } else s.takeRoundStart l

/-- A round is started on every lane in service (R69, R110, R112). -/
def State.startRounds (s : State) : State :=
  (List.finRange 6).foldl (fun acc l => if acc.laneInService l then acc.startRound l else acc) s

/-! ### The end of an exchange (R76 to R79) -/

/-- Hand the outcome of the exchange to the Bay Manager, unless discard is set, which is then cleared (R76, R83). -/
def State.handOutcome (s : State) (l : LaneNo) (x : Exchange) (o : ExchangeOutcome) : State :=
  if (s.lane l).discard then s.updLane l fun y => { y with discard := false }
  else
    match o with
    | .good r => s.goodReport (bayAt l x.drop) x r
    | .failed kind => s.failedExchange (bayAt l x.drop) kind

/-- After an exchange: take the pending round start, or look for the next drop of the running round (R76). DEDUCED (log entry 38):
R76's search in the same event rules where R71 calls the order of round start and end of exchange indifferent. -/
def State.afterExchange (s : State) (l : LaneNo) : State :=
  if (s.lane l).pendingStart then (s.updLane l fun x => { x with pendingStart := false }).takeRoundStart l
  else if (s.lane l).roundRunning then s.visit l ((s.lane l).position.val + 1)
  else s

/-- The end of an exchange: the outcome is handed on, the exchange and receiver records go, and the lane moves on (R76). -/
def State.endExchange (s : State) (l : LaneNo) (x : Exchange) (r : Receiver) : State :=
  ((s.handOutcome l x (judgeExchange x r)).updLane l fun y =>
    { y with phase := .idle, exchange := none, receiver := none }).afterExchange l

/-- What the receiver must hold for report complete: the implied length, and no trailing octet (R76). -/
def Receiver.complete (r : Receiver) : Bool := r.whole && !r.trailing

/-! ### The commands -/

/-- FRAME_SENT: the frame's last stop element has ended; the lane enters LISTENING with a fresh receiver (R74). -/
def execFrameSent (l : LaneNo) (s : State) : Result :=
  .next <|
    match (s.lane l).phase with
    | .sending => s.updLane l fun x => { x with phase := .listening, receiver := some Receiver.start, onPair := [] }
    | .idle => s
    | .listening => s

/-- CHARACTER_ARRIVAL: the receiver collects while the lane is LISTENING; otherwise it is off (R75). -/
def execCharacterArrival (l : LaneNo) (octet : Byte) (stop : Bool) (s : State) : Result :=
  .next <|
    match (s.lane l).phase with
    | .listening => s.updLane l fun x => { x with receiver := x.receiver.map fun r => r.take octet stop }
    | .idle => s
    | .sending => s

/-- The exchange and the receiver of a LISTENING lane. -/
def Lane.listeningPair (x : Lane) : Option (Exchange × Receiver) :=
  match x.phase, x.exchange, x.receiver with
  | .listening, some e, some r => some (e, r)
  | _, _, _ => none

/-- REPORT_COMPLETE: the whole report is in and the pair has stayed idle one character time (R76). -/
def execReportComplete (l : LaneNo) (s : State) : Result :=
  .next <|
    match (s.lane l).listeningPair with
    | some (x, r) => if r.complete then s.endExchange l x r else s
    | none => s

/-- RESPONSE_WINDOW_EXPIRY: the window runs out before report complete (R76). -/
def execResponseWindowExpiry (l : LaneNo) (s : State) : Result :=
  .next <|
    match (s.lane l).listeningPair with
    | some (x, r) => s.endExchange l x r
    | none => s

end Sys2Proof.Machine
end

