-- ==== Sys2Proof/Machine/Allocator.lean ====
section
/-!
DEFINITION. The Allocator (chapter 6) and the budget (R92, R93): the snapshot, the pass in its stages, the commit walk,
publication, skipped intervals, stand-down and the interval log record.
-/

namespace Sys2Proof.Machine

open Sys2Proof

/-! ### The snapshot (R103) -/

/-- What the snapshot takes of a bay. -/
def State.snapBay (s : State) (b : BayNo) : BaySnap :=
  let r := s.bay b
  { state := r.state, boundTag := r.boundTag, agreedMode := r.agreedMode, cap := r.cap, confirmed := r.confirmed,
    unresolved := r.unresolved, unknown := r.unknown, postCeiling := r.postCeiling, measuredPower := r.measuredPower,
    lastEnergy := r.lastEnergy, lastGoodInterval := r.lastGoodInterval,
    plugIn := (r.boundTag.bind s.rosterEntry).map RosterEntry.plugIn }

/-- What the snapshot takes of a booking. -/
def Booking.snap (b : Booking) : BookingSnap :=
  { tag := b.tag, departure := b.departure, target := b.target, precondition := b.precondition, state := b.state }

/-! ### The budget (R92, R93) -/

/-- A bay's term of the charging load at an interval number: its measured power when it is known and its last good report
is of this interval or the one before, its K otherwise; nothing when DISABLED (R92). -/
def BaySnap.chargingTerm (b : BaySnap) (interval : Word) : Nat :=
  if !b.state.inService then 0
  else if !b.unknown && (b.lastGoodInterval == interval || b.lastGoodInterval == interval - 1) then b.measuredPower
  else b.k

/-- P_chg (R92). -/
def chargingLoad (bays : Vector BaySnap 48) (interval : Word) : Nat := sumBays fun b => (bays.get b).chargingTerm interval

/-- The overload trim: feeder limit x overload trim / 100, rounded down (R93). -/
def trimOf (limits : Limits) (percent : Nat) : Nat := limits.feederLimit * percent / 100

/-- Steps 2 to 5 of R93, from the site-load estimate. -/
def budgetOf (limits : Limits) (siteLoad trim : Nat) (overload : Bool) (curtail : Curtail) : Nat :=
  let h2 := limits.feederLimit - limits.margin - siteLoad
  let h3 := if overload then h2 - trim else h2
  if curtail.inForce then min h3 limits.curtailCeiling else h3

/-- The snapshot of the pass that a P_feed begins, with S and B (R103, R93). -/
def State.snapshot (s : State) (pFeed : Nat) : Snapshot :=
  let bays : Vector BaySnap 48 := Vector.ofFn fun b => s.snapBay b
  let p := s.config.loaded
  let siteLoad := pFeed - chargingLoad bays s.clock.interval
  { bays := bays
    bookings := s.book.map Booking.snap
    pFeed := pFeed
    overload := s.meter.overload
    curtail := s.meter.curtail
    limits := s.meter.limits
    overloadTrim := p.overloadTrim
    depotTime := s.clock.depotSeconds
    interval := s.clock.interval
    intervalLength := p.intervalLength
    modeM1 := p.modeM1
    modeM2 := p.modeM2
    modeM3 := p.modeM3
    modeM4 := p.modeM4
    siteLoad := siteLoad
    budget := budgetOf s.meter.limits siteLoad (trimOf s.meter.limits p.overloadTrim) s.meter.overload s.meter.curtail }

/-! ### Candidates (R104) -/

/-- A candidate with its figures: the precondition part P and the desired grant D start at 0. -/
structure Candidate where
  bay : BayNo
  tag : Tag
  mode : ChargeMode
  booking : Option BookingSnap
  ceiling : Nat
  minimumRun : Nat
  k : Nat
  lastEnergy : Nat
  plugIn : Nat
  p : Nat
  d : Nat
deriving DecidableEq, Repr

/-- The booking the snapshot's book holds for a tag. -/
def Snapshot.bookingOf (sn : Snapshot) (t : Tag) : Option BookingSnap := sn.bookings.find? fun b => b.tag == t

/-- The candidate of a bay that the snapshot shows PLUGGED (R104). -/
def Snapshot.candidate (sn : Snapshot) (b : BayNo) : Option Candidate :=
  let r := sn.bays.get b
  match r.state, r.boundTag, r.agreedMode with
  | .plugged, some t, some m =>
    some
      { bay := b, tag := t, mode := m, booking := sn.bookingOf t,
        ceiling := min r.cap (min (sn.modeEntry m).maximum r.postCeiling),
        minimumRun := (sn.modeEntry m).minimumRun, k := r.k, lastEnergy := r.lastEnergy,
        plugIn := (r.plugIn.getD 0).toNat, p := 0, d := 0 }
  | _, _, _ => none

/-- All candidates, by bay number. -/
def Snapshot.candidates (sn : Snapshot) : List Candidate := (List.finRange 48).filterMap sn.candidate

/-- Insert by plug-in time, behind those of the same time. -/
def insertByPlugIn (c : Candidate) : List Candidate → List Candidate
  | [] => [c]
  | x :: rest => if c.plugIn < x.plugIn then c :: x :: rest else x :: insertByPlugIn c rest

/-- Order by ascending plug-in time, keeping the order of equal times. -/
def sortByPlugIn (l : List Candidate) : List Candidate := l.foldl (fun acc c => insertByPlugIn c acc) []

/-- The booked candidates in the rank order of their bookings (R104). -/
def Snapshot.bookedOrder (sn : Snapshot) : List Candidate :=
  sn.bookings.flatMap fun k => sn.candidates.filter fun c => c.tag == k.tag

/-- The candidate order: the booked by rank, then the unbooked by plug-in time, lower bay number first (R104). -/
def Snapshot.order (sn : Snapshot) : List Candidate :=
  sn.bookedOrder ++ sortByPlugIn (sn.candidates.filter fun c => c.booking.isNone)

/-! ### The stages (R105 to R107) -/

/-- Visit the candidates in order with a remaining budget: each is offered what remains and takes its grant from it. -/
def visitAll (grant : Candidate → Nat → Nat) (take : Candidate → Nat → Candidate) :
    List Candidate → Nat → List Candidate × Nat
  | [], r => ([], r)
  | c :: rest, r =>
    let g := grant c r
    let tail := visitAll grant take rest (r - g)
    (take c g :: tail.1, tail.2)

/-- The precondition power to serve: the precondition window is open and the power, held to the ceiling, fits what
remains; 0 otherwise (R105). DEDUCED (log entry 34): these conditions decide for a SHORT booking too. -/
def stage0Grant (sn : Snapshot) (c : Candidate) (remaining : Nat) : Nat :=
  match c.booking with
  | none => 0
  | some k =>
    match k.precondition with
    | none => 0
    | some pre =>
      let t := sn.depotTime.toNat
      let power := min pre.power c.ceiling
      if k.departure.toNat ≤ t + 60 * pre.leadMinutes ∧ t < k.departure.toNat ∧ power ≤ remaining then power else 0

/-- The power units that bring a van to its target by departure: ceil(E_rem x 360 / T) (R106). -/
def neededPower (sn : Snapshot) (k : BookingSnap) (lastEnergy : Nat) : Nat :=
  let time := max (k.departure.toNat - sn.depotTime.toNat) sn.intervalLength
  ((k.target - lastEnergy) * 360 + (time - 1)) / time

/-- The minimum-run step: a nonzero need whose grant is below the minimum run takes the minimum run when it is there, and
nothing otherwise (R106). -/
def minimumRunStep (need grant minimumRun room : Nat) : Nat :=
  if need = 0 then 0
  else if grant < minimumRun then (if minimumRun ≤ room then minimumRun else 0)
  else grant

/-- The grant of stage 1: booked candidates that are not READY, by need (R106). -/
def stage1Grant (sn : Snapshot) (c : Candidate) (remaining : Nat) : Nat :=
  match c.booking with
  | none => 0
  | some k =>
    if k.state = .ready then 0
    else
      let room := min (c.ceiling - c.d) remaining
      let need := neededPower sn k c.lastEnergy
      minimumRunStep need (min need room) c.minimumRun room

/-- Stage 2 passes over the booked candidates that are READY (R107). -/
def Candidate.topsUp (c : Candidate) : Bool :=
  match c.booking with
  | none => true
  | some k => k.state != .ready

/-- The grant of stage 2: top-up to the ceiling, nothing when it is the first charging grant and below the minimum run
(R107). -/
def stage2Grant (c : Candidate) (remaining : Nat) : Nat :=
  let u := min (c.ceiling - c.d) remaining
  if !c.topsUp then 0
  else if c.d - c.p = 0 ∧ u < c.minimumRun then 0
  else u

/-- Stage 0 gives its grant to P and D. -/
def takePrecondition (c : Candidate) (g : Nat) : Candidate := { c with p := g, d := g }

/-- Stages 1 and 2 give their grant to D. -/
def takeCharge (c : Candidate) (g : Nat) : Candidate := { c with d := c.d + g }

/-- The candidates in order with their P and D after stages 0, 1 and 2 (R105 to R107). -/
def Snapshot.desired (sn : Snapshot) : List Candidate :=
  let r0 := visitAll (stage0Grant sn) takePrecondition sn.order sn.budget
  let r1 := visitAll (stage1Grant sn) takeCharge r0.1 r0.2
  (visitAll stage2Grant takeCharge r1.1 r1.2).1

/-! ### The commit walk (R108) and the back plane (R109) -/

/-- Sigma K over the bays the snapshot shows in service (R108). -/
def Snapshot.sumK (sn : Snapshot) : Nat :=
  sumBays fun b => if (sn.bays.get b).state.inService then (sn.bays.get b).k else 0

/-- Steps 1 and 2 of the walk: G and the increase, from what is available (R108). -/
def walkGrant (c : Candidate) (available : Int) : Nat × Nat :=
  if c.d ≤ c.k then (c.d, 0)
  else
    let x := min (c.d - c.k) available.toNat
    (c.k + x, x)

/-- Step 3 of the walk: a charging part above 0 and below the minimum run is taken off (R108). -/
def dropSmallCharge (c : Candidate) (g : Nat) : Nat :=
  let pre := min c.p g
  if 0 < g - pre ∧ g - pre < c.minimumRun then pre else g

/-- The commit walk: each candidate with its granted value G (R108). -/
def commitWalk : List Candidate → Int → List (Candidate × Nat)
  | [], _ => []
  | c :: rest, available =>
    let w := walkGrant c available
    let g := dropSmallCharge c w.1
    (c, g) :: commitWalk rest (available - ((g - c.k : Nat) : Int))

/-- The granted values of a pass (R108). -/
def Snapshot.grants (sn : Snapshot) : List (Candidate × Nat) := commitWalk sn.desired ((sn.budget : Int) - (sn.sumK : Int))

/-- The back entry of a candidate (R109). -/
def entryOf (cg : Candidate × Nat) : PlaneEntry :=
  { value := cg.2, tag := some cg.1.tag, mode := some cg.1.mode, preconditionOn := decide (0 < min cg.1.p cg.2) }

/-- The plane a pass writes: a function of its snapshot alone (R109, R114). -/
def Snapshot.plane (sn : Snapshot) : Vector PlaneEntry 48 :=
  let grants := sn.grants
  Vector.ofFn fun b => ((grants.find? fun cg => cg.1.bay == b).map entryOf).getD PlaneEntry.blank

/-! ### Publication (R110, R111) -/

/-- The late correction of one entry against the live bay record (R111). -/
def lateCorrect (e : PlaneEntry) (bay : BayRecord) : PlaneEntry :=
  if e = PlaneEntry.blank then e
  else if bay.state = .plugged ∧ e.tag = bay.boundTag ∧ e.mode = bay.agreedMode then e
  else { e with value := 0, preconditionOn := false }

/-- The plane of a pass as published: late-corrected against the live records (R111). -/
def State.publishedPlane (s : State) (sn : Snapshot) : Vector PlaneEntry 48 :=
  let plane := sn.plane
  Vector.ofFn fun b => lateCorrect (plane.get b) (s.bay b)

/-- Sigma G of a plane (R116). -/
def planeSum (plane : Vector PlaneEntry 48) : Nat := sumBays fun b => (plane.get b).value

/-- Set the armed flag of every bay in service (R58, R110). -/
def State.armBays (s : State) : State :=
  (List.finRange 48).foldl
    (fun acc b => if (acc.bay b).state.inService then acc.updBay b fun bay => { bay with armed := true } else acc) s

/-- Stand-down ends at a publication, with STAND-DOWN OFF carrying the count just cleared (R110, R113). -/
def State.endStandDown (s : State) (cleared : Nat) : State :=
  if s.allocator.standDown then
    ({ s with allocator := { s.allocator with standDown := false } }.mark .header).raise (.standDownOff cleared) none none
  else s

/-- The Mirror Writer takes a log record: the entry at the log position, then the position, with LOG HALF when the area is
full (R149). -/
def State.writeLog (s : State) (r : LogRecord) : State :=
  let m := s.mirror
  let written : MirrorWriter :=
    match m.logArea with
    | .areaA => { m with logA := vput m.logA m.logIndex (some r), dirty := m.dirty.mark (.log .areaA m.logIndex) }
    | .areaB => { m with logB := vput m.logB m.logIndex (some r), dirty := m.dirty.mark (.log .areaB m.logIndex) }
  if m.logIndex.val + 1 = s.config.loaded.logLength then
    { s with mirror := { written with logArea := m.logArea.other, logIndex := 0, dirty := written.dirty.mark .header } }.raise
      (.logHalf m.logArea) none none
  else { s with mirror := { written with logIndex := m.logIndex + 1, dirty := written.dirty.mark .header } }

/-- Hand over a log record, which takes the delivered total and sets it to 0 (R115, R116). -/
def State.handLog (s : State) (r : LogRecord) : State :=
  { s with allocator := { s.allocator with deliveredTotal := 0 } }.writeLog
    { r with
      interval := s.clock.interval
      depotSeconds := s.clock.depotSeconds
      delivered := s.allocator.deliveredTotal
      autonomous := s.clock.plan.isAutonomous }

/-- The log record of a publication (R116); the fields that `handLog` fills are left blank. -/
def publicationLog (sn : Snapshot) (sumG : Nat) : LogRecord :=
  { interval := 0, depotSeconds := 0, budget := sn.budget, sumG := sumG, sumK := sn.sumK, siteLoad := sn.siteLoad,
    delivered := 0, skip := none, overload := sn.overload, curtail := sn.curtail.inForce, autonomous := false,
    standDown := false }

/-- Steps 1 and 2 of publication: the back plane is late-corrected and the planes change roles (R110). -/
def State.swapPlanes (s : State) (sn : Snapshot) : State :=
  { s with allocator := { s.allocator with front := s.publishedPlane sn, back := s.allocator.front } }

/-- Step 4 of publication (R110). -/
def State.clearSkips (s : State) : State :=
  ({ s with allocator := { s.allocator with skipCount := 0 } }.mark .header).endStandDown s.allocator.skipCount

/-- Publication, in the order of R110. -/
def State.publish (s : State) (sn : Snapshot) : State :=
  let s3 := (s.swapPlanes sn).armBays
  let s5 := s3.clearSkips.startRounds
  let s6 := s5.handLog (publicationLog sn (planeSum s3.allocator.front))
  { s6 with allocator := { s6.allocator with lastB := sn.budget, pass := none } }

/-- PUBLICATION: the pass in flight completes (R110). -/
def execPublication (s : State) : Result :=
  .next <|
    match s.allocator.pass with
    | some sn => s.publish sn
    | none => s

/-! ### Skipped intervals (R112, R113) -/

/-- Sigma K over the live bays in service (R116). -/
def State.sumK (s : State) : Nat := sumBays fun b => if (s.bay b).state.inService then (s.bay b).k else 0

/-- Steps 1 and 2 of a skip decision: the skip count rises, and stand-down comes on at the skip limit (R112, R113). -/
def State.countSkip (s : State) (reason : SkipReason) : State :=
  let count := min 65535 (s.allocator.skipCount + 1)
  let s1 := { s with allocator := { s.allocator with skipCount := count } }.mark .header
  if s.config.loaded.skipLimit ≤ count ∧ !s1.allocator.standDown then
    ({ s1 with allocator := { s1.allocator with standDown := true } }.mark .header).raise (.standDownOn count reason) none none
  else s1

/-- The log record of a skip decision (R116). -/
def State.skipLog (s : State) (reason : SkipReason) : LogRecord :=
  { interval := 0, depotSeconds := 0, budget := 0, sumG := 0, sumK := s.sumK, siteLoad := 0, delivered := 0,
    skip := some reason, overload := s.meter.overload, curtail := s.meter.curtail.inForce, autonomous := false,
    standDown := s.allocator.standDown }

/-- A skip decision, in the order of R112: the record is formed after the rounds have started (log entry 16). -/
def State.skip (s : State) (reason : SkipReason) : State :=
  let s3 := (s.countSkip reason).startRounds
  s3.handLog (s3.skipLog reason)

/-! ### The hand-over of a sample (R102) -/

/-- Begin a pass: the snapshot is taken and the pass is RUNNING (R103). -/
def State.beginPass (s : State) (pFeed : Nat) : State :=
  { s with allocator := { s.allocator with pass := some (s.snapshot pFeed) } }

/-- A VALID or STALE outcome with its P_feed: a pass begins, or the interval is skipped while one runs (R102). -/
def State.onSample (s : State) (pFeed : Nat) : State :=
  match s.allocator.pass with
  | none => s.beginPass pFeed
  | some _ => s.skip .passInFlight

end Sys2Proof.Machine
end

