-- ==== Sys2Proof/Machine/Meter.lean ====
section
/-!
DEFINITION. The Feeder Meter (chapter 5): conversion sets and sample completion, overload, calibration, curtail and its
filter, and SET LIMITS.
-/

namespace Sys2Proof.Machine

open Sys2Proof

/-- Change the meter. -/
def State.updMeter (s : State) (f : FeederMeter → FeederMeter) : State := { s with meter := f s.meter }

/-! ### Samples (R86, R91) -/

/-- The three codes of a conversion set. -/
structure Codes where
  l1 : Code
  l2 : Code
  l3 : Code
deriving DecidableEq, Repr

/-- A channel at 0 or 4,095 is saturated (R86). -/
def saturated (c : Code) : Bool := c == 0 || c == 4095

/-- No channel is saturated. -/
def Codes.inRange (c : Codes) : Bool := !saturated c.l1 && !saturated c.l2 && !saturated c.l3

/-- P_feed of a valid set: the sum of max(0, code - offset), times phase voltage and current scale, over 100,000, rounded
down (R91). -/
def feederPower (p : Params) (o : Offsets) (c : Codes) : Nat :=
  p.phaseVoltage * ((c.l1.toNat - o.l1) + (c.l2.toNat - o.l2) + (c.l3.toNat - o.l3)) * p.currentScale / 100000

/-- The P_feed of a set, when it is valid: offsets present, codes produced, no channel saturated (R86). -/
def State.validPower (s : State) (codes : Option Codes) : Option Nat :=
  match s.meter.offsets, codes with
  | some o, some c => if c.inRange then some (feederPower s.config.loaded o c) else none
  | _, _ => none

/-- The latest valid sample is at most two intervals old, mod 2^32 (R86). -/
def Sample.usable (x : Sample) (interval : Word) : Bool := (interval - x.interval).toNat ≤ 2

/-! ### Overload (R94) -/

/-- The release threshold: the feeder limit less its release band, rounded down (R94). DEDUCED (log entry 33): it is the band
that is rounded down. -/
def releaseThreshold (limits : Limits) (band : Nat) : Nat := limits.feederLimit - limits.feederLimit * band / 100

/-- Overload comes on (R94). -/
def State.overloadOn (s : State) (pFeed : Nat) : State :=
  ((s.updMeter fun m => { m with overload := true, releaseRun := 0 }).mark .header).raise
    (.overloadOn pFeed s.meter.limits.feederLimit) none none

/-- Overload goes off (R94). -/
def State.overloadOff (s : State) (pFeed threshold : Nat) : State :=
  ((s.updMeter fun m => { m with overload := false, releaseRun := 0 }).mark .header).raise
    (.overloadOff pFeed threshold) none none

/-- The overload judgement of a VALID sample (R94). -/
def State.judgeOverload (s : State) (pFeed : Nat) : State :=
  let threshold := releaseThreshold s.meter.limits s.config.loaded.releaseBand
  if s.meter.overload then
    if threshold < pFeed then s.updMeter fun m => { m with releaseRun := 0 }
    else if 2 ≤ s.meter.releaseRun then s.overloadOff pFeed threshold
    else s.updMeter fun m => { m with releaseRun := m.releaseRun + 1 }
  else if s.meter.limits.feederLimit < pFeed then s.overloadOn pFeed
  else s

/-! ### Sample completion (R86, R87) -/

/-- A VALID set: it becomes the latest valid sample, overload is judged, and the P_feed goes to the Allocator (R86, R87). -/
def State.validSample (s : State) (pFeed : Nat) (interval : Word) : State :=
  ((s.updMeter fun m => { m with latest := some { pFeed := pFeed, interval := interval } }).judgeOverload pFeed).onSample pFeed

/-- A set that is not valid: STALE while the latest valid sample is usable, NO USABLE SAMPLE otherwise (R86, R102). -/
def State.invalidSample (s : State) : State :=
  match s.meter.latest with
  | some x => if x.usable s.clock.interval then s.onSample x.pFeed else s.skip .noSample
  | none => s.skip .noSample

/-- Sample completion of a set with the codes it produced and the interval number noted for it (R86, R87). -/
def State.sampleDone (s : State) (codes : Option Codes) (interval : Word) : State :=
  match s.validPower codes with
  | some p => s.validSample p interval
  | none => s.invalidSample

/-- SAMPLE_COMPLETION: the conversion set in flight has completed. A set begun before a depot restart is discarded (R86,
R99). -/
def execSampleCompletion (l1 l2 l3 : Code) (s : State) : Result :=
  .next <|
    match s.meter.conversion with
    | .idle => s
    | .converting interval discard =>
      let s1 := s.updMeter fun m => { m with conversion := .idle }
      if discard then s1 else s1.sampleDone (some { l1 := l1, l2 := l2, l3 := l3 }) interval

/-! ### The tick at the Meter (R85, R96) -/

/-- The conversion row of the tick (R85); during a calibration no conversion begins. -/
def State.tickConversion (s : State) : State :=
  match s.meter.calibration, s.meter.conversion with
  | .inFlight _, _ => s
  | .idle, .idle => s.updMeter fun m => { m with conversion := .converting s.clock.interval false }
  | .idle, .converting _ discard => s.updMeter fun m => { m with conversion := .converting s.clock.interval discard }

/-- Curtail becomes INACTIVE with CURTAIL OFF (R95, R96). -/
def State.curtailOff (s : State) : State :=
  ((s.updMeter fun m => { m with curtail := .inactive, tailElapsed := 0 }).mark .header).raise .curtailOff none none

/-- The curtail tail in seconds. -/
def State.curtailTail (s : State) : Nat := 60 * s.config.loaded.curtailTailMinutes

/-- The tail has run its length (R96). -/
def State.tailDone (s : State) : Bool := s.meter.curtail == .tail && s.curtailTail ≤ s.meter.tailElapsed

/-- The end of the tail, when it has run its length (R96). -/
def State.endTail (s : State) : State := if s.tailDone then s.curtailOff else s

/-- The tail step of a tick: a Meter in TAIL adds the interval length, and the tail ends when it reaches the curtail tail
(R96). -/
def State.tickTail (s : State) : State :=
  match s.meter.curtail with
  | .tail => (s.updMeter fun m => { m with tailElapsed := m.tailElapsed + s.config.loaded.intervalLength }).endTail
  | .inactive => s
  | .asserted => s

/-- The Meter's work at the tick (R122). -/
def State.meterTick (s : State) : State := s.tickConversion.tickTail

/-- The sample completion that follows at once a tick during calibration, with a set that produced no codes (R85). -/
def State.tickSample (s : State) : State :=
  match s.meter.calibration with
  | .idle => s
  | .inFlight _ => s.sampleDone none s.clock.interval

/-- CURTAIL_TAIL_END: the tail has reached the curtail tail. The tick itself ends the tail that it brings there (R96; log
entry 8). -/
def execCurtailTailEnd (s : State) : Result := .next s.endTail

/-! ### Curtail and its filter (R95) -/

/-- CURTAIL_INPUT_CHANGE: the pin changes to its other level: the 10 ms begin, or the reversal cancels them (R95). -/
def execCurtailInputChange (s : State) : Result :=
  .next (s.updMeter fun m => { m with changePending := !m.changePending })

/-- The filter confirms a level. -/
def State.filterTo (s : State) (level : Level) : State :=
  s.updMeter fun m => { m with filteredLevel := level, changePending := false }

/-- Curtail becomes ASSERTED with CURTAIL ON (R95, R99). -/
def State.curtailOn (s : State) : State :=
  ((s.updMeter fun m => { m with curtail := .asserted }).mark .header).raise
    (.curtailOn s.meter.limits.curtailCeiling) none none

/-- Curtail at an assertion edge (R95). -/
def State.assertCurtail (s : State) : State :=
  match s.meter.curtail with
  | .inactive => s.curtailOn
  | .asserted => s
  | .tail => (s.updMeter fun m => { m with curtail := .asserted, tailElapsed := 0 }).mark .header

/-- Curtail at a release edge (R95). -/
def State.releaseCurtail (s : State) : State :=
  match s.meter.curtail with
  | .asserted =>
    if s.config.loaded.curtailTailMinutes = 0 then s.curtailOff
    else (s.updMeter fun m => { m with curtail := .tail, tailElapsed := 0 }).mark .header
  | .inactive => s
  | .tail => s

/-- CURTAIL_ASSERTION_EDGE: the asserted level has held for 10 ms. During start-up it is no edge for Curtail (R95, R155). -/
def execCurtailAssertionEdge (s : State) : Result :=
  .next <|
    if s.meter.changePending ∧ s.meter.filteredLevel = .released then
      if s.config.ended then (s.filterTo .asserted).assertCurtail else s.filterTo .asserted
    else s

/-- CURTAIL_RELEASE_EDGE: the released level has held for 10 ms. During start-up it is no edge for Curtail (R95, R155). -/
def execCurtailReleaseEdge (s : State) : Result :=
  .next <|
    if s.meter.changePending ∧ s.meter.filteredLevel = .asserted then
      if s.config.ended then (s.filterTo .released).releaseCurtail else s.filterTo .released
    else s

/-- Curtail set from the filtered input: ASSERTED with CURTAIL ON, or INACTIVE without an alert (R99). -/
def State.curtailFromInput (s : State) : State :=
  match s.meter.filteredLevel with
  | .asserted => (s.updMeter fun m => { m with tailElapsed := 0 }).curtailOn
  | .released => s.updMeter fun m => { m with curtail := .inactive, tailElapsed := 0 }

/-! ### Calibration (R88, R89) -/

/-- The average of 16 codes, rounded to the nearest, halves up (R88). -/
def calAverage (codes : Vector Code 16) : Nat := ((codes.toList.map BitVec.toNat).sum + 8) / 16

/-- A channel passes when its average lies in 1,984 to 2,112 (R88). -/
def calPasses (average : Nat) : Bool := 1984 ≤ average && average ≤ 2112

/-- A failed channel's average, for CAL FAIL. -/
def failedAverage (average : Nat) : Option Nat := if calPasses average then none else some average

/-- The result a calibration of origin REQUEST writes to its slot (R88, R142). -/
def State.calibrationResult (s : State) (origin : CalOrigin) (code : ResultCode) (detail : Nat) : State :=
  match origin with
  | .startUp => s
  | .request n => s.storeResult n code detail

/-- The start-up step is over when the start-up calibration completes (R155 step 3). -/
def State.leaveCalibrating (s : State) : State :=
  if s.config.step = .calibrating then { s with config := { s.config with step := .ending } } else s

/-- Calibration completion with the three averages (R88). -/
def State.completeCalibration (s : State) (origin : CalOrigin) (a1 a2 a3 : Nat) : State :=
  let s1 := (s.updMeter fun m => { m with calibration := .idle }).leaveCalibrating
  if calPasses a1 && calPasses a2 && calPasses a3 then
    let o : Offsets := { l1 := a1, l2 := a2, l3 := a3 }
    ((s1.updMeter fun m => { m with offsets := some o }).raise (.calDone o) none none).calibrationResult origin .done o.detail
  else
    (s1.raise (.calFail (failedAverage a1) (failedAverage a2) (failedAverage a3)) none none).calibrationResult origin
      .calFailed (failedChannels (failedAverage a1) (failedAverage a2) (failedAverage a3))

/-- CALIBRATION_COMPLETION: the 48 conversions are in. A calibration taken during a conversion set begins only when that
set has completed (R88, R89). -/
def execCalibrationCompletion (l1 l2 l3 : Vector Code 16) (s : State) : Result :=
  .next <|
    match s.meter.calibration, s.meter.conversion with
    | .inFlight origin, .idle => s.completeCalibration origin (calAverage l1) (calAverage l2) (calAverage l3)
    | .inFlight _, .converting _ _ => s
    | .idle, _ => s

/-- A slot's request is taken and waits for its owner's answer (R138, R142). -/
def State.holdInHand (s : State) (n : SlotNo) (req : Request) : State :=
  s.setSlot n { s.slot n with busy := some (.inHand, req) }

/-- The Meter takes CALIBRATE: BUSY while one is in flight; otherwise it begins and the slot is IN HAND (R89, R142). -/
def State.takeCalibrate (s : State) (n : SlotNo) (req : Request) : State :=
  match s.meter.calibration with
  | .inFlight _ => s.storeResult n .busy 0
  | .idle => (s.updMeter fun m => { m with calibration := .inFlight (.request n) }).holdInHand n req

/-- CALIBRATE: the request at the head of the queue is taken (R89, R140). -/
def execCalibrate (s : State) : Result :=
  .next (s.takeRequest (fun r => r.code == 0x13) fun n req s' => s'.takeCalibrate n req)

/-! ### SET LIMITS (R97) -/

/-- The Meter's answer to SET LIMITS: three range checks in order, then all three limits at once (R97). -/
def State.answerSetLimits (s : State) (r : Request) : Answer :=
  if r.word 0 < 100 ∨ 65535 < r.word 0 then { state := s, code := .badField, detail := 1 }
  else if 10000 < r.word 1 then { state := s, code := .badField, detail := 2 }
  else if 65535 < r.word 2 then { state := s, code := .badField, detail := 3 }
  else
    { state := s.updMeter fun m =>
        { m with limits := { feederLimit := r.word 0, margin := r.word 1, curtailCeiling := r.word 2 } }
      code := .done
      detail := 0 }

/-- SET_LIMITS: the request at the head of the queue is taken (R97, R140). -/
def execSetLimits (s : State) : Result :=
  .next (s.answerRequest (fun r => r.code == 0x12) fun r s' => s'.answerSetLimits r)

end Sys2Proof.Machine
end

