-- ==== Sys2Proof/Machine/Clock.lean ====
section
/-!
DEFINITION. The Depot Clock (chapter 7): the tick, SET CLOCK, the stale timer and plan supervision.
-/

namespace Sys2Proof.Machine

open Sys2Proof

/-- Change the clock. -/
def State.updClock (s : State) (f : DepotClock → DepotClock) : State := { s with clock := f s.clock }

/-- The top of depot time. -/
def maxDepot : Word := 0xFFFFFFFF

/-- Depot seconds left at the maximum while limit reached is no: it becomes yes, with CLOCK LIMIT (R123). -/
def State.clockLimit (s : State) : State :=
  if s.clock.depotSeconds = maxDepot ∧ !s.clock.limitReached then
    (s.updClock fun c => { c with limitReached := true }).raise .clockLimit none none
  else s

/-- Depot time moved on by the interval length, stopping at the maximum (R122, R123). -/
def advanceDepot (t : Word) (length : Nat) : Word :=
  if 4294967295 < t.toNat + length then maxDepot else BitVec.ofNat 32 (t.toNat + length)

/-! ### The stale timer (R127) -/

/-- The stale timer has reached the plan-stale period of a PLANNED plan under supervision (R127). -/
def State.staleDue (s : State) : Bool :=
  s.clock.plan == .planned && s.config.loaded.planStalePeriod != 0 && s.config.loaded.planStalePeriod ≤ s.clock.staleTimer

/-- The plan becomes AUTONOMOUS with PLAN STALE, when the stale timer has reached the period (R127). -/
def State.expireStale (s : State) : State :=
  if s.staleDue then
    ((s.updClock fun c => { c with plan := .autonomous, staleTimer := 0 }).mark .header).raise
      (.planStale s.config.loaded.planStalePeriod) none none
  else s

/-- The stale timer's step at a tick (R127). DEDUCED (log entry 36): one step from 0 expires a period no longer than the interval
length. DEDUCED (log entry 41): one step from 0 leaves a longer period's timer at exactly one interval length, as R127 and R128's
first outcome have it, where R128's summary has it below that. -/
def State.stepStale (s : State) : State :=
  match s.clock.plan with
  | .autonomous => s
  | .planned =>
    if s.config.loaded.planStalePeriod = 0 then s
    else (s.updClock fun c => { c with staleTimer := c.staleTimer + s.config.loaded.intervalLength }).expireStale

/-- PLAN_STALE: the stale timer reaches the plan-stale period. The tick itself expires the timer that it brings there
(R127; log entry 8). -/
def execPlanStale (s : State) : Result := .next s.expireStale

/-- A heartbeat or trigger write forwarded to the clock (R127). -/
def State.forwardWrite (s : State) (w : PlanWrite) : State :=
  let s1 := s.updClock fun c => { c with staleTimer := 0 }
  match s.clock.plan with
  | .planned => s1
  | .autonomous => ((s1.updClock fun c => { c with plan := .planned }).mark .header).raise (.planBack w) none none

/-! ### The tick (R122) -/

/-- The clock's own work at a tick: depot seconds, the interval number, the stale timer, and the header dirty (R122). -/
def State.clockTick (s : State) : State :=
  ((s.updClock fun c =>
    { c with
      depotSeconds := advanceDepot c.depotSeconds s.config.loaded.intervalLength
      interval := c.interval + 1 }).clockLimit.stepStale).mark .header

/-- The Meter, the Book and the Roster take the tick in an order (R122). -/
def State.blocksTick (s : State) : TickOrder → State
  | .meterBookRoster => s.meterTick.bookScan.agingStep
  | .meterRosterBook => s.meterTick.agingStep.bookScan
  | .bookMeterRoster => s.bookScan.meterTick.agingStep
  | .bookRosterMeter => s.bookScan.agingStep.meterTick
  | .rosterMeterBook => s.agingStep.meterTick.bookScan
  | .rosterBookMeter => s.agingStep.bookScan.meterTick

/-- A tick with the blocks in a given order; during calibration its sample completion follows (R85, R122). DEDUCED (log entry
35): the clock's own alerts stand before those of the blocks. -/
def State.tickIn (s : State) (order : TickOrder) : State := (s.clockTick.blocksTick order).tickSample

/-- One more free value has been drawn. -/
def State.draw (s : State) : State := { s with draws := s.draws + 1 }

/-- TICK: the interval timer's tick, the blocks taking it in the free order of this draw (R122; log entry 7). A STOPPED
timer produces none. -/
def execTick (s : State) : Result :=
  .next (if s.clock.timerRunning then s.draw.tickIn (Config.tickOrder s.draws) else s)

/-! ### SET CLOCK (R125) -/

/-- The new depot time is taken: valid from now on, limit reached cleared below the maximum (R125). -/
def State.setDepotTime (s : State) (t : Word) : State :=
  ((s.updClock fun c =>
    { c with
      depotSeconds := t
      valid := true
      limitReached := if t = maxDepot then c.limitReached else false }).clockLimit).mark .header

/-- The clock's answer to SET CLOCK: DONE with the depot time replaced (R125). -/
def State.answerSetClock (s : State) (r : Request) : Answer :=
  { state := s.setDepotTime (r.words.get 0), code := .done, detail := s.clock.depotSeconds.toNat }

/-- SET_CLOCK: the request at the head of the queue is taken (R125, R140). -/
def execSetClock (s : State) : Result :=
  .next (s.answerRequest (fun r => r.code == 0x10) fun r s' => s'.answerSetClock r)

end Sys2Proof.Machine
end

