-- ==== Sys2Proof/Machine/Mirror.lean ====
section
/-!
DEFINITION. The Mirror Writer (chapter 10): the words of every mirror record by the layouts of chapter 12, the scan order and
the push of a record, and the alert consumer index.
-/

namespace Sys2Proof.Machine

open Sys2Proof

/-- Change the Mirror Writer. -/
def State.updMirror (s : State) (f : MirrorWriter → MirrorWriter) : State := { s with mirror := f s.mirror }

/-! ### Where records stand (R145) -/

/-- A record's offset in the mirror window. -/
def RecordId.offset : RecordId → Nat
  | .header => 0x0000
  | .slot n => 0x0040 + 8 * n.val
  | .bay b => 0x0100 + 32 * b.val
  | .roster i => 0x0800 + 32 * i.val
  | .booking i => 0x1800 + 32 * i.val
  | .alert i => 0x2C00 + 16 * i.val
  | .log .areaA i => 0x3000 + 16 * i.val
  | .log .areaB i => 0x3800 + 16 * i.val

/-- A record's length in words. -/
def RecordId.words : RecordId → Nat
  | .header => 16
  | .slot _ => 2
  | .bay _ => 8
  | .roster _ => 8
  | .booking _ => 8
  | .alert _ => 4
  | .log _ _ => 4

/-- The address of a record's word, in ascending order from the record's first. -/
def RecordId.wordAddr (r : RecordId) (base : Addr) (i : Nat) : Addr := base + BitVec.ofNat 24 (r.offset + 4 * i)

/-- A byte address lies in a record's address range (R135). -/
def RecordId.covers (r : RecordId) (base a : Addr) : Bool :=
  r.offset ≤ (a - base).toNat && (a - base).toNat < r.offset + 4 * r.words

/-! ### Generation counts (R145) -/

/-- A record's generation count; 0 for a record that has none. -/
def Generations.count (g : Generations) : RecordId → BitVec 16
  | .header => g.header
  | .bay b => g.bays.get b
  | .roster i => g.roster.get i
  | .booking i => g.bookings.get i
  | .slot _ => 0
  | .alert _ => 0
  | .log _ _ => 0

/-- A record's generation count rises by one, from 65,535 back to 0. -/
def Generations.bump (g : Generations) : RecordId → Generations
  | .header => { g with header := g.header + 1 }
  | .bay b => { g with bays := vput g.bays b (g.bays.get b + 1) }
  | .roster i => { g with roster := vput g.roster i (g.roster.get i + 1) }
  | .booking i => { g with bookings := vput g.bookings i (g.bookings.get i + 1) }
  | .slot _ => g
  | .alert _ => g
  | .log _ _ => g

/-! ### The words of the records (R156 and the layout tables) -/

/-- A record word from its fields' sum. -/
def toWord (n : Nat) : Word := BitVec.ofNat 32 n

/-- Bits 31-0 of a tag. -/
def tagLow (t : Option Tag) : Nat := (t.getD 0).toNat % 2 ^ 32

/-- Bits 47-32 of a tag. -/
def tagHigh (t : Option Tag) : Nat := (t.getD 0).toNat / 2 ^ 32

/-- The mirror header's words (R150). -/
def headerWords (s : State) : List Word :=
  let m := s.mirror
  [toWord (m.generations.header.toNat + field 16 1 (bit s.clock.plan.isAutonomous) + field 17 1 (bit s.clock.valid)
      + field 18 1 (bit s.meter.overload) + field 19 1 (bit s.meter.curtail.inForce)
      + field 20 1 (bit s.allocator.standDown) + field 21 1 (bit m.overflow)
      + field 22 1 (bit (s.config.source == .defaults))),
    s.clock.depotSeconds,
    s.clock.interval,
    toWord (field 0 16 s.allocator.lastB + field 16 16 s.allocator.skipCount),
    toWord (field 0 6 m.producer.val + field 8 6 m.consumer.val + field 16 16 m.guardCount),
    toWord (field 0 1 m.logArea.code + field 8 7 m.logIndex.val + field 16 8 s.rosterCount + field 24 8 s.book.length),
    0, 0, 0, 0, 0, 0, 0, 0, 0, 0]

/-- A slot result's words. -/
def slotWords (r : SlotResult) : List Word :=
  [toWord (r.tag.toNat + field 16 8 r.code.code + field 24 8 (r.detail.toNat / 2 ^ 32)), toWord (r.detail.toNat % 2 ^ 32)]

/-- A bay record's words (R65). -/
def bayWords (gen : BitVec 16) (b : BayRecord) : List Word :=
  [toWord (gen.toNat + field 16 4 b.state.code + field 20 3 (modeCode b.agreedMode) + field 23 1 (bit b.boundTag.isSome)
      + field 24 4 b.permitted.toNat + field 28 1 (bit b.unknown) + field 29 1 (bit b.toggle) + field 30 1 (bit b.armed)),
    toWord (tagLow b.boundTag),
    toWord (tagHigh b.boundTag + field 16 8 b.cap + field 24 8 b.confirmed),
    toWord (field 0 8 b.unresolved + field 8 8 b.k + field 16 8 b.postCeiling + field 24 4 b.failureCount
      + field 28 4 b.lastFailure.code),
    toWord (field 0 16 b.measuredPower + field 16 16 b.lastEnergy),
    b.lastGoodTime,
    b.lastGoodInterval,
    toWord (field 0 16 b.missedSlots)]

/-- A roster entry's words, or the empty marker (R18). -/
def rosterWords (gen : BitVec 16) (e : Option RosterEntry) : List Word :=
  match e with
  | none => [toWord gen.toNat, 0, 0, 0, 0, 0, 0, 0]
  | some e =>
    [toWord (gen.toNat + field 16 2 (if e.bay.isSome then 2 else 1) + field 18 6 ((e.bay.map Fin.val).getD 0)),
      toWord (tagLow (some e.tag)),
      toWord (tagHigh (some e.tag) + field 16 16 e.lastEnergy),
      e.plugIn,
      e.lastSeen,
      0, 0, 0]

/-- A booking record's words, or the empty marker (R40). -/
def bookingWords (gen : BitVec 16) (e : Option (Nat × Booking)) : List Word :=
  match e with
  | none => [toWord gen.toNat, 0, 0, 0, 0, 0, 0, 0]
  | some (rank, b) =>
    let pre := b.precondition.getD { power := 0, leadMinutes := 0 }
    [toWord (gen.toNat + field 16 3 b.state.code + field 19 1 (bit (b.origin == .byDefault))
        + field 20 1 (bit b.precondition.isSome) + field 24 8 rank),
      toWord (tagLow (some b.tag)),
      toWord (tagHigh (some b.tag) + field 16 16 b.target),
      b.departure,
      toWord (field 0 24 b.delivered + field 24 8 pre.power),
      toWord (field 0 8 pre.leadMinutes),
      0, 0]

/-- An alert entry's words, or the empty marker: an alert whose tag is none carries detail bits 79-32 in the tag's place
(R156). -/
def alertWords (e : Option Alert) : List Word :=
  match e with
  | none => [0, 0, 0, 0]
  | some a =>
    let detail := a.kind.detail
    let upper := match a.tag with
      | some t => t.toNat
      | none => detail / 2 ^ 32
    [toWord (field 0 8 a.kind.code + field 8 6 ((a.bay.map Fin.val).getD 0) + field 14 1 (bit a.bay.isNone)
        + field 15 1 (bit a.tag.isNone) + field 16 16 (upper / 2 ^ 32)),
      toWord (field 0 32 upper),
      a.time,
      toWord (field 0 32 detail)]

/-- A log entry's words, or the empty marker: only the skip-reason bit set (R156). -/
def logWords (e : Option LogRecord) : List Word :=
  match e with
  | none => [0x80000000, 0, 0, 0]
  | some r =>
    [toWord (field 0 16 r.interval.toNat + field 16 14 (min 16383 r.delivered) + field 30 1 (bit r.skip.isSome)
        + field 31 1 ((r.skip.map SkipReason.code).getD 0)),
      r.depotSeconds,
      toWord (field 0 16 r.budget + field 16 16 (min 65535 r.siteLoad)),
      toWord (field 0 14 r.sumG + field 14 14 r.sumK + field 28 1 (bit r.overload) + field 29 1 (bit r.curtail)
        + field 30 1 (bit r.autonomous) + field 31 1 (bit r.standDown))]

/-- The stored log entry of an area and index. -/
def MirrorWriter.logEntry (m : MirrorWriter) (a : LogArea) (i : LogIx) : Option LogRecord :=
  match a with
  | .areaA => m.logA.get i
  | .areaB => m.logB.get i

/-- A record's words in ascending address, from the owning block's state at that moment (R145). -/
def State.recordWords (s : State) (r : RecordId) : List Word :=
  let gen := s.mirror.generations.count r
  match r with
  | .header => headerWords s
  | .slot n => slotWords (s.slot n).result
  | .bay b => bayWords gen (s.bay b)
  | .roster i => rosterWords gen (s.roster.entries.get i)
  | .booking i => bookingWords gen (s.bookRecord i)
  | .alert i => alertWords (s.mirror.alerts.get i)
  | .log a i => logWords (s.mirror.logEntry a i)

/-! ### The scan order (R146) -/

/-- Ring indices in the order their alerts were stored: from the producer index round, then those not stored since the
last reset (log entry 17). -/
def MirrorWriter.alertOrder (m : MirrorWriter) : List RingIx :=
  (((List.finRange 64).map fun k => m.producer + k).filter fun i => (m.alerts.get i).isSome)
    ++ (List.finRange 64).filter fun i => (m.alerts.get i).isNone

/-- The log entries from the log position round: the rest of its area, the other area, the area up to the position. -/
def MirrorWriter.logCycle (m : MirrorWriter) : List (LogArea × LogIx) :=
  ((List.finRange 120).filter fun i => m.logIndex ≤ i).map (fun i => (m.logArea, i))
    ++ (List.finRange 120).map (fun i => (m.logArea.other, i))
    ++ ((List.finRange 120).filter fun i => i < m.logIndex).map fun i => (m.logArea, i)

/-- Every log entry, area A first. -/
def allLogEntries : List (LogArea × LogIx) :=
  (List.finRange 120).map (fun i => (LogArea.areaA, i)) ++ (List.finRange 120).map fun i => (LogArea.areaB, i)

/-- Log entries in the order they were written, then those not written since the last reset (log entry 17). -/
def MirrorWriter.logOrder (m : MirrorWriter) : List (LogArea × LogIx) :=
  (m.logCycle.filter fun p => (m.logEntry p.1 p.2).isSome) ++ allLogEntries.filter fun p => (m.logEntry p.1 p.2).isNone

/-- The scan order of all records (R146). -/
def MirrorWriter.scanOrder (m : MirrorWriter) : List RecordId :=
  (List.finRange 16).map RecordId.slot
    ++ m.alertOrder.map RecordId.alert
    ++ (List.finRange 48).map RecordId.bay
    ++ (List.finRange 160).map RecordId.booking
    ++ (List.finRange 128).map RecordId.roster
    ++ m.logOrder.map (fun p => RecordId.log p.1 p.2)
    ++ [RecordId.header]

/-- The first dirty record in scan order. -/
def MirrorWriter.firstDirty (m : MirrorWriter) : Option RecordId := m.scanOrder.find? fun r => m.dirty.has r

/-! ### Pushing a record (R145, R146) -/

/-- A record's result has been stored and not yet written: the write pushed now frees the slot (R141). -/
def State.answersSlot (s : State) : RecordId → Bool
  | .slot n =>
    match (s.slot n).busy with
    | some (.answered, _) => true
    | some (.queued, _) => false
    | some (.inHand, _) => false
    | none => false
  | .header | .bay _ | .roster _ | .booking _ | .alert _ | .log _ _ => false

/-- The backlog words of a record: ascending from the second word on, and the first word last (R145). -/
def State.backlogWords (s : State) (r : RecordId) : List BacklogWord :=
  let mk (p : Word × Nat) (last : Bool) : BacklogWord :=
    { addr := r.wordAddr s.path.mirrorBase p.2, data := p.1, record := r, last := last, freesSlot := last && s.answersSlot r }
  let words := (s.recordWords r).zipIdx
  (words.drop 1).map (fun p => mk p false) ++ (words.take 1).map fun p => mk p true

/-- The backlog holds at most 64 words (R146). -/
def backlogDepth : Nat := 64

/-- Alternation follows the backlog depth that a push or a grant leaves (R136). -/
def PathUnit.followDepth (p : PathUnit) (depth : Nat) : PathUnit :=
  if 48 ≤ depth then { p with alternation := true }
  else if depth ≤ 16 then { p with alternation := false, backlogOwed := false }
  else p

/-- Push a record: it leaves the dirty set, its generation count rises, and all its words enter the backlog (R146). -/
def State.pushRecord (s : State) (r : RecordId) : State :=
  let s1 := s.updMirror fun m => { m with dirty := m.dirty.clear r, generations := m.generations.bump r }
  let backlog := s1.mirror.backlog ++ s1.backlogWords r
  { s1 with
    mirror := { s1.mirror with backlog := backlog }
    path := s1.path.followDepth backlog.length }

/-! ### The alert consumer index (R148) -/

/-- A proposed consumer index is legal: 0-63, and no further than the producer (R148). -/
def MirrorWriter.legalProposal (m : MirrorWriter) (v : Word) : Bool :=
  v.toNat < 64 && (Fin.ofNat 64 v.toNat - m.consumer).val ≤ m.unconsumed

/-- OVERFLOW is stored at once when the flag is set and fewer than 63 entries are unconsumed; the flag clears (R148). -/
def State.storeOverflow (s : State) : State :=
  if s.mirror.overflow ∧ s.mirror.unconsumed < 63 then
    ((s.storeAlert
      { kind := .overflow s.mirror.lostCount, bay := none, tag := none, time := s.clock.depotSeconds }).updMirror fun m =>
        { m with overflow := false, lostCount := 0 }).mark .header
  else s

/-- A proposed consumer index: taken when legal, ignored otherwise; the present index proposed again changes nothing
(R148; log entry 18). -/
def State.proposeConsumer (s : State) (v : Word) : State :=
  if s.mirror.legalProposal v then
    if Fin.ofNat 64 v.toNat = s.mirror.consumer then s
    else ((s.updMirror fun m => { m with consumer := Fin.ofNat 64 v.toNat }).mark .header).storeOverflow
  else s

end Sys2Proof.Machine
end

