-- ==== Sys2Proof/Machine/Intake.lean ====
section
/-!
DEFINITION. Plan Intake (chapter 9): trigger writes with their collisions, unknown requests, and the return of a slot to
FREE. RESTART stands in Reset.lean, with the resets of the other blocks.
-/

namespace Sys2Proof.Machine

open Sys2Proof

/-! ### The trigger write (R139) -/

/-- The request code: the low byte of the merged trigger word. -/
def triggerCode (merged : Word) : Byte := merged.extractLsb' 0 8

/-- The request tag: the upper half of the merged trigger word. -/
def triggerTag (merged : Word) : ReqTag := merged.extractLsb' 16 16

/-- The request a trigger write makes: its code and tag with a copy of the shadow's words 0-6 (R139). -/
def PostingSlot.requestOf (x : PostingSlot) (merged : Word) : Request :=
  { code := triggerCode merged, tag := triggerTag merged, words := Vector.ofFn fun i : Fin 7 => x.shadow.get i.castSucc }

/-- A FREE slot takes a request: it becomes BUSY and QUEUED, and joins the tail of the queue (R139). -/
def State.enqueue (s : State) (n : SlotNo) (merged : Word) : State :=
  let s1 := s.setSlot n { s.slot n with busy := some (.queued, (s.slot n).requestOf merged) }
  { s1 with intake := { s1.intake with queue := s1.intake.queue ++ [n] } }

/-- A captured trigger write with the merged shadow value: forwarded to the clock first, then no request for code 0, a
request at a FREE slot, a collision at a BUSY one (R139). -/
def State.takeTrigger (s : State) (n : SlotNo) (merged : Word) : State :=
  let s1 := s.forwardWrite (.trigger n)
  if triggerCode merged = 0 then s1
  else
    match (s1.slot n).busy with
    | none => s1.enqueue n merged
    | some _ => s1.raise (.slotCollision n (triggerCode merged) (triggerTag merged)) none none

/-! ### The return to FREE (R141) -/

/-- The last word of a qualifying write of a slot's result record has completed: an ANSWERED slot becomes FREE and its
request is discarded; a slot that is not ANSWERED is left as it is (R141). -/
def State.freeSlot (s : State) (n : SlotNo) : State :=
  match (s.slot n).busy with
  | some (.answered, _) => s.setSlot n { s.slot n with busy := none }
  | some (.queued, _) => s
  | some (.inHand, _) => s
  | none => s

/-! ### Unknown requests (R140) -/

/-- The answer to a code that names no request: the code is the detail (R140). -/
def State.answerUnknown (s : State) (r : Request) : Answer := { state := s, code := .unknownRequest, detail := r.code.toNat }

/-- UNKNOWN_REQUEST: the request at the head of the queue, of an unlisted code, is taken (R140). -/
def execUnknownRequest (s : State) : Result :=
  .next (s.answerRequest (fun r => !knownCode r.code) fun r s' => s'.answerUnknown r)

end Sys2Proof.Machine
end

