-- ==== Sys2Proof/Machine/Path.lean ====
section
/-!
DEFINITION. The Path Unit (chapter 8): host accesses in both modes, capture of the plan, guarding of the mirror window, the
read fence, and the downstream arbiter.
-/

namespace Sys2Proof.Machine

open Sys2Proof

/-- Change the Path Unit. -/
def State.updPath (s : State) (f : PathUnit → PathUnit) : State := { s with path := f s.path }

/-! ### The windows (R130, R133) -/

/-- An address lies in the plan window: 0-4,095 from its base (R130). -/
def PathUnit.inPlan (p : PathUnit) (a : Addr) : Bool := (a - p.planBase).toNat < 4096

/-- An address lies in the mirror window: 0-16,383 from its base (R130). -/
def PathUnit.inMirror (p : PathUnit) (a : Addr) : Bool := (a - p.mirrorBase).toNat < 16384

/-- The captured words of the plan window (R133). -/
inductive PlanWord where
  | heartbeat
  | consumerIndex
  | slotWord (n : SlotNo) (w : Fin 8)
deriving DecidableEq, Repr

/-- A captured word's offset in the plan window (R133). -/
def PlanWord.offset : PlanWord → Nat
  | .heartbeat => 0x000
  | .consumerIndex => 0x004
  | .slotWord n w => 0x040 + 32 * n.val + 4 * w.val

/-- A captured word's address. -/
def PathUnit.planAddr (p : PathUnit) (w : PlanWord) : Addr := p.planBase + BitVec.ofNat 24 w.offset

/-- The captured word at an offset of the plan window; none for the words that are not captured (R133). -/
def planWordAt (offset : Nat) : Option PlanWord :=
  let word := offset / 4
  if word = 0 then some .heartbeat
  else if word = 1 then some .consumerIndex
  else if 16 ≤ word ∧ word < 144 then some (.slotWord (Fin.ofNat 16 ((word - 16) / 8)) (Fin.ofNat 8 ((word - 16) % 8)))
  else none

/-! ### Capture (R133) -/

/-- Merge a write into a slot's shadow word (R133). -/
def State.mergeSlotWord (s : State) (n : SlotNo) (w : Fin 8) (data : Word) (enables : BitVec 4) : State :=
  let x := s.slot n
  s.setSlot n { x with shadow := vput x.shadow w (mergeWord (x.shadow.get w) data enables) }

/-- Merge a write into the shadow's alert consumer index word (R133). -/
def State.mergeConsumer (s : State) (data : Word) (enables : BitVec 4) : State :=
  { s with intake := { s.intake with consumerShadow := mergeWord s.intake.consumerShadow data enables } }

/-- A write of the heartbeat word with at least one enable is forwarded to the clock (R127, R133). -/
def State.captureHeartbeat (s : State) (enables : BitVec 4) : State :=
  if enables = 0 then s else s.forwardWrite .heartbeat

/-- A write of the alert consumer index word: merged, and the merged value proposed (R133, R148; log entry 19). -/
def State.captureConsumer (s : State) (data : Word) (enables : BitVec 4) : State :=
  let s1 := s.mergeConsumer data enables
  s1.proposeConsumer s1.intake.consumerShadow

/-- A write of a slot word: merged; of the trigger word with at least one enable, a trigger write (R133, R139). -/
def State.captureSlotWord (s : State) (n : SlotNo) (w : Fin 8) (data : Word) (enables : BitVec 4) : State :=
  let s1 := s.mergeSlotWord n w data enables
  if w = 7 ∧ enables ≠ 0 then s1.takeTrigger n ((s1.slot n).shadow.get 7) else s1

/-- Capture of a captured word (R133). -/
def State.captureWord (s : State) (p : PlanWord) (data : Word) (enables : BitVec 4) : State :=
  match p with
  | .heartbeat => s.captureHeartbeat enables
  | .consumerIndex => s.captureConsumer data enables
  | .slotWord n w => s.captureSlotWord n w data enables

/-- Capture at the grant of the port: of a host write that arrived WATCHING to a captured word (R133). -/
def State.capture (s : State) (a : HostAccess) : State :=
  if a.write && a.watched && s.path.inPlan a.addr then
    match planWordAt (a.addr - s.path.planBase).toNat with
    | some p => s.captureWord p a.data a.enables
    | none => s
  else s

/-! ### The arbiter (R136) -/

/-- Grant the port to the waiting host access: backlog owed follows Alternation, and a captured write is captured (R133,
R136; log entry 20). -/
def State.grantHost (s : State) (a : HostAccess) : State :=
  (s.updPath fun p =>
    { p with waiting := none, port := .host a, backlogOwed := p.alternation }.followDepth s.mirror.backlog.length).capture a

/-- The fence that granting a word leaves: a CLOSED fence becomes OPEN on the word's record (R135). -/
def fenceAfter (fence : Option RecordId) (w : BacklogWord) : Option RecordId :=
  match fence with
  | some r => some r
  | none => some w.record

/-- The fence names a record whose range holds an address (R135). -/
def PathUnit.fenceCovers (p : PathUnit) (a : Addr) : Bool :=
  match p.fence with
  | some r => r.covers p.mirrorBase a
  | none => false

/-- A waiting host read, judged WATCHING, of a word in the range that the fence names becomes the held read (R135; log entry
27). -/
def PathUnit.holdCovered (p : PathUnit) : PathUnit :=
  match p.waiting with
  | some a => if a.watched && !a.write && p.fenceCovers a.addr then { p with waiting := none, heldRead := some a } else p
  | none => p

/-- The Path Unit as the backlog's head word is granted, leaving `depth` words behind it (R135, R136). -/
def PathUnit.takeWord (p : PathUnit) (w : BacklogWord) (depth : Nat) : PathUnit :=
  ({ p with port := .backlog w, fence := fenceAfter p.fence w, backlogOwed := false }.followDepth depth).holdCovered

/-- Grant the port to the backlog's head word, which leaves the backlog (R135, R136). -/
def State.grantBacklog (s : State) (w : BacklogWord) (rest : List BacklogWord) : State :=
  { s with mirror := { s.mirror with backlog := rest }, path := s.path.takeWord w rest.length }

/-- What the arbiter grants. -/
inductive Grant where
  | nothing
  | host (a : HostAccess)
  | backlog (w : BacklogWord) (rest : List BacklogWord)
deriving DecidableEq, Repr

/-- The grant of the backlog's head, when the backlog holds a word. -/
def MirrorWriter.headGrant (m : MirrorWriter) : Grant :=
  match m.backlog with
  | [] => .nothing
  | w :: rest => .backlog w rest

/-- The grant of a FREE port, by the first case of R136 that applies. -/
def State.arbiterChoice (s : State) : Grant :=
  if s.path.heldRead.isSome then s.mirror.headGrant
  else
    match s.path.waiting with
    | some a =>
      if s.path.alternation && s.path.backlogOwed && !s.mirror.backlog.isEmpty then s.mirror.headGrant else .host a
    | none => s.mirror.headGrant

/-- Grant a FREE port to a claimant (R136). -/
def State.arbitrate (s : State) : State :=
  match s.path.port with
  | .free =>
    match s.arbiterChoice with
    | .nothing => s
    | .host a => s.grantHost a
    | .backlog w rest => s.grantBacklog w rest
  | .host _ => s
  | .backlog _ => s

/-! ### A host access arrives (R131, R132, R134, R135) -/

/-- The port is busy with a host access. -/
def Port.isHost : Port → Bool
  | .free => false
  | .host _ => true
  | .backlog _ => false

/-- The part has not completed the host's previous access (R130). -/
def PathUnit.outstanding (p : PathUnit) : Bool := p.heldRead.isSome || p.waiting.isSome || p.port.isHost

/-- An access joins the port as a claimant. -/
def State.claimPort (s : State) (a : HostAccess) : State := (s.updPath fun p => { p with waiting := some a }).arbitrate

/-- Complete an access to the host, with the data of a read. -/
def State.complete (s : State) (a : HostAccess) (data : Word) : State :=
  s.updPath fun p => { p with reply := some { access := a, data := data } }

/-- A host write to the mirror window is stopped: completed at once, the guard count raised, and GUARD raised for the first
of an interval (R134). -/
def State.stopWrite (s : State) (a : HostAccess) : State :=
  let count := min 65535 (s.mirror.guardCount + 1)
  let s1 := ((s.complete a 0).updMirror fun m => { m with guardCount := count }).mark .header
  if s.path.guardInterval = some s.clock.interval then s1
  else (s1.updPath fun p => { p with guardInterval := some s.clock.interval }).raise (.guard a.addr count) none none

/-- A host access in WATCHING mode: a mirror write is stopped, a fenced read is held, and everything else claims the port
(R132, R134, R135). -/
def State.watchedAccess (s : State) (a : HostAccess) : State :=
  if a.write then
    if s.path.inMirror a.addr then s.stopWrite a else s.claimPort a
  else if s.path.fenceCovers a.addr then s.updPath fun p => { p with heldRead := some a }
  else s.claimPort a

/-- A host access arrives; the mode is judged now (R131, R132). -/
def State.arrive (s : State) (write : Bool) (addr : Addr) (data : Word) (enables : BitVec 4) : State :=
  let a : HostAccess := { write := write, addr := addr, data := data, enables := enables, watched := s.path.watching }
  if s.path.watching then s.watchedAccess a else s.claimPort a

/-- What a host access answers: a fault where the host breaks R130, and its effect otherwise. -/
def State.hostAccess (s : State) (write : Bool) (addr : Addr) (data : Word) (enables : BitVec 4) : Result :=
  if !wordAligned addr then .fault .misalignedAddress
  else if s.path.outstanding then .fault .accessOutstanding
  else .next (s.arrive write addr data enables)

/-- HOST_ACCESS (R132). -/
def execHostAccess (write : Bool) (addr : Addr) (data : Word) (enables : BitVec 4) (s : State) : Result :=
  s.hostAccess write addr data enables

/-- PLAN_WORD_WRITE: a host write of a parameter word of a posting slot (R133). -/
def execPlanWordWrite (n : SlotNo) (w : Fin 7) (data : Word) (enables : BitVec 4) (s : State) : Result :=
  s.hostAccess true (s.path.planAddr (.slotWord n w.castSucc)) data enables

/-- HEARTBEAT_WRITE: a host write of the heartbeat word (R127, R133). -/
def execHeartbeatWrite (data : Word) (enables : BitVec 4) (s : State) : Result :=
  s.hostAccess true (s.path.planAddr .heartbeat) data enables

/-- ALERT_CONSUMER_INDEX_WRITE: a host write of the alert consumer index word (R133, R148). -/
def execAlertConsumerIndexWrite (data : Word) (enables : BitVec 4) (s : State) : Result :=
  s.hostAccess true (s.path.planAddr .consumerIndex) data enables

/-- TRIGGER_WRITE: a host write of a slot's trigger word (R133, R139). -/
def execTriggerWrite (n : SlotNo) (data : Word) (enables : BitVec 4) (s : State) : Result :=
  s.hostAccess true (s.path.planAddr (.slotWord n 7)) data enables

/-- MIRROR_WRITE_STOPPED: a host write at an address of the mirror window (R134). -/
def execMirrorWriteStopped (addr : Addr) (data : Word) (enables : BitVec 4) (s : State) : Result :=
  s.hostAccess true addr data enables

/-- FENCED_READ: a host read at an address of the mirror window (R135). -/
def execFencedRead (addr : Addr) (s : State) : Result := s.hostAccess false addr 0 0xF

/-! ### Memory completes an access (R132, R135, R136, R141) -/

/-- Memory completes a host access: a write reaches memory, a read returns memory's data (R132). -/
def State.completeHost (s : State) (a : HostAccess) : State :=
  if a.write then ({ s with memory := memWrite s.memory a.addr a.data a.enables }).complete a 0
  else s.complete a (memWord s.memory a.addr)

/-- The fence becomes CLOSED and a held read is released to wait for the port (R135). -/
def PathUnit.closeFence (p : PathUnit) : PathUnit :=
  match p.heldRead with
  | some a => { p with fence := none, heldRead := none, waiting := some a }
  | none => { p with fence := none }

/-- The slot of a slot result record. -/
def RecordId.slotNo : RecordId → Option SlotNo
  | .slot n => some n
  | .header | .bay _ | .roster _ | .booking _ | .alert _ | .log _ _ => none

/-- The slot that a completed word frees (R141). -/
def BacklogWord.freedSlot (w : BacklogWord) : Option SlotNo := if w.freesSlot then w.record.slotNo else none

/-- Free the slot, if any. -/
def State.freeSlotOf (s : State) (n : Option SlotNo) : State :=
  match n with
  | some n => s.freeSlot n
  | none => s

/-- Memory completes a backlog word: a record's last word closes the fence, and a qualifying one frees its slot (R135,
R141). -/
def State.completeBacklog (s : State) (w : BacklogWord) : State :=
  let s1 := { s with memory := memWrite s.memory w.addr w.data 0xF }
  if w.last then (s1.updPath PathUnit.closeFence).freeSlotOf w.freedSlot else s1

/-- The port becomes FREE. -/
def State.freePort (s : State) : State := s.updPath fun p => { p with port := .free }

/-- DOWNSTREAM_COMPLETION: memory completes the access on the port, and the arbiter grants the next claimant (R136). -/
def execDownstreamCompletion (s : State) : Result :=
  .next <|
    match s.path.port with
    | .free => s
    | .host a => (s.freePort.completeHost a).arbitrate
    | .backlog w => (s.freePort.completeBacklog w).arbitrate

/-! ### RECORD_PUSH (R146) -/

/-- The record the Mirror Writer pushes next: the first dirty one in scan order, when the part is WATCHING and the backlog
has room for all its words (R131, R146). -/
def State.pushable (s : State) : Option RecordId :=
  if s.path.watching then
    match s.mirror.firstDirty with
    | some r => if s.mirror.backlog.length + r.words ≤ backlogDepth then some r else none
    | none => none
  else none

/-- RECORD_PUSH: all the words of the record enter the backlog, and a FREE port is granted (R146, R136). -/
def execRecordPush (s : State) : Result :=
  .next <|
    match s.pushable with
    | some r => (s.pushRecord r).arbitrate
    | none => s

end Sys2Proof.Machine
end

