-- ==== Sys2Proof/Machine/Reset.lean ====
section
/-!
DEFINITION. The resets of the part (R19, R42, R66, R82, R83, R99, R117, R118, R120, R121, R137, R143, R144, R151) and the
start-up sequence (R152 to R155).
-/

namespace Sys2Proof.Machine

open Sys2Proof

/-! ### Values that every reset sets -/

/-- The Van Roster after a reset (R19). -/
def VanRoster.empty : VanRoster := { entries := Vector.replicate 128 none, agingPosition := 0 }

/-- The state a reset gives a bay: DISABLED on a lane not in service or when the set does not enable it (R66). -/
def resetBayState (p : Params) (straps : Straps) (b : BayNo) : BayState :=
  if (laneOf b).val < lanesInService straps ∧ (p.bays.get b).enabled then .empty else .disabled

/-- A bay record after a reset (R66). -/
def resetBay (p : Params) (straps : Straps) (b : BayNo) : BayRecord :=
  { BayRecord.atReset with
    state := resetBayState p straps b
    cap := (p.bays.get b).cap
    permitted := (p.bays.get b).permitted }

/-- The bay records after a reset (R66). -/
def resetBays (p : Params) (straps : Straps) : Vector BayRecord 48 := Vector.ofFn fun b => resetBay p straps b

/-- The Mirror Writer after a reset, with the backlog and the generation counts that the kind of reset leaves (R151). -/
def resetMirror (backlog : List BacklogWord) (generations : Generations) : MirrorWriter where
  dirty := DirtySet.every
  backlog := backlog
  generations := generations
  producer := 0
  consumer := 0
  overflow := false
  lostCount := 0
  alerts := Vector.replicate 64 none
  guardCount := 0
  logArea := .areaA
  logIndex := 0
  logA := Vector.replicate 120 none
  logB := Vector.replicate 120 none

/-- Generation counts after a power-on (R151). -/
def Generations.zero : Generations where
  header := 0
  bays := Vector.replicate 48 0
  roster := Vector.replicate 128 0
  bookings := Vector.replicate 160 0

/-- The Allocator after a reset, with the budget that the header goes on showing (R117, R118; log entry 23). -/
def resetAllocator (lastB : Nat) : Allocator where
  front := Vector.replicate 48 PlaneEntry.blank
  back := Vector.replicate 48 PlaneEntry.blank
  pass := none
  skipCount := 0
  standDown := false
  deliveredTotal := 0
  lastB := lastB

/-! ### RESTART (R143) -/

/-- A lane at a depot restart: a running round ends, and an exchange in flight runs on with discard set (R83). -/
def Lane.restart (x : Lane) : Lane :=
  { x with
    roundRunning := false
    pendingStart := false
    overrunInterval := none
    discard := x.exchange.isSome }

/-- A conversion set in flight completes after the restart with its sample completion discarded (R99). -/
def Conversion.restart : Conversion → Conversion
  | .idle => .idle
  | .converting interval _ => .converting interval true

/-- The Meter at a depot restart, Curtail apart (R99). -/
def FeederMeter.restart (m : FeederMeter) (limits : Limits) : FeederMeter :=
  { m with
    conversion := m.conversion.restart
    latest := none
    overload := false
    releaseRun := 0
    tailElapsed := 0
    limits := limits }

/-- The clock at a depot restart (R120). -/
def DepotClock.restart (c : DepotClock) : DepotClock := { c with interval := 0, plan := .planned, staleTimer := 0 }

/-- The Path Unit at a depot restart (R137). -/
def PathUnit.restart (p : PathUnit) : PathUnit :=
  { p with alternation := false, backlogOwed := false, guardInterval := none }

/-- Every block takes its depot-restart values; Curtail is set from the input after the Mirror Writer has been reset, so that
CURTAIL ON stands at ring index 0 (R143, R99, R151). DEDUCED (log entry 40): the limits are restored first, so that CURTAIL ON
carries the loaded set's ceiling. -/
def State.depotRestart (s : State) : State :=
  State.curtailFromInput
    { s with
      roster := VanRoster.empty
      book := []
      bays := resetBays s.config.loaded s.config.straps
      lanes := vmap Lane.restart s.lanes
      meter := s.meter.restart s.config.loaded.limits
      allocator := resetAllocator s.allocator.lastB
      clock := s.clock.restart
      mirror := resetMirror s.mirror.backlog s.mirror.generations
      path := s.path.restart
      intake := { s.intake with consumerShadow := 0 } }

/-- RESTART: the request at the head of the queue is taken; its own result DONE is stored after the reset (R143). -/
def execRestart (s : State) : Result :=
  .next (s.answerRequest (fun r => r.code == 0x1F) fun _ s' => { state := s'.depotRestart, code := .done, detail := 0 })

/-! ### Hand-over of the parameter set (R153 to R155) -/

/-- The loaded set is handed to the blocks, which set their reset values from it (R154). -/
def State.handOverParams (s : State) (p : Params) (src : ConfigSource) : State :=
  { s with
    bays := resetBays p s.config.straps
    meter := { s.meter with limits := p.limits }
    path := { s.path with planBase := p.planWindowBase, mirrorBase := p.mirrorWindowBase }
    config := { s.config with loaded := p, source := src } }

/-- Step 3 of start-up: a START-UP calibration when the offsets are none; otherwise start-up is about to end (R155). -/
def State.beginStartUpCalibration (s : State) : State :=
  match s.meter.offsets with
  | none =>
    { s with
      meter := { s.meter with calibration := .inFlight .startUp }
      config := { s.config with step := .calibrating } }
  | some _ => { s with config := { s.config with step := .ending } }

/-- The parameters are handed over and start-up goes on with step 3 (R154, R155). -/
def State.takeParams (s : State) (p : Params) (src : ConfigSource) : State :=
  (s.handOverParams p src).beginStartUpCalibration

/-- The image has failed: the defaults are taken, with CONFIG DEFAULTED (R153). -/
def State.configFailed (s : State) (reason : ConfigReason) : State :=
  (s.takeParams Params.defaults .defaults).raise (.configDefaulted reason) none none

/-! ### POWER_ON and RESET_LINE (R152, R155) -/

/-- A port access in progress at a power-on or RESET line completes (R137), and frees no slot (R144; log entry 24). -/
def Port.afterReset : Port → Port
  | .free => .free
  | .host a => .host a
  | .backlog w => .backlog { w with freesSlot := false }

/-- The host access that waits for the port after a power-on or RESET line: a held read is passed down unwatched (R137), and
a waiting access goes on unwatched (log entry 24). -/
def PathUnit.waitingAfterReset (p : PathUnit) : Option HostAccess :=
  (p.heldRead.or p.waiting).map fun a => { a with watched := false }

/-- The part as a power-on or RESET line ends, before the parameters are loaded: every block at its reset values, the straps
sampled and the filter restarted at the input's level (R99, R137, R152; log entries 24 and 25). DEDUCED (log entry 39): Curtail is
INACTIVE until start-up ends, whatever the input. DEDUCED (log entry 42): the plan is PLANNED and the stale timer 0 from the reset
on, not only from the end of start-up. -/
def State.coldReset (s : State) (straps : Straps) (level : Level) (offsets : Option Offsets) (g : Generations) : State :=
  { s with
    roster := VanRoster.empty
    book := []
    bays := resetBays Params.defaults straps
    lanes := Vector.replicate 6 Lane.atReset
    meter := { State.reset.meter with offsets := offsets, calibration := .idle, filteredLevel := level }
    allocator := resetAllocator 0
    clock := State.reset.clock
    mirror := resetMirror [] g
    path :=
      { State.reset.path with
        waiting := s.path.waitingAfterReset, port := s.path.port.afterReset, reply := s.path.reply }
    intake := State.reset.intake
    config :=
      { straps := straps, loaded := Params.defaults, source := .defaults, step := .loading, driversReleased := false } }

/-- Start-up begins: with CFGSRC low the defaults are taken at once; with it high the loader reads the image. A held read is
passed down (R137, R152, R155). -/
def State.startUp (s : State) (straps : Straps) (level : Level) (offsets : Option Offsets) (g : Generations) : State :=
  let s1 := s.coldReset straps level offsets g
  (if straps.cfgSrcHigh then s1 else s1.takeParams Params.defaults .defaults).arbitrate

/-- POWER_ON: every block is reset, offsets and generation counts with the rest (R99, R151, R155). -/
def execPowerOn (straps : Straps) (level : Level) (s : State) : Result :=
  .next (s.startUp straps level none Generations.zero)

/-- RESET_LINE: every block is reset; offsets and generation counts are kept (R99, R151, R155). -/
def execResetLine (straps : Straps) (level : Level) (s : State) : Result :=
  .next (s.startUp straps level s.meter.offsets s.mirror.generations)

/-! ### The image (R153) and the end of start-up (R155) -/

/-- CONFIG_IMAGE_LOADED: the image read has ended; the image is checked, and it or the defaults become the loaded set
(R153). -/
def execConfigImageLoaded (acked : Bool) (image : List Byte) (s : State) : Result :=
  .next <|
    if s.config.step = .loading then
      match checkImage acked image with
      | .used p => s.takeParams p .image
      | .failed reason => s.configFailed reason
    else s

/-- CONFIG_READ_TIMEOUT: the image read has not completed within 50 ms, reason NO ACK (R153). -/
def execConfigReadTimeout (s : State) : Result :=
  .next (if s.config.step = .loading then s.configFailed .noAck else s)

/-- The clock at the end of start-up (R121). -/
def DepotClock.started : DepotClock where
  timerRunning := true
  depotSeconds := 0
  valid := false
  limitReached := false
  interval := 0
  plan := .planned
  staleTimer := 0

/-- START_UP_END: step 4 of start-up (R155). -/
def execStartUpEnd (s : State) : Result :=
  .next <|
    if s.config.step = .ending then
      State.curtailFromInput
        { s with
          path := { s.path with watching := true }
          clock := DepotClock.started
          config := { s.config with step := .inService, driversReleased := true } }
    else s

end Sys2Proof.Machine
end

