-- ==== Sys2Proof/Machine/Dispatch.lean ====
section
/-!
DEFINITION. The meaning of every command, one arm for each constructor of `Instr`.
-/

namespace Sys2Proof.Machine

open Sys2Proof

/-- What a command does to everything but the queue. -/
def exec (i : Instr) (s : State) : Host.Outcome State Fault Refusal :=
  match i with
  | .powerOn straps curtail => Sys2Proof.Machine.execPowerOn straps curtail s
  | .resetLine straps curtail => Sys2Proof.Machine.execResetLine straps curtail s
  | .configImageLoaded acked image => Sys2Proof.Machine.execConfigImageLoaded acked image s
  | .configReadTimeout => Sys2Proof.Machine.execConfigReadTimeout s
  | .startUpEnd => Sys2Proof.Machine.execStartUpEnd s
  | .tick => Sys2Proof.Machine.execTick s
  | .planStale => Sys2Proof.Machine.execPlanStale s
  | .curtailTailEnd => Sys2Proof.Machine.execCurtailTailEnd s
  | .curtailInputChange => Sys2Proof.Machine.execCurtailInputChange s
  | .curtailAssertionEdge => Sys2Proof.Machine.execCurtailAssertionEdge s
  | .curtailReleaseEdge => Sys2Proof.Machine.execCurtailReleaseEdge s
  | .sampleCompletion l1 l2 l3 => Sys2Proof.Machine.execSampleCompletion l1 l2 l3 s
  | .publication => Sys2Proof.Machine.execPublication s
  | .frameSent lane => Sys2Proof.Machine.execFrameSent lane s
  | .reportComplete lane => Sys2Proof.Machine.execReportComplete lane s
  | .responseWindowExpiry lane => Sys2Proof.Machine.execResponseWindowExpiry lane s
  | .hostAccess write addr data enables => Sys2Proof.Machine.execHostAccess write addr data enables s
  | .planWordWrite slot word data enables => Sys2Proof.Machine.execPlanWordWrite slot word data enables s
  | .heartbeatWrite data enables => Sys2Proof.Machine.execHeartbeatWrite data enables s
  | .alertConsumerIndexWrite data enables => Sys2Proof.Machine.execAlertConsumerIndexWrite data enables s
  | .triggerWrite slot data enables => Sys2Proof.Machine.execTriggerWrite slot data enables s
  | .mirrorWriteStopped addr data enables => Sys2Proof.Machine.execMirrorWriteStopped addr data enables s
  | .fencedRead addr => Sys2Proof.Machine.execFencedRead addr s
  | .downstreamCompletion => Sys2Proof.Machine.execDownstreamCompletion s
  | .recordPush => Sys2Proof.Machine.execRecordPush s
  | .book => Sys2Proof.Machine.execBook s
  | .cancel => Sys2Proof.Machine.execCancel s
  | .forget => Sys2Proof.Machine.execForget s
  | .setClock => Sys2Proof.Machine.execSetClock s
  | .setBayEnable => Sys2Proof.Machine.execSetBayEnable s
  | .setBayDisable => Sys2Proof.Machine.execSetBayDisable s
  | .setBaySetCap => Sys2Proof.Machine.execSetBaySetCap s
  | .setBaySetPermittedModes => Sys2Proof.Machine.execSetBaySetPermittedModes s
  | .setLimits => Sys2Proof.Machine.execSetLimits s
  | .calibrate => Sys2Proof.Machine.execCalibrate s
  | .restart => Sys2Proof.Machine.execRestart s
  | .unknownRequest => Sys2Proof.Machine.execUnknownRequest s
  | .calibrationCompletion l1 l2 l3 => Sys2Proof.Machine.execCalibrationCompletion l1 l2 l3 s
  | .characterArrival lane octet stop => Sys2Proof.Machine.execCharacterArrival lane octet stop s

end Sys2Proof.Machine
end

