-- ==== Sys2Proof/Safety.lean ====
section
/-!
DEFINITION. The words that claims about the part are made in: an alert raised, a request at the head of the queue and its
answer, and the invariants that the manual calls laws.
-/

namespace Sys2Proof.Machine

open Sys2Proof

/-! ### What a command leaves of the Mirror Writer -/

/-- The records that a change marks dirty: those already dirty and those named, no others. -/
def DirtyBy (d d' : DirtySet) (named : RecordId → Prop) : Prop := ∀ r, d'.has r = true ↔ d.has r = true ∨ named r

/-- Only the dirty set has changed. -/
def OnlyDirty (m m' : MirrorWriter) : Prop := m' = { m with dirty := m'.dirty }

/-- Only the alert ring's entries, producer index, overflow flag and lost count, and the dirty set, have changed. -/
def OnlyRing (m m' : MirrorWriter) : Prop :=
  m' = { m with dirty := m'.dirty, alerts := m'.alerts, producer := m'.producer, overflow := m'.overflow,
                lostCount := m'.lostCount }

/-- One alert is raised: stored at the producer index while the overflow flag is clear and fewer than 63 entries are
unconsumed, and lost and counted otherwise (R147). -/
def Raises (m m' : MirrorWriter) (a : Alert) : Prop :=
  OnlyRing m m' ∧ (∀ r, m.dirty.has r = true → m'.dirty.has r = true) ∧
  if m.overflow = false ∧ (m.producer - m.consumer).val < 63 then
    m'.alerts = vput m.alerts m.producer (some a) ∧ m'.producer = m.producer + 1 ∧ m'.overflow = false ∧
    m'.lostCount = m.lostCount ∧ m'.dirty.has (.alert m.producer) = true ∧ m'.dirty.has .header = true
  else
    m'.alerts = m.alerts ∧ m'.producer = m.producer ∧ m'.overflow = true ∧ m'.lostCount = min 65535 (m.lostCount + 1) ∧
    (m.overflow = false → m'.dirty.has .header = true)

/-- The ring and the dirty set as one alert comes: stored at the producer index while the overflow flag is clear and fewer than
63 entries are unconsumed, lost and counted otherwise (R147). -/
def MirrorWriter.takes (m : MirrorWriter) (a : Alert) : MirrorWriter :=
  if m.overflow = false ∧ (m.producer - m.consumer).val < 63 then
    { m with
      alerts := vput m.alerts m.producer (some a)
      producer := m.producer + 1
      dirty := (m.dirty.mark (.alert m.producer)).mark .header }
  else
    { m with
      overflow := true
      lostCount := min 65535 (m.lostCount + 1)
      dirty := if m.overflow = true then m.dirty else m.dirty.mark .header }

/-- A run of alerts is raised, the first of the list first, and no others: the ring is as they leave it, and every record that
was dirty before or that they mark is dirty (R147). -/
def RaisesAll (m m' : MirrorWriter) (alerts : List Alert) : Prop :=
  let n := alerts.foldl MirrorWriter.takes m
  m'.alerts = n.alerts ∧ m'.producer = n.producer ∧ m'.consumer = m.consumer ∧ m'.overflow = n.overflow ∧
  m'.lostCount = n.lostCount ∧ ∀ r, n.dirty.has r = true → m'.dirty.has r = true

/-- An alert with bay none and tag none at the present depot time. -/
def plainAlert (s : State) (kind : AlertKind) : Alert :=
  { kind := kind, bay := none, tag := none, time := s.clock.depotSeconds }

/-! ### Requests (R138, R140) -/

/-- Slot `n` stands at the head of the intake queue, QUEUED with a request, and `rest` stands behind it. -/
def Requested (s : State) (n : SlotNo) (req : Request) (rest : List SlotNo) : Prop :=
  s.intake.queue = n :: rest ∧ (s.slot n).busy = some (.queued, req)

/-- The slot's request has been taken and answered: the slot has left the queue and is ANSWERED with the result, its record
is dirty, and no write of that record pushed before frees it; every other slot and the shadow are as before (R140, R141). -/
def Answered (s t : State) (n : SlotNo) (req : Request) (rest : List SlotNo) (code : ResultCode) (detail : Nat) : Prop :=
  t.intake.queue = rest ∧ t.intake.consumerShadow = s.intake.consumerShadow ∧
  t.slot n =
    { s.slot n with
      busy := some (.answered, req), result := { tag := req.tag, code := code, detail := BitVec.ofNat 40 detail } } ∧
  (∀ m, m ≠ n → t.slot m = s.slot m) ∧
  t.mirror.dirty.has (.slot n) = true ∧
  t.mirror.backlog = s.mirror.backlog.map (fun w => w.outdate n) ∧
  t.path = { s.path with port := s.path.port.outdate n }

/-! ### Host accesses (R130, R136) -/

/-- The window bases that the part can hold: aligned, and sharing no address (R130, R153, R154). -/
def WindowLaw (s : State) : Prop :=
  s.path.planBase.toNat % 4096 = 0 ∧ s.path.mirrorBase.toNat % 16384 = 0 ∧
  16384 ≤ (s.path.planBase - s.path.mirrorBase).toNat

/-- The host's next access is granted the port when it arrives: the port is FREE and no backlog word is owed (R136). -/
def HostFirst (s : State) : Prop :=
  s.path.port = .free ∧ ¬(s.path.alternation = true ∧ s.path.backlogOwed = true ∧ s.mirror.backlog ≠ [])

/-- Alternation after a push or a grant that leaves the backlog holding `depth` words (R136). -/
def alternationAfter (alternation : Bool) (depth : Nat) : Bool := decide (48 ≤ depth) || (decide (16 < depth) && alternation)

/-- The Path Unit has granted the port to a host access, `depth` words standing in the backlog: a word is owed when Alternation
was ON and the depth does not turn it OFF (R136; log entry 20). -/
def Granted (p p' : PathUnit) (depth : Nat) (a : HostAccess) : Prop :=
  p' =
    { p with
      port := .host a, waiting := none, alternation := alternationAfter p.alternation depth
      backlogOwed := p.alternation && decide (16 < depth) }

/-! ### Captured writes (R127, R133, R139, R148) -/

/-- What a forwarded heartbeat or trigger write does to the clock and, when the plan was AUTONOMOUS, to the mirror (R127). -/
def Forwarded (s : State) (clock : DepotClock) (m : MirrorWriter) (w : PlanWrite) : Prop :=
  clock = { s.clock with plan := .planned, staleTimer := 0 } ∧
  match s.clock.plan with
  | .planned => m = s.mirror
  | .autonomous => m.dirty.has .header = true ∧ Raises s.mirror m (plainAlert s (.planBack w))

/-- A heartbeat write is captured: forwarded when it has an enable, whatever its value (R127, R133). -/
def HeartbeatTaken (s t : State) (enables : BitVec 4) : Prop :=
  t.intake = s.intake ∧ (enables = 0 → t.clock = s.clock ∧ t.mirror = s.mirror) ∧
  (enables ≠ 0 → Forwarded s t.clock t.mirror .heartbeat)

/-- A write of the alert consumer index word is captured: the merged shadow value is proposed, and taken when it is 0-63 and no
further than the producer; a taken one that makes room for a set overflow flag stores OVERFLOW at once (R133, R148; log entries
18 and 19). -/
def ConsumerTaken (s t : State) (data : Word) (enables : BitVec 4) : Prop :=
  t.clock = s.clock ∧ t.intake = { s.intake with consumerShadow := mergeWord s.intake.consumerShadow data enables } ∧
  let v := (mergeWord s.intake.consumerShadow data enables).toNat
  let legal := v < 64 ∧ (v + 64 - s.mirror.consumer.val) % 64 ≤ (s.mirror.producer.val + 64 - s.mirror.consumer.val) % 64
  (¬legal → t.mirror = s.mirror) ∧
  (legal → v = s.mirror.consumer.val → t.mirror = s.mirror) ∧
  (legal → v ≠ s.mirror.consumer.val →
    t.mirror.consumer.val = v ∧ t.mirror.dirty.has .header = true ∧
    if s.mirror.overflow = true ∧ (s.mirror.producer.val + 64 - v) % 64 < 63 then
      t.mirror.alerts = vput s.mirror.alerts s.mirror.producer (some (plainAlert s (.overflow s.mirror.lostCount))) ∧
      t.mirror.producer = s.mirror.producer + 1 ∧ t.mirror.overflow = false ∧ t.mirror.lostCount = 0
    else
      t.mirror.alerts = s.mirror.alerts ∧ t.mirror.producer = s.mirror.producer ∧
      t.mirror.overflow = s.mirror.overflow ∧ t.mirror.lostCount = s.mirror.lostCount)

/-- A write of word `v` of a slot is merged into the shadow byte by byte: an enabled byte replaces, a byte not enabled keeps.
Nothing is forwarded and no request is made (R133). -/
def ShadowMerged (s t : State) (n : SlotNo) (v : Fin 8) (data : Word) (enables : BitVec 4) : Prop :=
  t.clock = s.clock ∧ t.mirror = s.mirror ∧ t.intake = { s.intake with slots := t.intake.slots } ∧
  (∀ i, i < 4 → wordByte ((t.slot n).shadow.get v) i =
    if enables.getLsbD i = true then wordByte data i else wordByte ((s.slot n).shadow.get v) i) ∧
  (∀ w, w ≠ v → (t.slot n).shadow.get w = (s.slot n).shadow.get w) ∧
  (t.slot n).busy = (s.slot n).busy ∧ (t.slot n).result = (s.slot n).result ∧ ∀ m, m ≠ n → t.slot m = s.slot m

/-- A trigger write is captured. Without an enable it does nothing. With one it is forwarded to the clock first; then a code of 0
makes no request, a FREE slot takes the request with a copy of the shadow's words, and a BUSY slot drops it with SLOT COLLISION
(R127, R133, R139). -/
def TriggerTaken (s t : State) (n : SlotNo) (data : Word) (enables : BitVec 4) : Prop :=
  (enables = 0 → t.intake = s.intake ∧ t.clock = s.clock ∧ t.mirror = s.mirror) ∧
  (enables ≠ 0 →
    ∃ m, Forwarded s t.clock m (.trigger n) ∧
      t.intake.consumerShadow = s.intake.consumerShadow ∧ (∀ k, k ≠ n → t.slot k = s.slot k) ∧
      let merged := mergeWord ((s.slot n).shadow.get 7) data enables
      let code := merged.extractLsb' 0 8
      let tag := merged.extractLsb' 16 16
      (t.slot n).shadow = vput (s.slot n).shadow 7 merged ∧ (t.slot n).result = (s.slot n).result ∧
      if code = 0 then (t.slot n).busy = (s.slot n).busy ∧ t.intake.queue = s.intake.queue ∧ t.mirror = m
      else if (s.slot n).busy = none then
        (∃ req, (t.slot n).busy = some (.queued, req) ∧ req.code = code ∧ req.tag = tag ∧
          ∀ i : Fin 7, req.words.get i = (s.slot n).shadow.get i.castSucc) ∧
        t.intake.queue = s.intake.queue ++ [n] ∧ t.mirror = m
      else
        (t.slot n).busy = (s.slot n).busy ∧ t.intake.queue = s.intake.queue ∧
        Raises m t.mirror (plainAlert s (.slotCollision n code tag)))

/-- What the grant of a host access captures: a write judged WATCHING of a captured plan word, and nothing else (R133). -/
def Captured (s t : State) (a : HostAccess) : Prop :=
  let offset := (a.addr - s.path.planBase).toNat
  (¬(a.write = true ∧ a.watched = true ∧ (offset < 8 ∨ (64 ≤ offset ∧ offset < 576))) →
    t.intake = s.intake ∧ t.clock = s.clock ∧ t.mirror = s.mirror) ∧
  (a.write = true → a.watched = true →
    (offset = 0 → HeartbeatTaken s t a.enables) ∧ (offset = 4 → ConsumerTaken s t a.data a.enables) ∧
    (∀ (n : SlotNo) (w : Fin 7), offset = 64 + 32 * n.val + 4 * w.val → ShadowMerged s t n w.castSucc a.data a.enables) ∧
    ∀ n : SlotNo, offset = 64 + 32 * n.val + 28 → TriggerTaken s t n a.data a.enables)

/-- Memory has completed a backlog word: the last word of a slot result pushed after its result was stored frees the ANSWERED
slot, and no other slot changes (R141). -/
def SlotsFreed (s t : State) (w : BacklogWord) : Prop :=
  t.intake = { s.intake with slots := t.intake.slots } ∧
  ∀ m,
    let frees : Prop :=
      w.last = true ∧ w.freesSlot = true ∧ w.record = .slot m ∧ ∃ req, (s.slot m).busy = some (.answered, req)
    (frees → t.slot m = { s.slot m with busy := none }) ∧ (¬frees → t.slot m = s.slot m)

/-! ### Fields of words (chapter 12) -/

/-- A word holds the given fields, each a lowest bit, a width and a value, and 0 in every bit that no field occupies (R156). -/
def HoldsFields {n : Nat} (w : BitVec n) (fields : List (Nat × Nat × Nat)) : Prop :=
  (∀ f ∈ fields, w.extractLsb' f.1 f.2.1 = BitVec.ofNat f.2.1 f.2.2) ∧
  ∀ i, i < n → (∀ f ∈ fields, i < f.1 ∨ f.1 + f.2.1 ≤ i) → w.getLsbD i = false

/-- A record's words hold the given fields, one list of fields for each word. -/
def WordsHold (words : List Word) (fields : List (List (Nat × Nat × Nat))) : Prop :=
  words.length = fields.length ∧ ∀ p ∈ words.zip fields, HoldsFields p.1 p.2

/-! ### Lane rounds (R69 to R71) -/

/-- A drop is due a frame in a round of the given interval, from the live bay record (R70, R124). -/
def dueIn (s : State) (l : LaneNo) (d : Drop) (interval : Word) : Bool :=
  decide ((s.bay (bayAt l d)).state ≠ .disabled ∧
    ((s.bay (bayAt l d)).state = .dozing → (interval.toNat + (8 * l.val + d.val)) % 16 = 0))

/-- What forming and sending a frame leaves of the bay's record (R58). A DOZE keeps the empty-round count (log entry 15). -/
def sentTo (x : Exchange) (bay : BayRecord) : BayRecord :=
  { bay with
    armed := false
    state := if x.kind = .doze then .dozing else bay.state
    unresolved := if x.kind = .setpoint ∨ x.kind = .stop then max bay.unresolved x.value else bay.unresolved }

/-- Lane `l` has begun a round from the live state `s`: the round interval is the present one, and the frame of the first due drop
is being sent; with no due drop the round is finished (R69, R70; log entry 15). -/
def RoundBegun (s t : State) (l : LaneNo) : Prop :=
  (∀ d, dueIn s l d s.clock.interval = true → (∀ e, e < d → dueIn s l e s.clock.interval = false) →
    let f := s.frameFor l d
    t.lane l =
      { s.lane l with
        phase := .sending, roundRunning := true, roundInterval := s.clock.interval, position := d
        exchange := some f.exchange, receiver := none, onPair := f.octets } ∧
    t.bay (bayAt l d) = sentTo f.exchange (s.bay (bayAt l d)) ∧
    ∀ e, e ≠ d → t.bay (bayAt l e) = s.bay (bayAt l e)) ∧
  ((∀ d, dueIn s l d s.clock.interval = false) →
    t.lane l = { s.lane l with phase := .idle, roundRunning := false, roundInterval := s.clock.interval } ∧
    ∀ e, t.bay (bayAt l e) = s.bay (bayAt l e))

/-- The drops that a round overrun abandons: those after the position that are due in the running round (R71). -/
def abandonedBy (s : State) (l : LaneNo) : List Drop :=
  (List.finRange 8).filter fun d => decide ((s.lane l).position < d) && dueIn s l d (s.lane l).roundInterval

/-- ROUND OVERRUN is raised when a drop is abandoned, once for each interval and lane (R71). -/
def overrunAlerts (s : State) (l : LaneNo) : List Alert :=
  if (abandonedBy s l).length ≠ 0 ∧ (s.lane l).overrunInterval ≠ some s.clock.interval then
    [plainAlert s (.roundOverrun l (abandonedBy s l).length)]
  else []

/-- The state as a round overrun has been taken and the new round has yet to begin: a missed slot at each abandoned drop, and the
overrun interval when the alert is raised (R58, R71). -/
def overrunTaken (s : State) (l : LaneNo) : State :=
  { s with
    bays := Vector.ofFn fun b =>
      if ∃ d ∈ abandonedBy s l, bayAt l d = b then
        { s.bay b with missedSlots := min 65535 ((s.bay b).missedSlots + 1) }
      else s.bay b
    lanes := vput s.lanes l
      { s.lane l with
        overrunInterval := if overrunAlerts s l = [] then (s.lane l).overrunInterval else some s.clock.interval } }

/-- A round start has reached every lane in service at the state `s`: with an exchange in flight it is left pending; between
exchanges the lane begins its round, after the overrun of a running one. The lanes not in service are as before (R69 to R71). -/
def RoundsStarted (s t : State) : Prop :=
  ∀ l : LaneNo,
    (lanesInService s.config.straps ≤ l.val →
      t.lane l = s.lane l ∧ ∀ d, t.bay (bayAt l d) = s.bay (bayAt l d)) ∧
    (l.val < lanesInService s.config.straps → (s.lane l).exchange ≠ none →
      t.lane l = { s.lane l with pendingStart := true } ∧ ∀ d, t.bay (bayAt l d) = s.bay (bayAt l d)) ∧
    (l.val < lanesInService s.config.straps → (s.lane l).exchange = none →
      if (s.lane l).roundRunning = true then RoundBegun (overrunTaken s l) t l else RoundBegun s t l)

/-- The alerts that a round start raises: the overruns of the lanes that take one at once (R71; log entry 29). -/
def roundStartAlerts (s : State) : List Alert :=
  (List.finRange 6).flatMap fun l =>
    if l.val < lanesInService s.config.straps ∧ (s.lane l).exchange = none ∧ (s.lane l).roundRunning = true then
      overrunAlerts s l
    else []

/-! ### The interval log (R149) -/

/-- A log record has been taken: it stands at the log position, every other entry is as before, and the position has moved on. -/
def Logged (m m' : MirrorWriter) (length : Nat) (r : LogRecord) : Prop :=
  m'.logEntry m.logArea m.logIndex = some r ∧
  (∀ a i, (a, i) ≠ (m.logArea, m.logIndex) → m'.logEntry a i = m.logEntry a i) ∧
  m'.dirty.has (.log m.logArea m.logIndex) = true ∧ m'.dirty.has .header = true ∧
  if m.logIndex.val + 1 = length then m'.logArea = m.logArea.other ∧ m'.logIndex = 0
  else m'.logArea = m.logArea ∧ m'.logIndex = m.logIndex + 1

/-- LOG HALF is raised when the record fills its area (R149). -/
def logHalfAlerts (s : State) : List Alert :=
  if s.mirror.logIndex.val + 1 = s.config.loaded.logLength then [plainAlert s (.logHalf s.mirror.logArea)] else []

/-! ### Passes and skipped intervals (R92, R93, R102, R103, R112, R113) -/

/-- The charging load of the live records (R92). -/
def chargingLoadOf (s : State) : Nat :=
  sumBays fun b =>
    if (s.bay b).state = .disabled then 0
    else if (s.bay b).unknown = false ∧
        ((s.bay b).lastGoodInterval = s.clock.interval ∨ (s.bay b).lastGoodInterval = s.clock.interval - 1) then
      (s.bay b).measuredPower
    else if (s.bay b).unknown = true then (s.bay b).cap
    else max (s.bay b).confirmed (s.bay b).unresolved

/-- The budget from the site-load estimate (R93). -/
def budgetFrom (limits : Limits) (siteLoad trim : Nat) (overload : Bool) (curtail : Curtail) : Nat :=
  let headroom := limits.feederLimit - limits.margin - siteLoad
  let trimmed := if overload = true then headroom - limits.feederLimit * trim / 100 else headroom
  if curtail ≠ .inactive then min trimmed limits.curtailCeiling else trimmed

/-- `sn` is the snapshot that a pass begun on `pFeed` takes of the state, with its site-load estimate and budget (R93, R103). -/
def SnapshotOf (s : State) (pFeed : Nat) (sn : Snapshot) : Prop :=
  (∀ b,
    let r := s.bay b
    sn.bays.get b =
      { state := r.state, boundTag := r.boundTag, agreedMode := r.agreedMode, cap := r.cap, confirmed := r.confirmed
        unresolved := r.unresolved, unknown := r.unknown, postCeiling := r.postCeiling, measuredPower := r.measuredPower
        lastEnergy := r.lastEnergy, lastGoodInterval := r.lastGoodInterval
        plugIn := (r.boundTag.bind s.rosterEntry).map RosterEntry.plugIn }) ∧
  sn.bookings = s.book.map (fun k =>
    { tag := k.tag, departure := k.departure, target := k.target, precondition := k.precondition, state := k.state }) ∧
  sn.pFeed = pFeed ∧ sn.overload = s.meter.overload ∧ sn.curtail = s.meter.curtail ∧ sn.limits = s.meter.limits ∧
  sn.overloadTrim = s.config.loaded.overloadTrim ∧ sn.depotTime = s.clock.depotSeconds ∧ sn.interval = s.clock.interval ∧
  sn.intervalLength = s.config.loaded.intervalLength ∧ sn.modeM1 = s.config.loaded.modeM1 ∧
  sn.modeM2 = s.config.loaded.modeM2 ∧ sn.modeM3 = s.config.loaded.modeM3 ∧ sn.modeM4 = s.config.loaded.modeM4 ∧
  sn.siteLoad = pFeed - chargingLoadOf s ∧
  sn.budget = budgetFrom s.meter.limits sn.siteLoad s.config.loaded.overloadTrim s.meter.overload s.meter.curtail

/-- The state `t` has taken a skip decision at `u`: the skip count rises, stand-down comes on at the skip limit with its alert, a
round is started on every lane in service though no bay is armed, and a skipped record is logged; the planes and a pass in flight
stay (R112, R113, R115, R116). The record's sum of committed setpoints is that of the bays as the rounds have started (log entry
16), and a DOZE that a round starts with keeps the empty-round count (log entry 15). -/
def Skipped (u t : State) (reason : SkipReason) : Prop :=
  let count := min 65535 (u.allocator.skipCount + 1)
  let comesOn : Prop := u.allocator.standDown = false ∧ u.config.loaded.skipLimit ≤ count
  let standDown := u.allocator.standDown || decide (u.config.loaded.skipLimit ≤ count)
  let w : State := { u with allocator := { u.allocator with skipCount := count, standDown := standDown } }
  t = { u with bays := t.bays, lanes := t.lanes, allocator := { w.allocator with deliveredTotal := 0 }, mirror := t.mirror } ∧
  RoundsStarted w t ∧ (∀ b, (t.bay b).armed = true → (u.bay b).armed = true) ∧ t.mirror.dirty.has .header = true ∧
  Logged u.mirror t.mirror u.config.loaded.logLength
    { interval := u.clock.interval, depotSeconds := u.clock.depotSeconds, budget := 0, sumG := 0
      sumK := sumBays fun b => if (t.bay b).state = .disabled then 0 else (t.bay b).k
      siteLoad := 0, delivered := u.allocator.deliveredTotal, skip := some reason, overload := u.meter.overload
      curtail := decide (u.meter.curtail ≠ .inactive), autonomous := decide (u.clock.plan = .autonomous)
      standDown := standDown } ∧
  RaisesAll u.mirror t.mirror
    ((if comesOn then [plainAlert u (.standDownOn count reason)] else []) ++ roundStartAlerts w ++ logHalfAlerts u) ∧
  t.mirror.backlog = u.mirror.backlog ∧ t.mirror.generations = u.mirror.generations ∧
  t.mirror.guardCount = u.mirror.guardCount

/-- What a set that is not valid leaves: while the latest valid sample is at most two intervals old it is STALE, and a pass begins
on it, or the interval is skipped while a pass runs; without such a sample the interval is skipped (R86, R87, R102). -/
def WithoutValidSet (u t : State) : Prop :=
  (∀ x, u.meter.latest = some x → (u.clock.interval - x.interval).toNat ≤ 2 →
    (u.allocator.pass = none →
      ∃ sn, SnapshotOf u x.pFeed sn ∧ t = { u with allocator := { u.allocator with pass := some sn } }) ∧
    (u.allocator.pass ≠ none → Skipped u t .passInFlight)) ∧
  ((∀ x, u.meter.latest = some x → 2 < (u.clock.interval - x.interval).toNat) → Skipped u t .noSample)

/-! ### Reports (R45) -/

/-- The state after the first three steps of a good report's arrival: link updates, meter accounting against the binding held at
arrival, and the roster hand-over (R45). -/
def State.reported (s : State) (b : BayNo) (x : Exchange) (r : Report) : State :=
  ((s.linkUpdate b x r).meterAccount b (s.bay b).boundTag r.meter).handOver b r

/-! ### Invariants -/

/-- Memory keeps its canonical form. -/
def MemoryLaw (s : State) : Prop := Memory.wf s.memory = true

/-- The mirror write backlog holds at most 64 words (R146). -/
def BacklogLaw (s : State) : Prop := s.mirror.backlog.length ≤ 64

/-- The book's law: at most 160 bookings, no two with the same tag, none sharing an internal index, in ascending departure
(R20, R21). -/
def BookLaw (s : State) : Prop :=
  s.book.length ≤ 160 ∧ (s.book.map Booking.tag).Nodup ∧ (s.book.map Booking.index).Nodup ∧
  s.book.Pairwise fun a b => a.departure.toNat ≤ b.departure.toNat

/-- A bay's failure count never exceeds the failure limit, and every bay in LOST has reached it (R56). -/
def FailureLaw (s : State) : Prop :=
  ∀ b, (s.bay b).failureCount ≤ s.config.loaded.failureLimit ∧
    ((s.bay b).state = .lost → (s.bay b).failureCount = s.config.loaded.failureLimit)

/-- A bay's optional fields are present only in the states that R43 names; AGREEING, PLUGGED and INCOMPATIBLE hold a binding, PLUGGED
an agreed mode and UNLISTED an unlisted tag (R43, The states). -/
def BindingLaw (s : State) : Prop :=
  ∀ b,
    ((s.bay b).boundTag.isSome = true →
      (s.bay b).state = .agreeing ∨ (s.bay b).state = .plugged ∨ (s.bay b).state = .incompatible ∨
      (s.bay b).state = .faulted ∨ (s.bay b).state = .lost) ∧
    ((s.bay b).agreedMode.isSome = true → (s.bay b).state = .plugged) ∧
    ((s.bay b).unlistedTag.isSome = true → (s.bay b).state = .unlisted) ∧
    ((s.bay b).state = .agreeing ∨ (s.bay b).state = .plugged ∨ (s.bay b).state = .incompatible →
      (s.bay b).boundTag.isSome = true) ∧
    ((s.bay b).state = .plugged → (s.bay b).agreedMode.isSome = true) ∧
    ((s.bay b).state = .unlisted → (s.bay b).unlistedTag.isSome = true)

/-- The roster's law: no two entries hold the same tag (R1), and bays and entries name each other (R2). -/
def PairingLaw (s : State) : Prop :=
  (∀ i j e f, s.roster.entries.get i = some e → s.roster.entries.get j = some f → e.tag = f.tag → i = j) ∧
  (∀ i e b, s.roster.entries.get i = some e → e.bay = some b → (s.bay b).boundTag = some e.tag) ∧
  (∀ b tag, (s.bay b).boundTag = some tag → ∃ i e, s.roster.entries.get i = some e ∧ e.tag = tag ∧ e.bay = some b)

/-- While the image is read nothing runs that could bind a van: no exchange, no pass, no conversion set, no interval timer,
and an empty roster (R19, R82, R99, R118, R121). -/
def LoadingIsQuiet (s : State) : Prop :=
  s.config.step = .loading →
    (∀ i, s.roster.entries.get i = none) ∧ (∀ l, (s.lane l).exchange = none) ∧ s.allocator.pass = none ∧
    s.meter.conversion = .idle ∧ s.clock.timerRunning = false

/-- The intake queue names each slot at most once, and names exactly the QUEUED slots (R138); the slot that a requested
calibration names is IN HAND (R142). -/
def QueueLaw (s : State) : Prop :=
  s.intake.queue.Nodup ∧ (∀ n, n ∈ s.intake.queue ↔ ∃ req, (s.slot n).busy = some (.queued, req)) ∧
  ∀ n, s.meter.calibration = .inFlight (.request n) → ∃ req, (s.slot n).busy = some (.inHand, req)

/-- At most one host access stands in the part: held by the fence, waiting for the port, or on it (R130). -/
def OneAccessLaw (s : State) : Prop :=
  (s.path.heldRead = none ∨ s.path.waiting = none) ∧
  ∀ a, s.path.port = .host a → s.path.heldRead = none ∧ s.path.waiting = none

/-- The port's law: at most one host access, no word owed while a backlog word is on the port, and no claimant at a FREE port
(R130, R136). -/
def PortLaw (s : State) : Prop :=
  OneAccessLaw s ∧ (∀ w, s.path.port = .backlog w → s.path.backlogOwed = false) ∧
  (s.path.port = .free → s.path.waiting = none ∧ s.mirror.backlog = [])

/-- A host access is a read, judged WATCHING, of a word in the record that the fence names. -/
def ReadsFenced (p : PathUnit) (a : HostAccess) : Prop :=
  a.watched = true ∧ a.write = false ∧ ∃ r, p.fence = some r ∧ r.covers p.mirrorBase a.addr = true

/-- No watched read of the record that is partly written waits for the port or stands on it (R135). -/
def FenceLaw (s : State) : Prop :=
  (∀ a, s.path.waiting = some a → ¬ReadsFenced s.path a) ∧ ∀ a, s.path.port = .host a → ¬ReadsFenced s.path a

/-- Until start-up has ended the part is UNWATCHED, and every record is dirty: the Mirror Writer pushes nothing (R131, R151, R155). -/
def StartUpLaw (s : State) : Prop :=
  s.config.step ≠ .inService → s.path.watching = false ∧ ∀ r, s.mirror.dirty.has r = true

/-- While the image is read the mirror window is at rest: the fence CLOSED, the backlog empty, the part UNWATCHED (R131,
R137, R151). -/
def LoadingIsUnwatched (s : State) : Prop :=
  s.config.step = .loading → s.path.fence = none ∧ s.mirror.backlog = [] ∧ s.path.watching = false

end Sys2Proof.Machine
end

