-- ==== Sys2Proof/Certificates/Slice0/Obligations.lean ====
section
/-!
DEFINITION. The statements about the part: one step, the resets and start-up, the clock, the memory path, the mirror window,
the meter, the allocator, the lanes, the bays, the book and the roster, and the invariants that every step keeps.
-/

open Sys2Proof Sys2Proof.Machine

/-! ### One step -/

/-- A step runs the command at the front of the queue on the part with the queue's rest; with none waiting the part idles
(the model's choice, log entry 4). -/
def Obligations.StepRunsTheFrontCommand : Prop :=
  (∀ c rest s, s.pending = c :: rest → step s = exec c { s with pending := rest }) ∧
  ∀ s, s.pending = [] → step s = .next s

/-! ### Resets -/

/-- What R19 says of the roster after each reset, with the bays' bindings and the dirty set. -/
def RosterIsReset (t : State) : Prop :=
  (∀ i, t.roster.entries.get i = none) ∧ t.rosterCount = 0 ∧ t.roster.agingPosition = 0 ∧
  (∀ r, t.mirror.dirty.has r = true) ∧ ∀ b, (t.bay b).boundTag = none

/-- R19, R42: roster and book after a power-on, the RESET line and a depot restart. The clock is invalid after the first two;
a restart keeps depot time, its validity and the requests queued behind it, and marks the report of an exchange in flight to
be discarded. -/
def Obligations.EveryResetEmptiesRosterAndBook : Prop :=
  (∀ straps level s c, c = Instr.powerOn straps level ∨ c = Instr.resetLine straps level →
    ∃ t, exec c s = .next t ∧ RosterIsReset t ∧ t.book = [] ∧ t.clock.valid = false) ∧
  ∀ s n req rest, Requested s n req rest → req.code = 0x1F →
    ∃ t, exec .restart s = .next t ∧ RosterIsReset t ∧ t.book = [] ∧ t.clock.depotSeconds = s.clock.depotSeconds ∧
      t.clock.valid = s.clock.valid ∧ t.intake.queue = rest ∧
      ∀ l, (s.lane l).exchange.isSome = true → (t.lane l).exchange = (s.lane l).exchange ∧ (t.lane l).discard = true

/-- The bay record that R66 gives, from the loaded set and the straps. -/
def BayIsReset (t : State) (b : BayNo) : Prop :=
  t.bay b =
    { state :=
        if b.val / 8 < lanesInService t.config.straps ∧ (t.config.loaded.bays.get b).enabled = true then .empty else .disabled
      boundTag := none, agreedMode := none, unlistedTag := none
      cap := (t.config.loaded.bays.get b).cap, permitted := (t.config.loaded.bays.get b).permitted
      confirmed := 0, unresolved := 0, unknown := true, toggle := false, armed := false, failureCount := 0
      lastFailure := .noFailure, postCeiling := 0, measuredPower := 0, lastEnergy := 0, meterBaseline := none
      lastGoodTime := 0, lastGoodInterval := 0, emptyRounds := 0, missedSlots := 0 } ∧
  (t.bay b).k = (t.config.loaded.bays.get b).cap

/-- R66: every bay record after a power-on, the RESET line and a depot restart, and as an image read during start-up ends or does
not complete. R152, R155: the straps are those sampled, the defaults are the loaded set until an image has been taken (the
model's choice, log entry 25), and start-up waits for the image with CFGSRC high and is past it with CFGSRC low, where it
calibrates when the offsets are none. -/
def Obligations.EveryResetSetsTheBays : Prop :=
  (∀ straps level s, ∃ t, exec (.powerOn straps level) s = .next t ∧
    t.config =
      { straps := straps, loaded := Params.defaults, source := .defaults, driversReleased := false
        step := if straps.cfgSrcHigh = true then .loading else .calibrating } ∧
    ∀ b, BayIsReset t b) ∧
  (∀ straps level s, ∃ t, exec (.resetLine straps level) s = .next t ∧
    t.config =
      { straps := straps, loaded := Params.defaults, source := .defaults, driversReleased := false
        step :=
          if straps.cfgSrcHigh = true then .loading else if s.meter.offsets = none then .calibrating else .ending } ∧
    ∀ b, BayIsReset t b) ∧
  (∀ acked image s, s.config.step = .loading →
    ∃ t, exec (.configImageLoaded acked image) s = .next t ∧ t.config.straps = s.config.straps ∧ ∀ b, BayIsReset t b) ∧
  (∀ s, s.config.step = .loading →
    ∃ t, exec .configReadTimeout s = .next t ∧ t.config.straps = s.config.straps ∧ t.config.loaded = Params.defaults ∧
      ∀ b, BayIsReset t b) ∧
  ∀ s n req rest, Requested s n req rest → req.code = 0x1F →
    ∃ t, exec .restart s = .next t ∧ t.config = s.config ∧ ∀ b, BayIsReset t b

/-- The Allocator's values after every reset (R118). -/
def AllocatorIsReset (t : State) : Prop :=
  (∀ b, t.allocator.front.get b = { value := 0, tag := none, mode := none, preconditionOn := false }) ∧
  (∀ b, t.allocator.back.get b = { value := 0, tag := none, mode := none, preconditionOn := false }) ∧
  t.allocator.pass = none ∧ t.allocator.skipCount = 0 ∧ t.allocator.standDown = false ∧ t.allocator.deliveredTotal = 0

/-- The lanes, the Allocator and the clock after each reset. R82, R83: every lane after a power-on and the RESET line, with the
drivers held; at a depot restart an exchange in flight runs on with discard set and a running round ends, on the same lanes in
service. R117, R118: the Allocator; a restart raises no STAND-DOWN OFF, hands on no log record and keeps the skip limit. R120,
R121: the clock, and at the end of start-up. The ceiling that a restart's CURTAIL ON carries is the model's reading (log entry
40). -/
def Obligations.ResetsSetLanesAllocatorAndClock : Prop :=
  (∀ straps level s c, c = Instr.powerOn straps level ∨ c = Instr.resetLine straps level →
    ∃ t, exec c s = .next t ∧ t.config.driversReleased = false ∧ t.config.straps = straps ∧ AllocatorIsReset t ∧
      t.clock.timerRunning = false ∧ t.clock.depotSeconds = 0 ∧
      ∀ l, t.lane l =
        { phase := .idle, roundRunning := false, roundInterval := 0, position := 0, pendingStart := false,
          overrunInterval := none, discard := false, exchange := none, receiver := none, onPair := [] }) ∧
  (∀ s, s.config.step = .ending →
    ∃ t, exec .startUpEnd s = .next t ∧
      t.clock =
        { timerRunning := true, depotSeconds := 0, valid := false, limitReached := false, interval := 0, plan := .planned,
          staleTimer := 0 }) ∧
  ∀ s n req rest, Requested s n req rest → req.code = 0x1F →
    ∃ t, exec .restart s = .next t ∧ t.config = s.config ∧ AllocatorIsReset t ∧
      t.clock = { s.clock with interval := 0, plan := .planned, staleTimer := 0 } ∧
      (∀ l, t.lane l =
        { s.lane l with
          roundRunning := false, pendingStart := false, overrunInterval := none, discard := (s.lane l).exchange.isSome }) ∧
      (∀ a i, t.mirror.logEntry a i = none) ∧
      ∀ i a, t.mirror.alerts.get i = some a → a.kind = .curtailOn s.config.loaded.limits.curtailCeiling

/-- R144: Plan Intake after a power-on and the RESET line. R143: a RESTART is answered DONE, and every other slot, the queue behind
it and the slot words of the shadow stay, while the shadow's alert consumer index word becomes 0. That static memory is not
changed by a reset is the model's choice (log entries 3 and 24). -/
def Obligations.ResetsSetTheIntake : Prop :=
  (∀ straps level s c, c = Instr.powerOn straps level ∨ c = Instr.resetLine straps level →
    ∃ t, exec c s = .next t ∧ t.intake.consumerShadow = 0 ∧ t.intake.queue = [] ∧ t.path.watching = false ∧
      t.memory = s.memory ∧
      ∀ n, (t.slot n).busy = none ∧ (t.slot n).result = { tag := 0, code := .noAnswer, detail := 0 } ∧
        (∀ w, (t.slot n).shadow.get w = 0) ∧ t.mirror.dirty.has (.slot n) = true) ∧
  ∀ s n req rest, Requested s n req rest → req.code = 0x1F →
    ∃ t, exec .restart s = .next t ∧ t.intake.queue = rest ∧ t.intake.consumerShadow = 0 ∧
      t.slot n =
        { s.slot n with
          busy := some (.answered, req), result := { tag := req.tag, code := .done, detail := 0 } } ∧
      (∀ m, m ≠ n → t.slot m = s.slot m) ∧ t.mirror.dirty.has (.slot n) = true ∧ t.memory = s.memory

/-- What the table of R151 gives alike for the three kinds of reset, the alert ring apart. -/
def MirrorIsReset (m : MirrorWriter) : Prop :=
  (∀ r, m.dirty.has r = true) ∧ m.consumer = 0 ∧ m.overflow = false ∧ m.lostCount = 0 ∧ m.guardCount = 0 ∧
  m.logArea = .areaA ∧ m.logIndex = 0 ∧ ∀ a i, m.logEntry a i = none

/-- R151: the Mirror Writer after a power-on, the RESET line and a depot restart; the alert that a restart raises stands at
index 0 of the new ring, and carries the ceiling of the loaded set (the model's reading, log entry 40). -/
def Obligations.EveryResetSetsTheMirror : Prop :=
  (∀ straps level s, ∃ t, exec (.powerOn straps level) s = .next t ∧ MirrorIsReset t.mirror ∧ t.mirror.backlog = [] ∧
    t.mirror.producer = 0 ∧ (∀ i, t.mirror.alerts.get i = none) ∧ t.path.watching = false ∧
    ∀ r, t.mirror.generations.count r = 0) ∧
  (∀ straps level s, ∃ t, exec (.resetLine straps level) s = .next t ∧ MirrorIsReset t.mirror ∧ t.mirror.backlog = [] ∧
    t.mirror.producer = 0 ∧ (∀ i, t.mirror.alerts.get i = none) ∧ t.path.watching = false ∧
    t.mirror.generations = s.mirror.generations) ∧
  ∀ s n req rest, Requested s n req rest → req.code = 0x1F →
    ∃ t, exec .restart s = .next t ∧ MirrorIsReset t.mirror ∧ t.mirror.generations = s.mirror.generations ∧
      t.mirror.backlog = s.mirror.backlog.map (fun w => w.outdate n) ∧
      match s.meter.filteredLevel with
      | .released => t.mirror.producer = 0 ∧ ∀ i, t.mirror.alerts.get i = none
      | .asserted =>
        t.mirror.producer = 1 ∧
        t.mirror.alerts.get 0 = some (plainAlert s (.curtailOn s.config.loaded.limits.curtailCeiling)) ∧
        ∀ i, i ≠ 0 → t.mirror.alerts.get i = none

/-- R99's table. At a power-on and the RESET line a START-UP calibration is in flight exactly when the defaults are handed over at
once, CFGSRC being low, and the offsets are none (R155); the limits are those of the loaded set, the defaults until an image has
been taken (the model's choice, log entry 25), and Curtail is INACTIVE until start-up ends (the model's reading, log entry 39). A set
begun before a depot restart completes with nothing else done. -/
def Obligations.ResetsSetTheMeter : Prop :=
  (∀ straps level s,
    ∃ t, exec (.powerOn straps level) s = .next t ∧
      t.meter =
        { offsets := none, calibration := if straps.cfgSrcHigh = true then .idle else .inFlight .startUp
          conversion := .idle, latest := none, overload := false, releaseRun := 0, curtail := .inactive, tailElapsed := 0
          filteredLevel := level, changePending := false, limits := Params.defaults.limits }) ∧
  (∀ straps level s,
    ∃ t, exec (.resetLine straps level) s = .next t ∧
      t.meter =
        { offsets := s.meter.offsets
          calibration :=
            if straps.cfgSrcHigh = true then .idle else if s.meter.offsets = none then .inFlight .startUp else .idle
          conversion := .idle, latest := none, overload := false, releaseRun := 0, curtail := .inactive, tailElapsed := 0
          filteredLevel := level, changePending := false, limits := Params.defaults.limits }) ∧
  (∀ s n req rest, Requested s n req rest → req.code = 0x1F →
    ∃ t, exec .restart s = .next t ∧
      t.meter =
        { s.meter with
          conversion := t.meter.conversion, latest := none, overload := false, releaseRun := 0
          curtail := if s.meter.filteredLevel = .asserted then .asserted else .inactive
          tailElapsed := 0, limits := s.config.loaded.limits } ∧
      ((s.meter.conversion = .idle ∧ t.meter.conversion = .idle) ∨
        ∃ i d, s.meter.conversion = .converting i d ∧ t.meter.conversion = .converting i true)) ∧
  ∀ l1 l2 l3 i s, s.meter.conversion = .converting i true →
    exec (.sampleCompletion l1 l2 l3) s = .next { s with meter := { s.meter with conversion := .idle } }

/-- R137: the Path Unit after a power-on and the RESET line (an access in progress completes, a held read is passed down
unwatched) and after a depot restart. That an access waiting for the port goes on unwatched, and that a backlog word on the port
frees no slot any more, is the model's reading (log entry 24). -/
def Obligations.ResetsSetThePathUnit : Prop :=
  (∀ straps level s c, c = Instr.powerOn straps level ∨ c = Instr.resetLine straps level →
    ∃ t, exec c s = .next t ∧ t.path.watching = false ∧ t.path.fence = none ∧ t.path.heldRead = none ∧
      t.path.alternation = false ∧ t.path.backlogOwed = false ∧ t.path.guardInterval = none ∧
      (∀ a, s.path.port = .host a → t.path.port = .host a) ∧
      (∀ w, s.path.port = .backlog w → t.path.port = .backlog { w with freesSlot := false }) ∧
      (∀ a, s.path.heldRead = some a ∨ (s.path.heldRead = none ∧ s.path.waiting = some a) →
        (s.path.port = .free → t.path.port = .host { a with watched := false } ∧ t.path.waiting = none) ∧
        (s.path.port ≠ .free → t.path.waiting = some { a with watched := false })) ∧
      (s.path.heldRead = none → s.path.waiting = none →
        t.path.waiting = none ∧ (s.path.port = .free → t.path.port = .free))) ∧
  ∀ s n req rest, Requested s n req rest → req.code = 0x1F →
    ∃ t, exec .restart s = .next t ∧
      t.path =
        { s.path with
          alternation := false, backlogOwed := false, guardInterval := none, port := s.path.port.outdate n }

/-! ### Configuration and start-up -/

/-- The value of `count` octets from place `start` on, the most significant first (R156). -/
def valueAt (octets : List Byte) (start count : Nat) : Nat :=
  ((octets.drop start).take count).foldl (fun v o => 256 * v + o.toNat) 0

/-- The first byte and the number of bytes of parameters 1 to 24 in the image, with the range of each in R154; that of the first
four is not an interval, and stands in `inRange` (Configuration image). -/
def scalarTable : List (Nat × Nat × Nat × Nat) :=
  [(6, 1, 1, 10), (7, 2, 0, 3600), (9, 3, 0, 0xFFF000), (12, 3, 0, 0xFFC000), (15, 1, 0, 168), (16, 2, 0, 1000), (18, 1, 0, 180),
    (19, 2, 30, 1440), (21, 4, 0, 86399), (25, 2, 1, 20000), (27, 1, 2, 15), (28, 1, 0, 255)] ++
  [(29, 1, 0, 2), (30, 1, 1, 255), (31, 2, 100, 300), (33, 2, 1, 4000), (35, 2, 100, 65535), (37, 2, 0, 10000), (39, 2, 0, 65535),
    (41, 1, 1, 25), (42, 1, 0, 50), (43, 1, 0, 60), (44, 1, 1, 10), (45, 1, 8, 120)]

/-- Parameter `n` of the image lies in its range (R154): 1 to 24 by their table, 25 to 28 the mode table, 29 to 76 the bays, of which
none names a mode outside M1 to M4 (R157). -/
def inRange (image : List Byte) (n : Nat) : Bool :=
  if n ≤ 24 then
    match scalarTable[n - 1]? with
    | none => true
    | some (start, count, low, high) =>
      let v := valueAt image start count
      decide (low ≤ v) && decide (v ≤ high) && (n != 1 || v == 1 || v == 2 || v == 5 || v == 10) &&
        (n != 2 || v == 0 || decide (10 ≤ v)) && (n != 3 || v % 4096 == 0) && (n != 4 || v % 16384 == 0)
  else if n ≤ 28 then
    let maximum := valueAt image (46 + 2 * (n - 25)) 1
    decide (1 ≤ maximum) && decide (maximum ≤ 220) && decide (valueAt image (46 + 2 * (n - 25) + 1) 1 ≤ maximum)
  else
    decide (valueAt image (54 + 2 * (n - 29)) 1 / 16 % 8 = 0) && decide (valueAt image (54 + 2 * (n - 29) + 1) 1 ≤ 220)

/-- R153's checks in their order: the reason of the first that fails. -/
def imageReason (acked : Bool) (image : List Byte) : Option ConfigReason :=
  if acked = false ∨ image.length < imageReadLength image then some .noAck
  else if valueAt image 0 4 ≠ 0x7E43D448 then some .marker
  else if valueAt image 4 2 ≠ 152 then some .length
  else if (crc16 (image.take 150)).toNat ≠ valueAt image 150 2 then some .crc
  else
    match (List.range' 1 76).find? fun n => !inRange image n with
    | some n => some (.range n)
    | none =>
      if (BitVec.ofNat 24 (valueAt image 9 3) - BitVec.ofNat 24 (valueAt image 12 3)).toNat < 16384 then some .windows
      else none

/-- The parameters that an image holds, each at its place (Configuration image). -/
def imageParams (image : List Byte) : Params :=
  let mode (k : Nat) : ModeEntry := { maximum := valueAt image (46 + 2 * k) 1, minimumRun := valueAt image (46 + 2 * k + 1) 1 }
  { intervalLength := valueAt image 6 1, planStalePeriod := valueAt image 7 2
    planWindowBase := BitVec.ofNat 24 (valueAt image 9 3), mirrorWindowBase := BitVec.ofNat 24 (valueAt image 12 3)
    agingHours := valueAt image 15 1, readyHysteresis := valueAt image 16 2, departLeadMinutes := valueAt image 18 1
    expiryHoldMinutes := valueAt image 19 2, defaultDepartureTime := valueAt image 21 4, defaultTarget := valueAt image 25 2
    failureLimit := valueAt image 27 1, dozeDelay := valueAt image 28 1
    laneRate := match valueAt image 29 1 with | 0 => .kbit250 | 1 => .kbit500 | _ => .kbit1000
    responseWindowMs := valueAt image 30 1, phaseVoltage := valueAt image 31 2, currentScale := valueAt image 33 2
    limits :=
      { feederLimit := valueAt image 35 2, margin := valueAt image 37 2, curtailCeiling := valueAt image 39 2 }
    releaseBand := valueAt image 41 1, overloadTrim := valueAt image 42 1, curtailTailMinutes := valueAt image 43 1
    skipLimit := valueAt image 44 1, logLength := valueAt image 45 1
    modeM1 := mode 0, modeM2 := mode 1, modeM3 := mode 2, modeM4 := mode 3
    bays := Vector.ofFn fun b =>
      let head := valueAt image (54 + 2 * b.val) 1
      { enabled := decide (128 ≤ head), permitted := BitVec.ofNat 4 head, cap := valueAt image (54 + 2 * b.val + 1) 1 } }

/-- The defaults of R154's table and of the mode table of Conventions. -/
def defaultParams : Params :=
  { intervalLength := 2, planStalePeriod := 120, planWindowBase := 0xFFF000, mirrorWindowBase := 0xFF8000, agingHours := 18
    readyHysteresis := 100, departLeadMinutes := 45, expiryHoldMinutes := 360, defaultDepartureTime := 18000
    defaultTarget := 6000, failureLimit := 4, dozeDelay := 30, laneRate := .kbit1000, responseWindowMs := 4, phaseVoltage := 230
    currentScale := 200, limits := { feederLimit := 2500, margin := 100, curtailCeiling := 1200 }, releaseBand := 5
    overloadTrim := 10, curtailTailMinutes := 5, skipLimit := 3, logLength := 60
    modeM1 := { maximum := 37, minimumRun := 14 }, modeM2 := { maximum := 74, minimumRun := 14 }
    modeM3 := { maximum := 110, minimumRun := 42 }, modeM4 := { maximum := 220, minimumRun := 42 }
    bays := Vector.replicate 48 { enabled := true, permitted := 0xF, cap := 220 } }

/-- What the loader leaves of the blocks when it takes a set: the straps stay, the limits, the window bases and the source
follow it, and the next step of start-up depends on the offsets (R153 to R155). -/
def SetTaken (s t : State) (p : Params) (src : ConfigSource) : Prop :=
  t.config =
    { s.config with
      loaded := p, source := src, step := if s.meter.offsets = none then .calibrating else .ending } ∧
  t.meter =
    { s.meter with
      limits := p.limits, calibration := if s.meter.offsets = none then .inFlight .startUp else s.meter.calibration } ∧
  t.path = { s.path with planBase := p.planWindowBase, mirrorBase := p.mirrorWindowBase } ∧
  t = { s with config := t.config, meter := t.meter, path := t.path, bays := t.bays, mirror := t.mirror }

/-- R153, R154: the end of the image read. An image that passes every check becomes the loaded set; one that fails gives the
defaults and CONFIG DEFAULTED with the reason, and so does a read that has not completed. The defaults are those of R154's table. -/
def Obligations.ImageReadEnds : Prop :=
  Params.defaults = defaultParams ∧
  (∀ acked image s, s.config.step = .loading → imageReason acked image = none →
    ∃ t, exec (.configImageLoaded acked image) s = .next t ∧ SetTaken s t (imageParams image) .image ∧
      t.mirror = s.mirror) ∧
  (∀ acked image reason s, s.config.step = .loading → imageReason acked image = some reason →
    ∃ t, exec (.configImageLoaded acked image) s = .next t ∧ SetTaken s t defaultParams .defaults ∧
      Raises s.mirror t.mirror (plainAlert s (.configDefaulted reason))) ∧
  ∀ s, s.config.step = .loading →
    ∃ t, exec .configReadTimeout s = .next t ∧ SetTaken s t defaultParams .defaults ∧
      Raises s.mirror t.mirror (plainAlert s (.configDefaulted .noAck))

/-- Step 4 of R155: the part is WATCHING, the timer runs, the drivers are released, and Curtail is set from the input. -/
def Obligations.StartUpEndPutsThePartInService : Prop :=
  ∀ s, s.config.step = .ending →
    ∃ t, exec .startUpEnd s = .next t ∧
      t.path = { s.path with watching := true } ∧ t.clock.timerRunning = true ∧
      t.config = { s.config with step := .inService, driversReleased := true } ∧
      t = { s with path := t.path, clock := t.clock, config := t.config, meter := t.meter, mirror := t.mirror } ∧
      match s.meter.filteredLevel with
      | .released => t.meter = { s.meter with curtail := .inactive, tailElapsed := 0 } ∧ t.mirror = s.mirror
      | .asserted =>
        t.meter = { s.meter with curtail := .asserted, tailElapsed := 0 } ∧
        Raises s.mirror t.mirror
          { kind := .curtailOn s.meter.limits.curtailCeiling, bay := none, tag := none, time := 0 }

/-! ### Depot Clock -/

/-- R122: a tick of a RUNNING timer advances depot seconds, stopping at the maximum, and the interval number, marks the header
dirty and moves the aging position (R13); a STOPPED timer produces none. R127: the stale timer's step by plan state; its alert
at the tick is that of TickRaisesItsAlerts. The command PLAN_STALE expires a timer that stands at the period, which no tick
leaves so: the tick that brings the timer there expires it (the model's reading, log entry 8). That a period no
longer than the interval length expires at the first tick after a write, and that a longer one then stands at exactly one interval
length, are the model's readings (log entries 36 and 41). -/
def Obligations.TickAdvancesTheClock : Prop :=
  (∀ s, s.clock.timerRunning = true →
    ∃ t, exec .tick s = .next t ∧
      t.clock.depotSeconds.toNat = min 4294967295 (s.clock.depotSeconds.toNat + s.config.loaded.intervalLength) ∧
      t.clock.interval = s.clock.interval + 1 ∧ t.clock.valid = s.clock.valid ∧ t.clock.timerRunning = true ∧
      t.mirror.dirty.has .header = true ∧ t.roster.agingPosition = s.roster.agingPosition + 1 ∧
      t.memory = s.memory ∧ t.path = s.path ∧ t.intake = s.intake ∧ t.config = s.config ∧
      (s.clock.plan = .autonomous → t.clock.plan = .autonomous ∧ t.clock.staleTimer = s.clock.staleTimer) ∧
      (s.clock.plan = .planned → s.config.loaded.planStalePeriod = 0 →
        t.clock.plan = .planned ∧ t.clock.staleTimer = s.clock.staleTimer) ∧
      (s.clock.plan = .planned → s.config.loaded.planStalePeriod ≠ 0 →
        if s.config.loaded.planStalePeriod ≤ s.clock.staleTimer + s.config.loaded.intervalLength then
          t.clock.plan = .autonomous ∧ t.clock.staleTimer = 0
        else
          t.clock.plan = .planned ∧ t.clock.staleTimer = s.clock.staleTimer + s.config.loaded.intervalLength)) ∧
  (∀ s, s.clock.timerRunning = false → exec .tick s = .next s) ∧
  ∀ s, s.clock.plan = .planned → s.config.loaded.planStalePeriod ≠ 0 →
    s.config.loaded.planStalePeriod ≤ s.clock.staleTimer →
    ∃ t, exec .planStale s = .next t ∧ t.clock = { s.clock with plan := .autonomous, staleTimer := 0 } ∧
      t = { s with clock := t.clock, mirror := t.mirror } ∧ t.mirror.dirty.has .header = true ∧
      Raises s.mirror t.mirror (plainAlert s (.planStale s.config.loaded.planStalePeriod))

/-- R13, R31, R32: the tick's scan of the book at the depot time it leaves, and its aging step. Where the tick's own scan
ends the entry's booking, the free order of the two blocks decides (log entry 7), and the statement leaves that open. -/
def Obligations.TickScansBookAndRoster : Prop :=
  ∀ s, s.clock.timerRunning = true →
    ∃ t, exec .tick s = .next t ∧
      let now := t.clock.depotSeconds.toNat
      t.book = s.book.filterMap (fun k =>
        if k.departure.toNat + 60 * s.config.loaded.expiryHoldMinutes < now then none
        else if (k.state = .waiting ∨ k.state = .charging) ∧ k.departure.toNat ≤ now then some { k with state := .short }
        else some k) ∧
      (∀ j, j ≠ s.roster.agingPosition → t.roster.entries.get j = s.roster.entries.get j) ∧
      (s.roster.entries.get s.roster.agingPosition = none → t.roster.entries.get s.roster.agingPosition = none) ∧
      ∀ e, s.roster.entries.get s.roster.agingPosition = some e →
        let aged : Prop :=
          s.config.loaded.agingHours ≠ 0 ∧ e.bay = none ∧ 3600 * s.config.loaded.agingHours < now - e.lastSeen.toNat
        (aged → (∀ k ∈ s.book, k.tag ≠ e.tag) → t.roster.entries.get s.roster.agingPosition = none) ∧
        ((¬aged ∨ ∃ k ∈ t.book, k.tag = e.tag) → t.roster.entries.get s.roster.agingPosition = some e)

/-- CURTAIL OFF, at the tick that brings a tail to its length (R96). -/
def tailAlerts (s : State) (now : Word) : List Alert :=
  if s.meter.curtail = .tail ∧
      60 * s.config.loaded.curtailTailMinutes ≤ s.meter.tailElapsed + s.config.loaded.intervalLength then
    [{ kind := .curtailOff, bay := none, tag := none, time := now }]
  else []

/-- EXPIRED and SHORT, one for each booking that the scan judges so, in departure order (R31, R32; the order is the model's choice,
log entry 10). -/
def scanAlerts (s : State) (now : Word) : List Alert :=
  s.book.flatMap fun k =>
    if k.departure.toNat + 60 * s.config.loaded.expiryHoldMinutes < now.toNat then
      [{ kind := .expired k.delivered k.state, bay := s.boundBay k.tag, tag := some k.tag, time := now }]
    else if (k.state = .waiting ∨ k.state = .charging) ∧ k.departure.toNat ≤ now.toNat then
      [{ kind := .short (k.target - ((s.rosterEntry k.tag).map RosterEntry.lastEnergy).getD 0)
         bay := s.boundBay k.tag, tag := some k.tag, time := now }]
    else []

/-- VAN AGED, when the tick has removed the entry at the aging position (R13). -/
def agingAlerts (s u : State) (now : Word) : List Alert :=
  match s.roster.entries.get s.roster.agingPosition, u.roster.entries.get s.roster.agingPosition with
  | some e, none => [{ kind := .vanAged s.roster.agingPosition, bay := none, tag := some e.tag, time := now }]
  | _, _ => []

/-- The alerts that a tick raises, from `s` to `u`, at the depot time it leaves: CLOCK LIMIT with limit reached, then PLAN STALE,
then those of the Meter, the Book and the Roster, the three in an order that is left open (R122, R123, R127; log entries 7 and
35). -/
def TickAlerts (s u : State) : Prop :=
  let now := u.clock.depotSeconds
  let period := s.config.loaded.planStalePeriod
  let atTop : Prop := now = 4294967295 ∧ s.clock.limitReached = false
  let stale : Prop :=
    s.clock.plan = .planned ∧ period ≠ 0 ∧ period ≤ s.clock.staleTimer + s.config.loaded.intervalLength
  u.clock.limitReached = (s.clock.limitReached || decide (now = 4294967295)) ∧ OnlyRing s.mirror u.mirror ∧
  ∃ blocks : List (List Alert), blocks.Perm [tailAlerts s now, scanAlerts s now, agingAlerts s u now] ∧
    RaisesAll s.mirror u.mirror
      ((if atTop then [{ kind := .clockLimit, bay := none, tag := none, time := now }] else []) ++
        (if stale then [{ kind := .planStale period, bay := none, tag := none, time := now }] else []) ++ blocks.flatten)

/-- R13, R31, R32, R96, R122, R123, R127: the alerts of a tick. R85: a tick begins a conversion set, or during a calibration
completes one at once that produced no codes, which is then STALE or no usable sample. A conversion set still running takes the
new interval number and keeps its discard (the model's choice, log entry 22), and what the completion at the tick does comes
behind the blocks' own work (log entry 21). PLAN STALE comes at the first tick after a write where the period is no longer than the
interval length (log entry 36). -/
def Obligations.TickRaisesItsAlerts : Prop :=
  ∀ s, s.clock.timerRunning = true →
    ∃ t, exec .tick s = .next t ∧
      (s.meter.calibration = .idle →
        TickAlerts s t ∧
        t = { s with book := t.book, roster := t.roster, meter := t.meter, clock := t.clock, mirror := t.mirror,
                     draws := t.draws } ∧
        t.meter =
          { s.meter with
            conversion :=
              .converting t.clock.interval
                (match s.meter.conversion with | .idle => false | .converting _ discard => discard)
            curtail := t.meter.curtail, tailElapsed := t.meter.tailElapsed }) ∧
      ∀ origin, s.meter.calibration = .inFlight origin →
        ∃ u, TickAlerts s u ∧
          u = { s with book := t.book, roster := t.roster, meter := t.meter, clock := t.clock, mirror := u.mirror,
                       draws := t.draws } ∧
          t.meter = { s.meter with curtail := t.meter.curtail, tailElapsed := t.meter.tailElapsed } ∧
          WithoutValidSet u t

/-- R125: SET CLOCK replaces depot time, makes the clock valid and is answered with the time it replaced. -/
def Obligations.SetClockSetsDepotTime : Prop :=
  ∀ s n req rest, Requested s n req rest → req.code = 0x10 →
    ∃ t, exec .setClock s = .next t ∧ Answered s t n req rest .done s.clock.depotSeconds.toNat ∧
      t.clock =
        { s.clock with
          depotSeconds := req.words.get 0, valid := true
          limitReached := decide (req.words.get 0 = 4294967295) } ∧
      t.mirror.dirty.has .header = true ∧
      t = { s with clock := t.clock, intake := t.intake, mirror := t.mirror, path := t.path } ∧
      if req.words.get 0 = 4294967295 ∧ s.clock.limitReached = false then
        ∃ m, Raises s.mirror m { kind := .clockLimit, bay := none, tag := none, time := 4294967295 } ∧
          t.mirror = { m with dirty := t.mirror.dirty, backlog := t.mirror.backlog }
      else t.mirror = { s.mirror with dirty := t.mirror.dirty, backlog := t.mirror.backlog }

/-! ### Path Unit -/

/-- R130 to R132: an access that the windows do not act on (in UNWATCHED mode, any; in WATCHING mode, a write of no mirror
word and no captured plan word, or a read of no fenced word) goes down as it came: it takes the port when that is its turn,
and waits otherwise, and nothing else of the part changes. An access that breaks R130, at an address that is no multiple of 4
or while one is outstanding, stops with the fault of that name (log entry 28). -/
def Obligations.HostAccessIsPassedDown : Prop :=
  (∀ write addr data enables s,
    addr.toNat % 4 = 0 → s.path.outstanding = false →
    (s.path.watching = true → write = true →
      16384 ≤ (addr - s.path.mirrorBase).toNat ∧
      ((addr - s.path.planBase).toNat < 4096 →
        8 ≤ (addr - s.path.planBase).toNat ∧
        ((addr - s.path.planBase).toNat < 64 ∨ 576 ≤ (addr - s.path.planBase).toNat))) →
    (s.path.watching = true → write = false → s.path.fenceCovers addr = false) →
    let a : HostAccess := { write := write, addr := addr, data := data, enables := enables, watched := s.path.watching }
    (HostFirst s →
      ∃ t, exec (.hostAccess write addr data enables) s = .next t ∧
        Granted s.path t.path s.mirror.backlog.length a ∧ t = { s with path := t.path }) ∧
    (s.path.port ≠ .free →
      exec (.hostAccess write addr data enables) s = .next { s with path := { s.path with waiting := some a } })) ∧
  (∀ write addr data enables s, addr.toNat % 4 ≠ 0 →
    exec (.hostAccess write addr data enables) s = .fault .misalignedAddress) ∧
  (∀ addr data enables s, addr.toNat % 4 ≠ 0 → exec (.mirrorWriteStopped addr data enables) s = .fault .misalignedAddress) ∧
  (∀ addr s, addr.toNat % 4 ≠ 0 → exec (.fencedRead addr) s = .fault .misalignedAddress) ∧
  (∀ write addr data enables s, addr.toNat % 4 = 0 → s.path.outstanding = true →
    exec (.hostAccess write addr data enables) s = .fault .accessOutstanding ∧
    exec (.mirrorWriteStopped addr data enables) s = .fault .accessOutstanding ∧
    exec (.fencedRead addr) s = .fault .accessOutstanding) ∧
  ∀ s n w data enables, WindowLaw s → s.path.outstanding = true →
    exec (.planWordWrite n w data enables) s = .fault .accessOutstanding ∧
    exec (.heartbeatWrite data enables) s = .fault .accessOutstanding ∧
    exec (.alertConsumerIndexWrite data enables) s = .fault .accessOutstanding ∧
    exec (.triggerWrite n data enables) s = .fault .accessOutstanding

/-- R133: a write of a slot's parameter word is merged into the shadow byte by byte at its grant, and goes down as it came;
nothing is forwarded and no request is made. A busy port makes it wait uncaptured. -/
def Obligations.PlanWordWriteMergesTheShadow : Prop :=
  ∀ s n (w : Fin 7) data enables,
    s.path.watching = true → WindowLaw s → s.path.outstanding = false →
    let a : HostAccess :=
      { write := true, addr := s.path.planBase + BitVec.ofNat 24 (0x40 + 32 * n.val + 4 * w.val), data := data,
        enables := enables, watched := true }
    (HostFirst s →
      ∃ t, exec (.planWordWrite n w data enables) s = .next t ∧ Granted s.path t.path s.mirror.backlog.length a ∧
        ShadowMerged s t n w.castSucc data enables ∧ t = { s with path := t.path, intake := t.intake }) ∧
    (s.path.port ≠ .free →
      exec (.planWordWrite n w data enables) s = .next { s with path := { s.path with waiting := some a } })

/-- R127: a heartbeat write with an enable restarts the stale timer and returns an AUTONOMOUS plan to PLANNED, whatever its
value; one with no enable is not forwarded. R148: a write of the alert consumer index word proposes the merged shadow value. Both
are captured at the grant, go down as they came, and wait uncaptured for a busy port (R133). That a proposal equal to the present
index changes nothing at all, and that a write with no enable still proposes, are the model's readings (log entries 18, 19). -/
def Obligations.HeartbeatAndConsumerIndexAreCaptured : Prop :=
  ∀ s data enables, s.path.watching = true → WindowLaw s → s.path.outstanding = false →
    let h : HostAccess := { write := true, addr := s.path.planBase, data := data, enables := enables, watched := true }
    let c : HostAccess := { write := true, addr := s.path.planBase + 4, data := data, enables := enables, watched := true }
    (HostFirst s →
      (∃ t, exec (.heartbeatWrite data enables) s = .next t ∧ Granted s.path t.path s.mirror.backlog.length h ∧
        t = { s with path := t.path, clock := t.clock, mirror := t.mirror } ∧ HeartbeatTaken s t enables) ∧
      ∃ t, exec (.alertConsumerIndexWrite data enables) s = .next t ∧ Granted s.path t.path s.mirror.backlog.length c ∧
        t = { s with path := t.path, intake := t.intake, mirror := t.mirror } ∧ ConsumerTaken s t data enables) ∧
    (s.path.port ≠ .free →
      exec (.heartbeatWrite data enables) s = .next { s with path := { s.path with waiting := some h } } ∧
      exec (.alertConsumerIndexWrite data enables) s = .next { s with path := { s.path with waiting := some c } })

/-- R139: a trigger write is forwarded to the clock first; then a code of 0 makes no request, a FREE slot takes the request
with a copy of the shadow's words, and a BUSY slot drops it with SLOT COLLISION. One with no enable goes down and does nothing
(R132), and a busy port makes it wait uncaptured (R133). -/
def Obligations.TriggerWriteMakesARequest : Prop :=
  ∀ s n data enables, s.path.watching = true → WindowLaw s → s.path.outstanding = false →
    let a : HostAccess :=
      { write := true, addr := s.path.planBase + BitVec.ofNat 24 (0x40 + 32 * n.val + 28), data := data, enables := enables,
        watched := true }
    (HostFirst s →
      ∃ t, exec (.triggerWrite n data enables) s = .next t ∧ Granted s.path t.path s.mirror.backlog.length a ∧
        t = { s with path := t.path, clock := t.clock, intake := t.intake, mirror := t.mirror } ∧
        TriggerTaken s t n data enables) ∧
    (s.path.port ≠ .free →
      exec (.triggerWrite n data enables) s = .next { s with path := { s.path with waiting := some a } })

/-- R134, R135: a host write to the mirror window is stopped: completed at once, memory and port untouched, the guard count
raised, and GUARD raised for the first of an interval. A host read of a word of the record that the fence names becomes the
held read; with the fence CLOSED it goes down. -/
def Obligations.MirrorWindowIsGuarded : Prop :=
  (∀ s addr data enables, s.path.watching = true → addr.toNat % 4 = 0 → s.path.outstanding = false →
    (addr - s.path.mirrorBase).toNat < 16384 →
    ∃ t, exec (.mirrorWriteStopped addr data enables) s = .next t ∧
      t = { s with path := t.path, mirror := t.mirror } ∧
      t.path =
        { s.path with
          guardInterval := some s.clock.interval
          reply := some
            { access := { write := true, addr := addr, data := data, enables := enables, watched := true }, data := 0 } } ∧
      t.mirror.guardCount = min 65535 (s.mirror.guardCount + 1) ∧ t.mirror.dirty.has .header = true ∧
      if s.path.guardInterval = some s.clock.interval then
        t.mirror = { s.mirror with guardCount := t.mirror.guardCount, dirty := t.mirror.dirty }
      else
        Raises { s.mirror with guardCount := t.mirror.guardCount } t.mirror
          (plainAlert s (.guard addr t.mirror.guardCount))) ∧
  ∀ s addr, s.path.watching = true → addr.toNat % 4 = 0 → s.path.outstanding = false →
    let a : HostAccess := { write := false, addr := addr, data := 0, enables := 0xF, watched := true }
    (∀ r, s.path.fence = some r → r.offset ≤ (addr - s.path.mirrorBase).toNat →
      (addr - s.path.mirrorBase).toNat < r.offset + 4 * r.words →
      exec (.fencedRead addr) s = .next { s with path := { s.path with heldRead := some a } }) ∧
    (s.path.fence = none → HostFirst s →
      ∃ t, exec (.fencedRead addr) s = .next t ∧ Granted s.path t.path s.mirror.backlog.length a ∧
        t = { s with path := t.path })

/-- R132: when memory completes a host access, a write has reached the enabled bytes of its word and no others, a read has
returned memory's data, and the access is completed to the host. -/
def Obligations.HostAccessCompletes : Prop :=
  ∀ s a, s.path.port = .host a → MemoryLaw s →
    ∃ t, exec .downstreamCompletion s = .next t ∧
      t.path.reply = some { access := a, data := if a.write = true then 0 else memWord s.memory a.addr } ∧
      (a.write = false → t.memory = s.memory) ∧
      (a.write = true →
        (∀ i, i < 4 → a.enables.getLsbD i = true → memByte t.memory (byteAddr a.addr i) = wordByte a.data i) ∧
        ∀ k, (∀ i, i < 4 → a.enables.getLsbD i = true → k ≠ byteAddr a.addr i) → memByte t.memory k = memByte s.memory k) ∧
      (s.path.waiting = none → s.path.heldRead = none → s.mirror.backlog = [] →
        t = { s with memory := t.memory, path := { s.path with port := .free, reply := t.path.reply } })

/-- R135, R141: when memory completes a backlog word, the word stands in memory; the last word of a record closes the fence,
grants a held read next, and frees an ANSWERED slot when it was pushed after the slot's result was stored. -/
def Obligations.BacklogWordCompletes : Prop :=
  ∀ s w, s.path.port = .backlog w → MemoryLaw s →
    ∃ t, exec .downstreamCompletion s = .next t ∧
      (∀ i, i < 4 → memByte t.memory (byteAddr w.addr i) = wordByte w.data i) ∧
      (∀ k, (∀ i, i < 4 → k ≠ byteAddr w.addr i) → memByte t.memory k = memByte s.memory k) ∧
      (w.last = false → t.intake.slots = s.intake.slots ∨ s.path.waiting ≠ none) ∧
      (w.last = true → s.path.waiting = none → s.path.backlogOwed = false →
        (∀ a, s.path.heldRead = some a → t.path.port = .host a ∧ t.path.heldRead = none ∧ t.path.fence = none) ∧
        (s.path.heldRead = none → s.mirror.backlog = [] → t.path.port = .free ∧ t.path.fence = none) ∧
        ∀ n req, w.freesSlot = true → w.record = .slot n → s.path.heldRead = none →
          (s.slot n).busy = some (.answered, req) → t.slot n = { s.slot n with busy := none })

/-- R136: the arbiter's four cases at a completion, for a state with at most one host access in the part. A completed last word
closes the fence and its held read joins the port as a claimant (R135). A word granted at a CLOSED fence opens it on its record;
a host access granted is captured (R133). Backlog owed and Alternation after each grant are judged by Alternation before it (the
model's reading, log entry 20), and a waiting watched read of the record that a word opens is held (log entry 27). A completion
at a FREE port changes nothing (log entry 5). -/
def Obligations.ArbiterGrantsInOrder : Prop :=
  (∀ s, OneAccessLaw s → s.path.port ≠ .free →
    let closes : Prop := ∃ w, s.path.port = .backlog w ∧ w.last = true
    let wordDue : Prop := s.path.alternation = true ∧ s.path.backlogOwed = true ∧ s.mirror.backlog ≠ []
    ∃ t u fence held claim, exec .downstreamCompletion s = .next t ∧
      (closes → fence = none ∧ held = none ∧ claim = s.path.heldRead.or s.path.waiting) ∧
      (¬closes → fence = s.path.fence ∧ held = s.path.heldRead ∧ claim = s.path.waiting) ∧
      u = { s with intake := u.intake } ∧ (∀ a, s.path.port = .host a → u = s) ∧
      (∀ w, s.path.port = .backlog w → SlotsFreed s u w) ∧
      t = { s with memory := t.memory, path := t.path, mirror := t.mirror, intake := t.intake, clock := t.clock } ∧
      (∀ a, held = none → claim = some a → ¬wordDue →
        Granted { s.path with fence := fence, heldRead := none, reply := t.path.reply } t.path s.mirror.backlog.length a ∧
        Captured u t a) ∧
      (∀ w rest, s.mirror.backlog = w :: rest → (held ≠ none ∨ claim = none ∨ wordDue) →
        t.mirror = { s.mirror with backlog := rest } ∧ t.intake = u.intake ∧ t.clock = s.clock ∧
        t.path.port = .backlog w ∧ t.path.fence = some (fence.getD w.record) ∧ t.path.backlogOwed = false ∧
        t.path.alternation = alternationAfter s.path.alternation rest.length ∧
        (claim = none → t.path.heldRead = held ∧ t.path.waiting = none) ∧
        ∀ a, held = none → claim = some a →
          let covered : Prop :=
            a.watched = true ∧ a.write = false ∧ (fence.getD w.record).covers s.path.mirrorBase a.addr = true
          (covered → t.path.heldRead = some a ∧ t.path.waiting = none) ∧
          (¬covered → t.path.heldRead = none ∧ t.path.waiting = some a)) ∧
      (s.mirror.backlog = [] → (held ≠ none ∨ claim = none) →
        t.mirror = s.mirror ∧ t.intake = u.intake ∧ t.clock = s.clock ∧
        t.path =
          { s.path with port := .free, fence := fence, heldRead := held, waiting := none, reply := t.path.reply })) ∧
  ∀ s, s.path.port = .free → exec .downstreamCompletion s = .next s

/-! ### Mirror Writer -/

/-- A record's place in the scan order of R146: slot results, alert entries in the order their alerts were stored, bays, bookings,
roster entries, log entries in the order they were written, and the header. Alert and log entries that have not been stored since
the last reset come behind those that have (the model's choice, log entry 17). -/
def scanRank (m : MirrorWriter) : RecordId → Nat
  | .slot n => n.val
  | .alert i => 1000 + if (m.alerts.get i).isSome then (i - m.producer).val else 64 + i.val
  | .bay b => 2000 + b.val
  | .booking i => 3000 + i.val
  | .roster i => 4000 + i.val
  | .log a i =>
    5000 +
      if (m.logEntry a i).isSome then
        (if a = m.logArea then (if m.logIndex ≤ i then i.val - m.logIndex.val else 240 + i.val - m.logIndex.val)
         else 120 - m.logIndex.val + i.val)
      else 240 + (if a = .areaB then 120 else 0) + i.val
  | .header => 6000

/-- A record is the first dirty one in the scan order (R146). -/
def FirstInScan (m : MirrorWriter) (r : RecordId) : Prop :=
  m.dirty.has r = true ∧ ∀ q, m.dirty.has q = true → scanRank m r ≤ scanRank m q

/-- R145, R146: the Mirror Writer pushes the first dirty record in scan order, whole, when the backlog has room for it: the
record leaves the dirty set, its generation count rises, and its words, taken from the state at that moment with the new count,
enter the backlog with the first word last. The last word of an ANSWERED slot's result is the one that will free the slot
(R141). At a FREE port, which has no claimant, the first of the words is granted at once and opens the fence on the record (R135,
R136). -/
def Obligations.RecordIsPushedWhole : Prop :=
  (∀ s r, PortLaw s → s.path.watching = true → FirstInScan s.mirror r → s.mirror.backlog.length + r.words ≤ 64 →
    ∃ t words, exec .recordPush s = .next t ∧
      DirtyBy t.mirror.dirty s.mirror.dirty (fun q => q = r) ∧ t.mirror.dirty.has r = false ∧
      (∀ q, t.mirror.generations.count q =
        if q = r ∧ 8 ≤ r.words then s.mirror.generations.count q + 1 else s.mirror.generations.count q) ∧
      words.length = r.words ∧
      (∀ w ∈ words, w.record = r ∧
        (w.freesSlot = true ↔ w.last = true ∧ ∃ n req, r = .slot n ∧ (s.slot n).busy = some (.answered, req))) ∧
      words.map (fun w => w.addr) =
        ((List.range' 1 (r.words - 1)).map fun i => s.path.mirrorBase + BitVec.ofNat 24 (r.offset + 4 * i)) ++
          [s.path.mirrorBase + BitVec.ofNat 24 r.offset] ∧
      words.map (fun w => w.last) = List.replicate (r.words - 1) false ++ [true] ∧
      (let contents := ({ s with mirror := { s.mirror with generations := t.mirror.generations } } : State).recordWords r
       words.map (fun w => w.data) = contents.drop 1 ++ contents.take 1) ∧
      t = { s with mirror := t.mirror, path := t.path } ∧
      t.mirror =
        { s.mirror with
          dirty := t.mirror.dirty, generations := t.mirror.generations, backlog := t.mirror.backlog } ∧
      (s.path.port ≠ .free →
        t.mirror.backlog = s.mirror.backlog ++ words ∧
        t.path =
          { s.path with
            alternation := alternationAfter s.path.alternation (s.mirror.backlog.length + r.words)
            backlogOwed := s.path.backlogOwed && decide (16 < s.mirror.backlog.length + r.words) }) ∧
      (s.path.port = .free → ∀ w rest, words = w :: rest →
        t.mirror.backlog = rest ∧
        t.path =
          { s.path with
            port := .backlog w, fence := some (s.path.fence.getD r), alternation := false, backlogOwed := false })) ∧
  (∀ s r, FirstInScan s.mirror r → 64 < s.mirror.backlog.length + r.words → exec .recordPush s = .next s) ∧
  (∀ s, (∀ r, s.mirror.dirty.has r = false) → exec .recordPush s = .next s) ∧
  ∀ s, s.path.watching = false → exec .recordPush s = .next s

/-- The alert codes and the fields of the details, in 80 bits (Alert entry table). -/
def alertTable : AlertKind → Nat × List (Nat × Nat × Nat)
  | .plugIn a => (0x01, [(0, 80, a.code)])
  | .unplug st => (0x02, [(0, 80, st.code)])
  | .modeAgreed m common => (0x03, [(0, 8, modeCode (some m)), (8, 4, common.toNat)])
  | .incompatible van post => (0x04, [(0, 4, van.toNat), (4, 4, post.toNat)])
  | .bayFault st => (0x05, [(0, 80, st.code)])
  | .bayClear st => (0x06, [(0, 80, st.code)])
  | .bayLost k => (0x07, [(0, 80, k.code)])
  | .bayBack st => (0x08, [(0, 80, st.code)])
  | .tagClash p => (0x10, [(0, 80, p.val)])
  | .vanMoved p => (0x11, [(0, 80, p.val)])
  | .rosterFull n => (0x12, [(0, 80, n)])
  | .rosterEvict i => (0x13, [(0, 80, i.val)])
  | .vanAged i => (0x14, [(0, 80, i.val)])
  | .ready energy => (0x20, [(0, 80, energy)])
  | .short shortfall => (0x21, [(0, 80, shortfall)])
  | .departed energy delivered => (0x22, [(0, 16, energy), (16, 16, min delivered 65535)])
  | .expired delivered st => (0x23, [(0, 16, min delivered 65535), (16, 8, st.code)])
  | .planStale period => (0x30, [(0, 80, period)])
  | .planBack .heartbeat => (0x31, [])
  | .planBack (.trigger n) => (0x31, [(0, 8, 1), (8, 4, n.val)])
  | .overloadOn p limit => (0x32, [(0, 32, p), (32, 16, limit)])
  | .overloadOff p threshold => (0x33, [(0, 32, p), (32, 16, threshold)])
  | .curtailOn ceiling => (0x34, [(0, 80, ceiling)])
  | .curtailOff => (0x35, [])
  | .standDownOn count reason => (0x36, [(0, 16, count), (16, 1, reason.code)])
  | .standDownOff count => (0x37, [(0, 80, count)])
  | .calDone o => (0x40, [(0, 12, o.l1), (12, 12, o.l2), (24, 12, o.l3)])
  | .calFail a b c =>
    (0x41,
      [(0, 1, bit a.isSome), (1, 1, bit b.isSome), (2, 1, bit c.isSome), (4, 12, a.getD 0), (16, 12, b.getD 0),
        (28, 12, c.getD 0)])
  | .guard addr count => (0x50, [(0, 24, addr.toNat), (24, 16, count)])
  | .slotCollision n code tag => (0x51, [(0, 4, n.val), (8, 8, code.toNat), (16, 16, tag.toNat)])
  | .roundOverrun l drops => (0x60, [(0, 8, l.val), (8, 8, drops)])
  | .logHalf area => (0x70, [(0, 80, if area = .areaB then 1 else 0)])
  | .overflow lost => (0x71, [(0, 80, lost)])
  | .clockLimit => (0x72, [])
  | .configDefaulted reason =>
    (0x73, [(0, 8, reason.code), (8, 8, match reason with | .range n => n | _ => 0)])

/-- The common codes of chapter 12. -/
def CommonCodes : Prop :=
  [none, some ChargeMode.m1, some .m2, some .m3, some .m4].map modeCode = [0, 1, 2, 3, 4] ∧
  [BayState.disabled, .closing, .empty, .dozing, .agreeing, .plugged, .incompatible, .unlisted, .faulted, .lost].map
    BayState.code = [0, 1, 2, 3, 4, 5, 6, 7, 8, 9] ∧
  [FailureKind.noFailure, .framing, .flags, .timeout, .overrun, .crc, .dropEcho, .downlink].map FailureKind.code =
    [0, 1, 2, 3, 4, 5, 6, 7] ∧
  [BookingState.waiting, .charging, .ready, .short].map BookingState.code = [1, 2, 3, 4] ∧
  [RosterAnswer.bound, .migration, .clash, .refused].map RosterAnswer.code = [0, 1, 2, 3] ∧
  [SkipReason.noSample, .passInFlight].map SkipReason.code = [0, 1] ∧
  [ResultCode.noAnswer, .done, .badField, .full, .notFound, .inUse, .busy, .noClock, .unknownRequest, .calFailed].map
    ResultCode.code = [0, 1, 2, 3, 4, 5, 6, 7, 8, 9] ∧
  [ConfigReason.noAck, .marker, .length, .crc, .range 5, .windows].map ConfigReason.code = [1, 2, 3, 4, 5, 6]

/-- Where the records stand in the mirror window and how many words each has (R145). -/
def RecordPlaces : Prop :=
  (RecordId.header.offset = 0 ∧ RecordId.header.words = 16) ∧
  (∀ n, (RecordId.slot n).offset = 0x40 + 8 * n.val ∧ (RecordId.slot n).words = 2) ∧
  (∀ b, (RecordId.bay b).offset = 0x100 + 32 * b.val ∧ (RecordId.bay b).words = 8) ∧
  (∀ i, (RecordId.roster i).offset = 0x800 + 32 * i.val ∧ (RecordId.roster i).words = 8) ∧
  (∀ i, (RecordId.booking i).offset = 0x1800 + 32 * i.val ∧ (RecordId.booking i).words = 8) ∧
  (∀ i, (RecordId.alert i).offset = 0x2C00 + 16 * i.val ∧ (RecordId.alert i).words = 4) ∧
  (∀ i, (RecordId.log .areaA i).offset = 0x3000 + 16 * i.val ∧ (RecordId.log .areaA i).words = 4) ∧
  ∀ i, (RecordId.log .areaB i).offset = 0x3800 + 16 * i.val ∧ (RecordId.log .areaB i).words = 4

/-- R145, R150, R156 and the layout tables of chapter 12: the words of every record, field by field, with 0 in the bits that no
field occupies, and the empty markers of the records whose owner holds nothing there. -/
def Obligations.RecordWordsFollowTheLayouts : Prop :=
  CommonCodes ∧ RecordPlaces ∧
  ∀ s : State,
    let gen (r : RecordId) : Nat × Nat × Nat := (0, 16, (s.mirror.generations.count r).toNat)
    WordsHold (s.recordWords .header)
      [[gen .header, (16, 1, bit (decide (s.clock.plan = .autonomous))), (17, 1, bit s.clock.valid), (18, 1, bit s.meter.overload),
          (19, 1, bit (decide (s.meter.curtail ≠ .inactive))), (20, 1, bit s.allocator.standDown), (21, 1, bit s.mirror.overflow),
          (22, 1, bit (decide (s.config.source = .defaults)))],
        [(0, 32, s.clock.depotSeconds.toNat)], [(0, 32, s.clock.interval.toNat)],
        [(0, 16, s.allocator.lastB), (16, 16, s.allocator.skipCount)],
        [(0, 6, s.mirror.producer.val), (8, 6, s.mirror.consumer.val), (16, 16, s.mirror.guardCount)],
        [(0, 1, bit (decide (s.mirror.logArea = .areaB))), (8, 7, s.mirror.logIndex.val), (16, 8, s.rosterCount),
          (24, 8, s.book.length)],
        [], [], [], [], [], [], [], [], [], []] ∧
    (∀ n,
      let r := (s.slot n).result
      WordsHold (s.recordWords (.slot n))
        [[(0, 16, r.tag.toNat), (16, 8, r.code.code), (24, 8, r.detail.toNat / 2 ^ 32)], [(0, 32, r.detail.toNat)]]) ∧
    (∀ b,
      let r := s.bay b
      WordsHold (s.recordWords (.bay b))
        [[gen (.bay b), (16, 4, r.state.code), (20, 3, modeCode r.agreedMode), (23, 1, bit r.boundTag.isSome),
            (24, 4, r.permitted.toNat), (28, 1, bit r.unknown), (29, 1, bit r.toggle), (30, 1, bit r.armed)],
          [(0, 32, (r.boundTag.getD 0).toNat)],
          [(0, 16, (r.boundTag.getD 0).toNat / 2 ^ 32), (16, 8, r.cap), (24, 8, r.confirmed)],
          [(0, 8, r.unresolved), (8, 8, r.k), (16, 8, r.postCeiling), (24, 4, r.failureCount), (28, 4, r.lastFailure.code)],
          [(0, 16, r.measuredPower), (16, 16, r.lastEnergy)], [(0, 32, r.lastGoodTime.toNat)],
          [(0, 32, r.lastGoodInterval.toNat)], [(0, 16, r.missedSlots)]]) ∧
    (∀ i, s.roster.entries.get i = none →
      WordsHold (s.recordWords (.roster i)) [[gen (.roster i)], [], [], [], [], [], [], []]) ∧
    (∀ i e, s.roster.entries.get i = some e →
      WordsHold (s.recordWords (.roster i))
        [[gen (.roster i), (16, 2, if e.bay = none then 1 else 2), (18, 6, ((e.bay.map Fin.val).getD 0))],
          [(0, 32, e.tag.toNat)], [(0, 16, e.tag.toNat / 2 ^ 32), (16, 16, e.lastEnergy)], [(0, 32, e.plugIn.toNat)],
          [(0, 32, e.lastSeen.toNat)], [], [], []]) ∧
    (∀ i, (∀ k ∈ s.book, k.index ≠ i) →
      WordsHold (s.recordWords (.booking i)) [[gen (.booking i)], [], [], [], [], [], [], []]) ∧
    (∀ before k after, s.book = before ++ k :: after → (∀ j ∈ before, j.index ≠ k.index) →
      WordsHold (s.recordWords (.booking k.index))
        [[gen (.booking k.index), (16, 3, k.state.code), (19, 1, bit (decide (k.origin = .byDefault))),
            (20, 1, bit k.precondition.isSome), (24, 8, before.length + 1)],
          [(0, 32, k.tag.toNat)], [(0, 16, k.tag.toNat / 2 ^ 32), (16, 16, k.target)], [(0, 32, k.departure.toNat)],
          [(0, 24, k.delivered), (24, 8, (k.precondition.map Precondition.power).getD 0)],
          [(0, 8, (k.precondition.map Precondition.leadMinutes).getD 0)], [], []]) ∧
    (∀ i, s.mirror.alerts.get i = none → WordsHold (s.recordWords (.alert i)) [[], [], [], []]) ∧
    (∀ i a, s.mirror.alerts.get i = some a →
      ∃ detail : BitVec 80, HoldsFields detail (alertTable a.kind).2 ∧
        let upper := match a.tag with | some tag => tag.toNat | none => detail.toNat / 2 ^ 32
        WordsHold (s.recordWords (.alert i))
          [[(0, 8, (alertTable a.kind).1), (8, 6, (a.bay.map Fin.val).getD 0), (14, 1, bit a.bay.isNone),
              (15, 1, bit a.tag.isNone), (16, 16, upper / 2 ^ 32)],
            [(0, 32, upper)], [(0, 32, a.time.toNat)], [(0, 32, detail.toNat)]]) ∧
    (∀ area i, s.mirror.logEntry area i = none →
      WordsHold (s.recordWords (.log area i)) [[(31, 1, 1)], [], [], []]) ∧
    ∀ area i e, s.mirror.logEntry area i = some e →
      WordsHold (s.recordWords (.log area i))
        [[(0, 16, e.interval.toNat), (16, 14, min 16383 e.delivered), (30, 1, bit e.skip.isSome),
            (31, 1, bit (decide (e.skip = some .passInFlight)))],
          [(0, 32, e.depotSeconds.toNat)], [(0, 16, e.budget), (16, 16, min 65535 e.siteLoad)],
          [(0, 14, e.sumG), (14, 14, e.sumK), (28, 1, bit e.overload), (29, 1, bit e.curtail), (30, 1, bit e.autonomous),
            (31, 1, bit e.standDown)]]

/-! ### Feeder Meter -/

/-- R91: the feeder power of a set. -/
def feederPowerOf (p : Params) (o : Offsets) (l1 l2 l3 : Code) : Nat :=
  p.phaseVoltage * ((l1.toNat - o.l1) + (l2.toNat - o.l2) + (l3.toNat - o.l3)) * p.currentScale / 100000

/-- R86: no channel is saturated. -/
def InRange (l1 l2 l3 : Code) : Prop :=
  l1.toNat ≠ 0 ∧ l1.toNat ≠ 4095 ∧ l2.toNat ≠ 0 ∧ l2.toNat ≠ 4095 ∧ l3.toNat ≠ 0 ∧ l3.toNat ≠ 4095

/-- R86, R87, R91 to R93, R102, R103: a valid set becomes the latest valid sample with the P_feed of R91 and the interval number
noted for it, and an IDLE Allocator begins a pass on it with the snapshot of the live state, the site-load estimate and the
budget of R93. -/
def Obligations.ValidSampleIsTaken : Prop :=
  ∀ s i o l1 l2 l3, s.meter.conversion = .converting i false → s.meter.offsets = some o → InRange l1 l2 l3 →
    let p := feederPowerOf s.config.loaded o l1 l2 l3
    ∃ t, exec (.sampleCompletion l1 l2 l3) s = .next t ∧ t.meter.conversion = .idle ∧
      t.meter.latest = some { pFeed := p, interval := i } ∧
      t.meter.offsets = s.meter.offsets ∧ t.meter.limits = s.meter.limits ∧ t.meter.curtail = s.meter.curtail ∧
      t.memory = s.memory ∧ t.path = s.path ∧ t.intake = s.intake ∧ t.clock = s.clock ∧ t.book = s.book ∧
      t.roster = s.roster ∧
      (s.allocator.pass = none →
        t = { s with meter := t.meter, allocator := t.allocator, mirror := t.mirror } ∧
        ∃ sn, SnapshotOf t p sn ∧ t.allocator = { s.allocator with pass := some sn })

/-- R94: the overload judgement of a valid sample, by the feeder limit and the release threshold. That the band is what is rounded
down is the model's choice (log entry 33). -/
def Obligations.OverloadIsJudged : Prop :=
  ∀ s i o l1 l2 l3, s.meter.conversion = .converting i false → s.meter.offsets = some o → InRange l1 l2 l3 →
    let p := feederPowerOf s.config.loaded o l1 l2 l3
    let limit := s.meter.limits.feederLimit
    let threshold := limit - limit * s.config.loaded.releaseBand / 100
    ∃ t, exec (.sampleCompletion l1 l2 l3) s = .next t ∧
      (s.meter.overload = false → limit < p →
        t.meter.overload = true ∧ t.meter.releaseRun = 0 ∧ t.mirror.dirty.has .header = true ∧
        (s.allocator.pass = none → Raises s.mirror t.mirror (plainAlert s (.overloadOn p limit)))) ∧
      (s.meter.overload = false → p ≤ limit →
        t.meter.overload = false ∧ t.meter.releaseRun = s.meter.releaseRun ∧
        (s.allocator.pass = none → t.mirror = s.mirror)) ∧
      (s.meter.overload = true → threshold < p →
        t.meter.overload = true ∧ t.meter.releaseRun = 0 ∧ (s.allocator.pass = none → t.mirror = s.mirror)) ∧
      (s.meter.overload = true → p ≤ threshold → s.meter.releaseRun < 2 →
        t.meter.overload = true ∧ t.meter.releaseRun = s.meter.releaseRun + 1 ∧
        (s.allocator.pass = none → t.mirror = s.mirror)) ∧
      (s.meter.overload = true → p ≤ threshold → s.meter.releaseRun = 2 →
        t.meter.overload = false ∧ t.meter.releaseRun = 0 ∧ t.mirror.dirty.has .header = true ∧
        (s.allocator.pass = none → Raises s.mirror t.mirror (plainAlert s (.overloadOff p threshold))))

/-- The alerts that the overload judgement of a valid sample raises (R94; the rounding of the threshold is log entry 33). -/
def overloadAlerts (s : State) (p : Nat) : List Alert :=
  let limit := s.meter.limits.feederLimit
  let threshold := limit - limit * s.config.loaded.releaseBand / 100
  if s.meter.overload = false ∧ limit < p then [plainAlert s (.overloadOn p limit)]
  else if s.meter.overload = true ∧ p ≤ threshold ∧ 2 ≤ s.meter.releaseRun then [plainAlert s (.overloadOff p threshold)]
  else []

/-- R89, R142: CALIBRATE begins a calibration and leaves its slot IN HAND without a result; while one is in flight it is answered
BUSY. R88: calibration completion replaces all three offsets with CAL DONE when every channel's average lies in 1,984 to 2,112,
and none otherwise, with CAL FAIL carrying the failed channels' averages, whoever asked for it; a requested one answers its slot
DONE with the offsets or CAL_FAILED with the failed channels, and one of start-up answers none. It ends the third step of
start-up (R155). -/
def Obligations.CalibrationBeginsAndCompletes : Prop :=
  (∀ s n req rest, Requested s n req rest → req.code = 0x13 →
    ∃ t, exec .calibrate s = .next t ∧
      (s.meter.calibration = .idle →
        t.meter = { s.meter with calibration := .inFlight (.request n) } ∧
        t.slot n = { s.slot n with busy := some (.inHand, req) } ∧ (∀ m, m ≠ n → t.slot m = s.slot m) ∧
        t.intake = { s.intake with queue := rest, slots := t.intake.slots } ∧
        t = { s with meter := t.meter, intake := t.intake }) ∧
      (s.meter.calibration ≠ .idle →
        Answered s t n req rest .busy 0 ∧ t = { s with intake := t.intake, mirror := t.mirror, path := t.path })) ∧
  ∀ s origin l1 l2 l3, s.meter.calibration = .inFlight origin → s.meter.conversion = .idle →
    let average (codes : Vector Code 16) : Nat := ((codes.toList.map BitVec.toNat).sum + 8) / 16
    let fails (codes : Vector Code 16) : Prop := average codes < 1984 ∨ 2112 < average codes
    let passed : Prop := ¬fails l1 ∧ ¬fails l2 ∧ ¬fails l3
    let o : Offsets := { l1 := average l1, l2 := average l2, l3 := average l3 }
    let failed (codes : Vector Code 16) : Option Nat := if fails codes then some (average codes) else none
    ∃ t, exec (.calibrationCompletion l1 l2 l3) s = .next t ∧
      t = { s with meter := t.meter, mirror := t.mirror, path := t.path, intake := t.intake, config := t.config } ∧
      t.config = { s.config with step := if s.config.step = .calibrating then .ending else s.config.step } ∧
      t.meter = { s.meter with calibration := .idle, offsets := if passed then some o else s.meter.offsets } ∧
      RaisesAll s.mirror t.mirror
        [plainAlert s (if passed then .calDone o else .calFail (failed l1) (failed l2) (failed l3))] ∧
      (origin = .startUp → t.intake = s.intake ∧ t.path = s.path ∧ OnlyRing s.mirror t.mirror) ∧
      ∀ n phase req, origin = .request n → (s.slot n).busy = some (phase, req) →
        t.slot n =
          { s.slot n with
            busy := some (.answered, req)
            result :=
              { tag := req.tag
                code := if passed then .done else .calFailed
                detail :=
                  if passed then BitVec.ofNat 40 (o.l1 + 4096 * o.l2 + 16777216 * o.l3)
                  else
                    BitVec.ofNat 40
                      ((if fails l1 then 1 else 0) + (if fails l2 then 2 else 0) + if fails l3 then 4 else 0) } } ∧
        (∀ m, m ≠ n → t.slot m = s.slot m) ∧ t.intake = { s.intake with slots := t.intake.slots } ∧
        t.mirror.dirty.has (.slot n) = true ∧ t.mirror.backlog = s.mirror.backlog.map (fun w => w.outdate n) ∧
        t.path = { s.path with port := s.path.port.outdate n }

/-- R97: SET LIMITS is checked in order, and replaces the three active limits and nothing else of the Meter. -/
def Obligations.SetLimitsIsChecked : Prop :=
  ∀ s n req rest, Requested s n req rest → req.code = 0x12 →
    let w0 := (req.words.get 0).toNat
    let w1 := (req.words.get 1).toNat
    let w2 := (req.words.get 2).toNat
    ∃ t, exec .setLimits s = .next t ∧
      t = { s with meter := t.meter, intake := t.intake, mirror := t.mirror, path := t.path } ∧
      if w0 < 100 ∨ 65535 < w0 then Answered s t n req rest .badField 1 ∧ t.meter = s.meter
      else if 10000 < w1 then Answered s t n req rest .badField 2 ∧ t.meter = s.meter
      else if 65535 < w2 then Answered s t n req rest .badField 3 ∧ t.meter = s.meter
      else
        Answered s t n req rest .done 0 ∧
        t.meter = { s.meter with limits := { feederLimit := w0, margin := w1, curtailCeiling := w2 } }

/-- R95, R96: the filter and the table of the edges; during start-up a filtered change is no edge (R155). At each tick a
Meter in TAIL gathers the interval length, and the tail that reaches the curtail tail ends; the CURTAIL OFF of that tick is that of
TickRaisesItsAlerts. The command CURTAIL_TAIL_END ends a tail that stands at its length, which no tick leaves so (the model's
reading, log entry 8). -/
def Obligations.CurtailFollowsItsInput : Prop :=
  (∀ s, exec .curtailInputChange s =
    .next { s with meter := { s.meter with changePending := !s.meter.changePending } }) ∧
  (∀ s, s.meter.changePending = true → s.meter.filteredLevel = .released →
    let m := { s.meter with filteredLevel := .asserted, changePending := false }
    ∃ t, exec .curtailAssertionEdge s = .next t ∧ t = { s with meter := t.meter, mirror := t.mirror } ∧
      (s.config.step ≠ .inService → t.meter = m ∧ t.mirror = s.mirror) ∧
      (s.config.step = .inService → s.meter.curtail = .inactive →
        t.meter = { m with curtail := .asserted } ∧ t.mirror.dirty.has .header = true ∧
        Raises s.mirror t.mirror (plainAlert s (.curtailOn s.meter.limits.curtailCeiling))) ∧
      (s.config.step = .inService → s.meter.curtail = .tail →
        t.meter = { m with curtail := .asserted, tailElapsed := 0 } ∧ t.mirror.dirty.has .header = true ∧
        OnlyDirty s.mirror t.mirror)) ∧
  (∀ s, s.meter.changePending = true → s.meter.filteredLevel = .asserted →
    let m := { s.meter with filteredLevel := .released, changePending := false }
    ∃ t, exec .curtailReleaseEdge s = .next t ∧ t = { s with meter := t.meter, mirror := t.mirror } ∧
      (s.config.step ≠ .inService → t.meter = m ∧ t.mirror = s.mirror) ∧
      (s.config.step = .inService → s.meter.curtail = .asserted → s.config.loaded.curtailTailMinutes = 0 →
        t.meter = { m with curtail := .inactive, tailElapsed := 0 } ∧ t.mirror.dirty.has .header = true ∧
        Raises s.mirror t.mirror (plainAlert s .curtailOff)) ∧
      (s.config.step = .inService → s.meter.curtail = .asserted → s.config.loaded.curtailTailMinutes ≠ 0 →
        t.meter = { m with curtail := .tail, tailElapsed := 0 } ∧ t.mirror.dirty.has .header = true ∧
        OnlyDirty s.mirror t.mirror)) ∧
  (∀ s, s.clock.timerRunning = true →
    ∃ t, exec .tick s = .next t ∧
      (s.meter.curtail ≠ .tail → t.meter.curtail = s.meter.curtail ∧ t.meter.tailElapsed = s.meter.tailElapsed) ∧
      (s.meter.curtail = .tail →
        if 60 * s.config.loaded.curtailTailMinutes ≤ s.meter.tailElapsed + s.config.loaded.intervalLength then
          t.meter.curtail = .inactive ∧ t.meter.tailElapsed = 0
        else
          t.meter.curtail = .tail ∧ t.meter.tailElapsed = s.meter.tailElapsed + s.config.loaded.intervalLength)) ∧
  ∀ s, s.meter.curtail = .tail → 60 * s.config.loaded.curtailTailMinutes ≤ s.meter.tailElapsed →
    ∃ t, exec .curtailTailEnd s = .next t ∧ t = { s with meter := t.meter, mirror := t.mirror } ∧
      t.meter = { s.meter with curtail := .inactive, tailElapsed := 0 } ∧ t.mirror.dirty.has .header = true ∧
      Raises s.mirror t.mirror (plainAlert s .curtailOff)

/-! ### Allocator -/

/-- The booking that a snapshot's book holds for the tag bound to a bay. -/
def bookingAt (sn : Snapshot) (b : BayNo) : Option BookingSnap :=
  (sn.bays.get b).boundTag.bind fun tag => sn.bookings.find? fun k => k.tag == tag

/-- The rank, counted from 0, of the booking of the tag bound to a bay. -/
def rankAt (sn : Snapshot) (b : BayNo) : Option Nat :=
  (sn.bays.get b).boundTag.bind fun tag => sn.bookings.findIdx? fun k => k.tag == tag

/-- The plug-in time of a bay's van, as the snapshot holds it. -/
def plugInAt (sn : Snapshot) (b : BayNo) : Nat := ((sn.bays.get b).plugIn.getD 0).toNat

/-- Candidate `a` is visited before candidate `b`: the booked first, by rank; then the unbooked, by plug-in time and then by bay
number (R104). -/
def Ahead (sn : Snapshot) (a b : BayNo) : Prop :=
  match rankAt sn a, rankAt sn b with
  | some i, some j => i < j ∨ (i = j ∧ a < b)
  | some _, none => True
  | none, some _ => False
  | none, none => plugInAt sn a < plugInAt sn b ∨ (plugInAt sn a = plugInAt sn b ∧ a < b)

/-- The candidates of a snapshot in their order: the PLUGGED bays (R104). -/
def CandidateOrder (sn : Snapshot) (order : List BayNo) : Prop :=
  order.Nodup ∧ order.Pairwise (Ahead sn) ∧
  ∀ b, b ∈ order ↔
    (sn.bays.get b).state = .plugged ∧ (sn.bays.get b).boundTag ≠ none ∧ (sn.bays.get b).agreedMode ≠ none

/-- A figure summed over a run of candidates. -/
def sumOver (f : BayNo → Nat) (bays : List BayNo) : Nat := (bays.map f).sum

/-- R105: the precondition part of a candidate with a ceiling, from what remains. A SHORT booking that meets the conditions is served
(the model's choice, log entry 34). -/
def preconditionPart (sn : Snapshot) (booking : Option BookingSnap) (ceiling left : Nat) : Nat :=
  match booking with
  | none => 0
  | some k =>
    match k.precondition with
    | none => 0
    | some p =>
      if k.departure.toNat ≤ sn.depotTime.toNat + 60 * p.leadMinutes ∧ sn.depotTime.toNat < k.departure.toNat ∧
          min p.power ceiling ≤ left then
        min p.power ceiling
      else 0

/-- R106: the grant by need of a booked candidate that is not READY: the power that reaches the target by departure, within the room
it has, and no less than the minimum run. -/
def needPart (sn : Snapshot) (booking : Option BookingSnap) (energy minimumRun room : Nat) : Nat :=
  match booking with
  | none => 0
  | some k =>
    let time := max (k.departure.toNat - sn.depotTime.toNat) sn.intervalLength
    let power := ((k.target - energy) * 360 + (time - 1)) / time
    if k.state = .ready ∨ power = 0 then 0
    else if minimumRun ≤ min power room then min power room
    else if minimumRun ≤ room then minimumRun
    else 0

/-- R107: the top-up of a candidate that is not READY, nothing when it would be the first charging grant and below the minimum run. -/
def topUpPart (booking : Option BookingSnap) (need minimumRun room : Nat) : Nat :=
  if (∃ k, booking = some k ∧ k.state = .ready) ∨ (need = 0 ∧ room < minimumRun) then 0 else room

/-- R104 to R109: a pass visits its candidates in order, through the three stages and the commit walk, and writes an entry for each
and a blank one for every other bay. `pre`, `need` and `top` are the grants of the stages, `given` the value of the entry. -/
def Obligations.PassFollowsTheStages : Prop :=
  ∀ sn : Snapshot, (sn.bookings.map BookingSnap.tag).Nodup →
    ∃ (order : List BayNo) (pre need top given : BayNo → Nat), CandidateOrder sn order ∧
      (∀ b, b ∉ order → sn.plane.get b = { value := 0, tag := none, mode := none, preconditionOn := false }) ∧
      ∀ before b after m, order = before ++ b :: after → (sn.bays.get b).agreedMode = some m →
        let r := sn.bays.get b
        let ceiling := min r.cap (min (sn.modeEntry m).maximum r.postCeiling)
        let least := (sn.modeEntry m).minimumRun
        let left0 := sn.budget - sumOver pre before
        let left1 := sn.budget - sumOver pre order - sumOver need before
        let left2 := sn.budget - sumOver pre order - sumOver need order - sumOver top before
        let desired := pre b + need b + top b
        let committed : Nat := sumBays fun c => if (sn.bays.get c).state = .disabled then 0 else (sn.bays.get c).k
        let available : Int :=
          (sn.budget : Int) - (committed : Int) - (sumOver (fun c => given c - (sn.bays.get c).k) before : Int)
        let raised := if desired ≤ r.k then desired else r.k + min (desired - r.k) available.toNat
        let held := min (pre b) raised
        pre b = preconditionPart sn (bookingAt sn b) ceiling left0 ∧
        need b = needPart sn (bookingAt sn b) r.lastEnergy least (min (ceiling - pre b) left1) ∧
        top b = topUpPart (bookingAt sn b) (need b) least (min (ceiling - (pre b + need b)) left2) ∧
        given b = (if held < raised ∧ raised - held < least then held else raised) ∧
        sn.plane.get b =
          { value := given b, tag := r.boundTag, mode := some m, preconditionOn := decide (0 < min (pre b) (given b)) }

/-- R110, R111: publication: the late-corrected plane becomes the front plane, the skips and stand-down end, the bays that an
exchange in flight keeps from a new frame are armed, and the log record stands at the log position. -/
def Obligations.PublicationPublishesThePass : Prop :=
  ∀ s sn, s.allocator.pass = some sn →
    ∃ t, exec .publication s = .next t ∧
      (∀ b, t.allocator.front.get b =
        let e := sn.plane.get b
        if e = { value := 0, tag := none, mode := none, preconditionOn := false } then e
        else if (s.bay b).state = .plugged ∧ (s.bay b).boundTag = e.tag ∧ (s.bay b).agreedMode = e.mode then e
        else { e with value := 0, preconditionOn := false }) ∧
      t.allocator =
        { front := t.allocator.front, back := s.allocator.front, pass := none, skipCount := 0, standDown := false,
          deliveredTotal := 0, lastB := sn.budget } ∧
      (∀ l d, (s.lane l).exchange.isSome = true → (s.bay (bayAt l d)).state ≠ .disabled →
        (t.bay (bayAt l d)).armed = true) ∧
      Logged s.mirror t.mirror s.config.loaded.logLength
        { interval := s.clock.interval, depotSeconds := s.clock.depotSeconds, budget := sn.budget
          sumG := sumBays fun b => (t.allocator.front.get b).value
          sumK := sumBays fun b => if (sn.bays.get b).state = .disabled then 0 else (sn.bays.get b).k
          siteLoad := sn.siteLoad, delivered := s.allocator.deliveredTotal, skip := none, overload := sn.overload
          curtail := decide (sn.curtail ≠ .inactive), autonomous := decide (s.clock.plan = .autonomous)
          standDown := false } ∧
      t.mirror.dirty.has .header = true ∧ t.memory = s.memory ∧ t.book = s.book ∧ t.roster = s.roster ∧
      t.meter = s.meter ∧ t.clock = s.clock ∧ t.path = s.path ∧ t.intake = s.intake ∧ t.config = s.config

/-- R58, R69 to R71, R110: a publication arms every bay in service, ends stand-down with STAND-DOWN OFF, and starts a round on every
lane in service, which sends from the new front plane; its alerts, in that order, with LOG HALF last. That a DOZE which a round
starts with keeps the empty-round count is the model's reading (log entry 15). -/
def Obligations.PublicationStartsTheRounds : Prop :=
  ∀ s sn, s.allocator.pass = some sn →
    ∃ t, exec .publication s = .next t ∧
      let w : State :=
        { s with
          bays := Vector.ofFn fun b =>
            if (s.bay b).state = .disabled then s.bay b else { s.bay b with armed := true }
          allocator := { s.allocator with front := t.allocator.front, skipCount := 0, standDown := false } }
      t = { s with bays := t.bays, lanes := t.lanes, allocator := t.allocator, mirror := t.mirror } ∧ RoundsStarted w t ∧
      RaisesAll s.mirror t.mirror
        ((if s.allocator.standDown = true then [plainAlert s (.standDownOff s.allocator.skipCount)] else []) ++
          roundStartAlerts w ++ logHalfAlerts s) ∧
      t.mirror.backlog = s.mirror.backlog ∧ t.mirror.generations = s.mirror.generations ∧
      t.mirror.guardCount = s.mirror.guardCount

/-- The bound of R110: over the in-service bays of the pass, the larger of the published value and the committed setpoint at
the start of the pass sum to no more than the larger of the budget and the committed setpoints' sum. -/
def Obligations.PublishedPlaneIsBounded : Prop :=
  ∀ s sn, s.allocator.pass = some sn →
    ∃ t, exec .publication s = .next t ∧
      (sumBays fun b =>
        if (sn.bays.get b).state = .disabled then 0 else max (t.allocator.front.get b).value (sn.bays.get b).k) ≤
      max sn.budget (sumBays fun b => if (sn.bays.get b).state = .disabled then 0 else (sn.bays.get b).k)

/-- R86, R87, R102, R112, R113: a set that is not valid is STALE while the latest valid sample is usable, and a pass begins on that
sample when none runs; it is skipped otherwise. A VALID set with a pass in flight is taken by the Meter and then skipped with
reason PASS IN FLIGHT. The rounds of a skip keep the empty-round count of a bay they doze (the model's reading, log entry 15). -/
def Obligations.UnusableSampleSkipsTheInterval : Prop :=
  ∀ s i l1 l2 l3, s.meter.conversion = .converting i false →
    ((s.meter.offsets = none ∨ ¬InRange l1 l2 l3) →
      ∃ t, exec (.sampleCompletion l1 l2 l3) s = .next t ∧
        WithoutValidSet { s with meter := { s.meter with conversion := .idle } } t) ∧
    ∀ o, s.meter.offsets = some o → InRange l1 l2 l3 → s.allocator.pass ≠ none →
      ∃ t u, exec (.sampleCompletion l1 l2 l3) s = .next t ∧
        u = { s with meter := t.meter, mirror := u.mirror } ∧ OnlyRing s.mirror u.mirror ∧
        RaisesAll s.mirror u.mirror (overloadAlerts s (feederPowerOf s.config.loaded o l1 l2 l3)) ∧
        Skipped u t .passInFlight

/-! ### Lane Engines -/

/-- R74, R75: at frame sent a SENDING lane listens with an empty receiver; each character that follows is collected by the
rules of R75. That a trailing octet's missing stop element is not noted is the model's choice (log entry 14), as is that a lane in
another phase takes neither command (log entry 5), and that the status is judged with the third octet in (log entry 32). -/
def Obligations.LaneSendsAndListens : Prop :=
  (∀ s l, (s.lane l).phase = .sending →
    exec (.frameSent l) s =
      .next (s.setLane l
        { s.lane l with
          phase := .listening, onPair := []
          receiver := some { octets := [], stopMissing := false, impliedLength := none, trailing := false } })) ∧
  (∀ s l, (s.lane l).phase ≠ .sending → exec (.frameSent l) s = .next s) ∧
  (∀ s l octet stop r, (s.lane l).phase = .listening → (s.lane l).receiver = some r →
    ∃ q, exec (.characterArrival l octet stop) s = .next (s.setLane l { s.lane l with receiver := some q }) ∧
      (3 ≤ r.octets.length → r.impliedLength = none → q = r) ∧
      (r.trailing = true → q = r) ∧
      (∀ k, r.impliedLength = some k → k ≤ r.octets.length → 3 ≤ r.octets.length → r.trailing = false →
        q = { r with trailing := true }) ∧
      (∀ k, r.impliedLength = some k → r.octets.length < k → 3 ≤ r.octets.length → r.trailing = false →
        q = { r with octets := r.octets ++ [octet], stopMissing := r.stopMissing || !stop }) ∧
      (r.octets.length < 3 → r.impliedLength = none → r.trailing = false →
        q.octets = r.octets ++ [octet] ∧ q.stopMissing = (r.stopMissing || !stop) ∧ q.trailing = false ∧
        (r.octets.length < 2 → q.impliedLength = none) ∧
        (∀ first second, r.octets = [first, second] →
          q.impliedLength =
            if second.extractLsb' 4 2 = 0 then none
            else if octet.getLsbD 1 = true then (if octet.getLsbD 2 = true then some 22 else some 21)
            else if octet.getLsbD 2 = true then none
            else some 13))) ∧
  ∀ s l octet stop, (s.lane l).phase ≠ .listening → exec (.characterArrival l octet stop) s = .next s

/-- The outcome of an exchange as it is handed on: thrown away under discard, which clears; a good report or a failure to the
bay of the drop otherwise (R76, R78, R79, R83). -/
def handedOn (s : State) (l : LaneNo) (x : Exchange) (r : Receiver) : State :=
  if (s.lane l).discard = true then s.setLane l { s.lane l with discard := false }
  else
    match judgeExchange x r with
    | .good report => s.goodReport (bayAt l x.drop) x report
    | .failed kind => s.failedExchange (bayAt l x.drop) kind

/-- R58, R70, R71, R76: report complete and window expiry end the exchange: the outcome is handed on, the exchange and receiver
records go, and the lane takes a pending round start, with the overrun of a running round, or sends to the next due drop after its
position, or finishes its round, or rests when its round had been ended. That forming a DOZE keeps the empty-round count, and that
the next frame is formed in the event that ends the exchange whatever round start is about to come, are the model's readings (log
entries 15 and 38). -/
def Obligations.ExchangeEnds : Prop :=
  ∀ s l x r c, (s.lane l).phase = .listening → (s.lane l).exchange = some x → (s.lane l).receiver = some r →
    (c = .responseWindowExpiry l ∨
      (c = .reportComplete l ∧ r.trailing = false ∧ ∃ k, r.impliedLength = some k ∧ k ≤ r.octets.length)) →
    let h := handedOn s l x r
    let rested := h.setLane l { h.lane l with phase := .idle, exchange := none, receiver := none }
    ∃ t, exec c s = .next t ∧
      ((s.lane l).pendingStart = false → (s.lane l).roundRunning = false → t = rested) ∧
      ((s.lane l).pendingStart = false → (s.lane l).roundRunning = true →
        (∀ d, rested.due l d = true → (s.lane l).position < d →
          (∀ e, (s.lane l).position < e → e < d → rested.due l e = false) →
          let f := rested.frameFor l d
          let bay := rested.bay (bayAt l d)
          t.lane l =
            { rested.lane l with phase := .sending, position := d, exchange := some f.exchange, onPair := f.octets } ∧
          (∀ k, k ≠ l → t.lane k = rested.lane k) ∧
          t.bay (bayAt l d) =
            { bay with
              armed := false
              state := if f.exchange.kind = .doze then .dozing else bay.state
              unresolved :=
                if f.exchange.kind = .setpoint ∨ f.exchange.kind = .stop then max bay.unresolved f.exchange.value
                else bay.unresolved } ∧
          (∀ c, c ≠ bayAt l d → t.bay c = rested.bay c) ∧
          t = { rested with bays := t.bays, lanes := t.lanes, mirror := t.mirror } ∧ OnlyDirty rested.mirror t.mirror) ∧
        ((∀ d, (s.lane l).position < d → rested.due l d = false) →
          t = rested.setLane l { rested.lane l with roundRunning := false })) ∧
      ((s.lane l).pendingStart = true →
        let r0 := rested.setLane l { rested.lane l with pendingStart := false }
        let running : Prop := (s.lane l).roundRunning = true
        RoundBegun (if running then overrunTaken r0 l else r0) t l ∧ (t.lane l).roundInterval = s.clock.interval ∧
        (∀ k, k ≠ l → t.lane k = rested.lane k ∧ ∀ d, t.bay (bayAt k d) = rested.bay (bayAt k d)) ∧
        (∀ d,
          (t.bay (bayAt l d)).missedSlots =
            if running ∧ (s.lane l).position < d ∧ rested.due l d = true then
              min 65535 ((rested.bay (bayAt l d)).missedSlots + 1)
            else (rested.bay (bayAt l d)).missedSlots) ∧
        t = { rested with bays := t.bays, lanes := t.lanes, mirror := t.mirror } ∧ OnlyRing rested.mirror t.mirror ∧
        RaisesAll rested.mirror t.mirror (if running then overrunAlerts r0 l else []))

/-- R77: the seven checks in their order, and the fields of a good report by R78 and the REPORT table, with both setpoints taken as
220 when above it. That a bad status is judged with the third octet in, so that two octets give TIMEOUT, is the model's reading (log
entry 32). -/
def Obligations.ExchangeIsJudgedInOrder : Prop :=
  ∀ x r,
    let o := r.octets
    let flag (i : Nat) : Bool := (o.getD 2 0).getLsbD i
    let status := valueAt o 1 1 / 16 % 4
    judgeExchange x r =
      if r.stopMissing = true ∨ (o ≠ [] ∧ o.getD 0 0 ≠ 0x3C) then .failed .framing
      else if 3 ≤ o.length ∧ r.impliedLength = none then .failed .flags
      else
        match r.impliedLength with
        | none => .failed .timeout
        | some k =>
          if o.length < k then .failed .timeout
          else if r.trailing = true then .failed .overrun
          else if crcOctets (crc16 (o.take (o.length - 2))) ≠ o.drop (o.length - 2) then .failed .crc
          else if valueAt o 1 1 % 8 ≠ x.drop.val then .failed .dropEcho
          else if status = 0 then .failed .flags
          else if status = 1 ∧ (x.kind = .setpoint ∨ x.kind = .stop) ∧ flag 0 ≠ x.toggle then .failed .downlink
          else
            .good
              { status := if status = 1 then .accept else if status = 2 then .busy else .refuse
                toggleEcho := flag 0
                plug := if flag 1 = true then some (BitVec.ofNat 48 (valueAt o 11 6), valueAt o 17 2) else none
                postSet := BitVec.ofNat 4 (valueAt o 3 1)
                vanSet := if flag 2 = true then some (BitVec.ofNat 4 (valueAt o 19 1)) else none
                applied := min 220 (valueAt o 4 1)
                postCeiling := min 220 (valueAt o 5 1)
                measuredPower := valueAt o 6 2
                meter := valueAt o 8 3 }

/-- R72's table: the frame of a bay by its state and its armed flag, stand-down apart. A DISABLED bay is visited by no lane (R70), and
no statement rests on what stands here for it. -/
def frameTable (p : Params) (bay : BayRecord) : FrameKind :=
  match bay.state with
  | .plugged | .incompatible | .unlisted => if bay.armed = true then .setpoint else .hold
  | .faulted | .closing => .stop
  | .empty => if bay.emptyRounds = p.dozeDelay ∧ p.dozeDelay ≠ 0 then .doze else .poll
  | .agreeing | .lost | .dozing | .disabled => .poll

/-- R72, R73, R113: the frame formed for a drop: its kind by R72's table, with STOP for SETPOINT and HOLD while stand-down is on; its
fields; and its octets (R74, Bayline frames). A SETPOINT carries a nonzero value to a PLUGGED bay alone, and none exceeds the bay's
live cap or its agreed mode's maximum. -/
def Obligations.FrameFollowsTheTable : Prop :=
  ∀ (s : State) (l : LaneNo) (d : Drop),
    let f := s.frameFor l d
    let x := f.exchange
    let bay := s.bay (bayAt l d)
    let entry := s.allocator.front.get (bayAt l d)
    let table := frameTable s.config.loaded bay
    let live : Prop := entry.tag = bay.boundTag ∧ entry.mode = bay.agreedMode
    let carries : Prop := x.kind = .setpoint ∨ x.kind = .stop
    x.drop = d ∧ x.toggle = bay.toggle ∧
    (bay.state ≠ .disabled →
      x.kind = if s.allocator.standDown = true ∧ (table = .setpoint ∨ table = .hold) then .stop else table) ∧
    x.capabilityRequest = decide (bay.state = .agreeing) ∧
    (x.kind = .setpoint → bay.state = .plugged → ∀ m, bay.agreedMode = some m →
      x.value = (if live then min entry.value (min bay.cap (s.config.loaded.modeEntry m).maximum) else 0) ∧
      f.preconditionOn = decide (live ∧ entry.preconditionOn = true) ∧ f.mode = some m) ∧
    (x.kind ≠ .setpoint ∨ bay.state ≠ .plugged → x.value = 0 ∧ f.preconditionOn = false ∧ f.mode = none) ∧
    (x.kind = .setpoint → x.value ≠ 0 →
      bay.state = .plugged ∧ x.value ≤ bay.cap ∧
      ∃ m, bay.agreedMode = some m ∧ x.value ≤ (s.config.loaded.modeEntry m).maximum) ∧
    (s.allocator.standDown = true → x.kind ≠ .setpoint ∧ x.kind ≠ .hold) ∧
    ∃ second third : Byte,
      HoldsFields second
        [(0, 3, d.val),
          (4, 3, match x.kind with | .setpoint => 1 | .stop => 2 | .hold => 3 | .poll => 4 | .doze => 5)] ∧
      HoldsFields third [(0, 1, bit bay.toggle), (1, 1, bit f.preconditionOn), (2, 1, bit x.capabilityRequest)] ∧
      let body : List Byte :=
        [0xC3, second, third] ++
          if carries then [BitVec.ofNat 8 x.value, BitVec.ofNat 8 (modeCode f.mode)] else []
      f.octets = body ++ [(crc16 body).extractLsb' 8 8, (crc16 body).extractLsb' 0 8]

/-! ### Bays -/

/-- R46, R47: what every good report does to its bay's record in every state, and the toggle. -/
def Obligations.GoodReportUpdatesTheLink : Prop :=
  ∀ (s : State) (b : BayNo) (x : Exchange) (r : Report),
    let old := s.bay b
    let new := (s.goodReport b x r).bay b
    new.failureCount = 0 ∧ new.confirmed = r.applied ∧ new.unresolved = 0 ∧ new.unknown = false ∧
    new.postCeiling = r.postCeiling ∧ new.measuredPower = r.measuredPower ∧ new.lastGoodTime = s.clock.depotSeconds ∧
    new.lastGoodInterval = s.clock.interval ∧ new.lastFailure = old.lastFailure ∧
    new.lastEnergy = (match r.plug with | some (_, e) => e | none => old.lastEnergy) ∧
    new.toggle =
      (if r.status = .accept ∧ (x.kind = .setpoint ∨ x.kind = .stop) ∧ r.toggleEcho = x.toggle then !old.toggle
       else old.toggle) ∧
    new.cap = old.cap ∧ new.permitted = old.permitted ∧ new.armed = old.armed ∧ new.missedSlots = old.missedSlots

/-- READY, when a report from the bay that holds the tag's binding brings its CHARGING or SHORT booking to the target (R27). -/
def readyAlerts (u : State) (b : BayNo) (r : Report) : List Alert :=
  match r.plug, (u.bay b).boundTag with
  | some (tag, e), some held =>
    if tag = held ∧ ∃ k, u.booking tag = some k ∧ (k.state = .charging ∨ k.state = .short) ∧ k.target ≤ e then
      [{ kind := .ready e, bay := some b, tag := some tag, time := u.clock.depotSeconds }]
    else []
  | _, _ => []

/-- R49, R50, R52 to R55, R57, R64: the reports that bind and release nothing: where each moves its bay, by the bay's state and the
report's status, plug and tag, and the bay alerts it raises, with READY behind them (R27). The state is told from the one that the
first steps of R45 leave. That a DISABLED bay, which no lane visits, would keep its state is the model's choice (log entry 30). -/
def Obligations.GoodReportMovesTheBay : Prop :=
  ∀ (s : State) (b : BayNo) (x : Exchange) (r : Report), PairingLaw s →
    let u := s.reported b x r
    let old := u.bay b
    let t := s.goodReport b x r
    let moves (bay : BayRecord) (kinds : List AlertKind) : Prop :=
      t.bay b = bay ∧ (∀ c, c ≠ b → t.bay c = u.bay c) ∧ t.roster = u.roster ∧ OnlyRing u.mirror t.mirror ∧
      RaisesAll u.mirror t.mirror
        ((kinds.map fun kind => { kind := kind, bay := some b, tag := old.boundTag, time := s.clock.depotSeconds }) ++
          readyAlerts u b r)
    (old.state = .disabled → moves old []) ∧
    (old.state = .closing → moves (if r.applied = 0 then { old with state := .disabled } else old) []) ∧
    (r.status = .refuse → old.state = .faulted → moves old []) ∧
    (r.status = .refuse → old.state ≠ .disabled → old.state ≠ .closing → old.state ≠ .faulted →
      moves { old with state := .faulted, agreedMode := none, unlistedTag := none, emptyRounds := 0 }
        ((if old.state = .lost then [.bayBack .faulted] else []) ++ [.bayFault old.state])) ∧
    (r.status ≠ .refuse → r.plug = none → old.state = .empty →
      moves
        { old with
          emptyRounds :=
            if s.config.loaded.dozeDelay = 0 ∨ old.emptyRounds = s.config.loaded.dozeDelay then old.emptyRounds
            else old.emptyRounds + 1 } []) ∧
    (r.status ≠ .refuse → r.plug = none → old.state = .dozing → moves old []) ∧
    (r.status = .busy → old.state = .faulted → moves old []) ∧
    (∀ tag e, r.status ≠ .refuse → r.plug = some (tag, e) → old.state = .unlisted → old.unlistedTag = some tag →
      (∃ i entry p, s.roster.entries.get i = some entry ∧ entry.tag = tag ∧ entry.bay = some p ∧ p ≠ b) → moves old []) ∧
    ∀ tag e, r.status ≠ .refuse → r.plug = some (tag, e) → old.boundTag = some tag →
      (old.state = .plugged ∨ old.state = .incompatible → moves old []) ∧
      (old.state = .lost → moves { old with state := .agreeing, agreedMode := none } [.bayBack .agreeing]) ∧
      (old.state = .faulted → r.status = .accept →
        moves { old with state := .agreeing, agreedMode := none } [.bayClear .agreeing]) ∧
      (old.state = .agreeing →
        let settles (van : ModeSet) : Prop :=
          let common := van &&& r.postSet &&& old.permitted
          match highestMode common with
          | some m => moves { old with state := .plugged, agreedMode := some m } [.modeAgreed m common]
          | none => moves { old with state := .incompatible } [.incompatible van r.postSet]
        let legacy : Prop := r.status = .accept ∧ x.kind = .poll ∧ x.capabilityRequest = true
        (∀ van, r.vanSet = some van → settles van) ∧ (r.vanSet = none → legacy → settles 1) ∧
        (r.vanSet = none → ¬legacy → moves old []))

/-- The roster and the book as bay `b` has released its binding: the entry is PARKED, and the booking is removed in the departure
window and goes back to WAITING before it (R11, R28). -/
def releasedFrom (u : State) (b : BayNo) : State :=
  { u with
    roster :=
      { u.roster with
        entries := u.roster.entries.map fun o => o.map fun e => if e.bay = some b then { e with bay := none } else e }
    book := u.book.filterMap fun k =>
      if (u.bay b).boundTag = some k.tag then
        if k.departure.toNat ≤ u.clock.depotSeconds.toNat + 60 * u.config.loaded.departLeadMinutes then none
        else some { k with state := if k.state = .charging ∨ k.state = .ready then .waiting else k.state }
      else some k }

/-- The alerts of a release by a report: DEPARTED in the departure window, with the roster's energy, then UNPLUG (R28, R54). -/
def releaseAlerts (u : State) (b : BayNo) : List Alert :=
  (u.book.flatMap fun k =>
    if (u.bay b).boundTag = some k.tag ∧
        k.departure.toNat ≤ u.clock.depotSeconds.toNat + 60 * u.config.loaded.departLeadMinutes then
      [{ kind := .departed (((u.rosterEntry k.tag).map RosterEntry.lastEnergy).getD 0) k.delivered
         bay := some b, tag := some k.tag, time := u.clock.depotSeconds }]
    else []) ++
  [{ kind := .unplug (u.bay b).state, bay := some b, tag := (u.bay b).boundTag, time := u.clock.depotSeconds }]

/-- BAY CLEAR or BAY BACK, as a report takes a bay out of FAULTED or LOST into a state, with the tag then bound (R53, R57, R64; that
the tag is the one bound afterwards is log entry 13). -/
def returnAlerts (u : State) (b : BayNo) (entered : BayState) (tag : Option Tag) : List Alert :=
  match (u.bay b).state with
  | .faulted => [{ kind := .bayClear entered, bay := some b, tag := tag, time := u.clock.depotSeconds }]
  | .lost => [{ kind := .bayBack entered, bay := some b, tag := tag, time := u.clock.depotSeconds }]
  | _ => []

/-- A report has made a bind request of bay `b` at `v`, and the bay has moved by the answer: AGREEING and bound to the tag with its
baseline cleared, or UNLISTED with the reported tag (R48, R49, R52). PLUG IN carries the answer, but a refused retry of an UNLISTED
bay raises none (log entry 11). -/
def BoundBy (u v t : State) (b : BayNo) (tag : Tag) (energy : Nat) : Prop :=
  let answer := (v.bindRequest tag b energy).1
  let q := (v.bindRequest tag b energy).2
  let refused : Prop := answer = .refused
  t = { u with bays := t.bays, roster := q.roster, book := q.book, mirror := t.mirror } ∧
  t.bay b =
    (if refused then
      { q.bay b with state := .unlisted, boundTag := none, agreedMode := none, unlistedTag := some tag, emptyRounds := 0 }
    else
      { q.bay b with
        state := .agreeing, boundTag := some tag, agreedMode := none, unlistedTag := none, emptyRounds := 0
        meterBaseline := none }) ∧
  (∀ c, c ≠ b → t.bay c = q.bay c) ∧ OnlyRing q.mirror t.mirror ∧
  RaisesAll q.mirror t.mirror
    ((if (u.bay b).state = .unlisted ∧ refused then []
      else [{ kind := .plugIn answer, bay := some b, tag := some tag, time := u.clock.depotSeconds }]) ++
      returnAlerts u b (if refused then .unlisted else .agreeing) (if refused then none else some tag))

/-- R11, R28, R49, R51 to R54, R57, R64: the reports that release and bind. No plug at a bay that had one releases its binding with
UNPLUG; another tag than the bound one releases that first; a tag at a bay without a binding is learned. FAULTED is left on ACCEPT
alone, and BAY CLEAR and BAY BACK come last. The bind request itself is that of BindRequestIsDecided, whose READY stands before
PLUG IN (the model's choice, log entry 12). -/
def Obligations.ReportReleasesAndBinds : Prop :=
  ∀ (s : State) (b : BayNo) (x : Exchange) (r : Report), PairingLaw s → BindingLaw s → BookLaw s → r.status ≠ .refuse →
    let u := s.reported b x r
    let old := u.bay b
    let t := s.goodReport b x r
    let leaves : Prop := old.state = .lost ∨ (old.state = .faulted ∧ r.status = .accept)
    let settled : Prop := old.state = .agreeing ∨ old.state = .plugged ∨ old.state = .incompatible
    (r.plug = none → settled ∨ old.state = .unlisted ∨ leaves →
      t = { u with bays := t.bays, roster := (releasedFrom u b).roster, book := (releasedFrom u b).book, mirror := t.mirror } ∧
      t.bay b =
        { old with state := .empty, boundTag := none, agreedMode := none, unlistedTag := none, emptyRounds := 0 } ∧
      (∀ c, c ≠ b → t.bay c = u.bay c) ∧ OnlyRing u.mirror t.mirror ∧
      RaisesAll u.mirror t.mirror (releaseAlerts u b ++ returnAlerts u b .empty none)) ∧
    ∀ tag e, r.plug = some (tag, e) →
      (∀ held, old.boundTag = some held → held ≠ tag → settled ∨ leaves →
        ∃ v,
          v =
            { releasedFrom u b with
              bays := vput u.bays b { old with boundTag := none, agreedMode := none }, mirror := v.mirror } ∧
          OnlyRing u.mirror v.mirror ∧ RaisesAll u.mirror v.mirror (releaseAlerts u b) ∧ BoundBy u v t b tag e) ∧
      (old.boundTag = none → old.state = .empty ∨ old.state = .dozing ∨ leaves → BoundBy u u t b tag e) ∧
      (old.state = .unlisted →
        (old.unlistedTag ≠ some tag ∨ ∀ i entry, s.roster.entries.get i = some entry → entry.tag = tag → entry.bay = none) →
        BoundBy u u t b tag e)

/-- R3, R30, R46 to R48, R115: the first steps of a good report's arrival. The bay takes the link fields, and the report's meter value
as its baseline; an accepted delta, one that has a baseline and is at most 2,000, goes to the delivered total and to the booking
of the tag bound at arrival, at a van exchange too (the model's choice, log entry 31); the entry of a plugged report's tag
takes the time, and the energy when it is bound to this bay. The rest of the arrival clears the baseline exactly where it
binds a van to the bay, and leaves the total. -/
def Obligations.MeterDeltaIsCounted : Prop :=
  ∀ (s : State) (b : BayNo) (x : Exchange) (r : Report), PairingLaw s → BindingLaw s →
    let old := s.bay b
    let u := s.reported b x r
    let t := s.goodReport b x r
    let delta (base : Nat) : Nat := (r.meter + 16777216 - base) % 16777216
    let accepted : Option Nat :=
      match old.meterBaseline with
      | none => none
      | some base => if delta base ≤ 2000 then some (delta base) else none
    u = { s with bays := u.bays, book := u.book, allocator := u.allocator, roster := u.roster, mirror := u.mirror } ∧
    OnlyDirty s.mirror u.mirror ∧ (∀ c, c ≠ b → u.bay c = s.bay c) ∧
    u.bay b =
      { old with
        failureCount := 0, confirmed := r.applied, unresolved := 0, unknown := false, postCeiling := r.postCeiling
        measuredPower := r.measuredPower, lastGoodTime := s.clock.depotSeconds, lastGoodInterval := s.clock.interval
        lastEnergy := (match r.plug with | some (_, e) => e | none => old.lastEnergy)
        toggle :=
          if r.status = .accept ∧ (x.kind = .setpoint ∨ x.kind = .stop) ∧ r.toggleEcho = x.toggle then !old.toggle
          else old.toggle
        meterBaseline := some r.meter } ∧
    u.allocator =
      { s.allocator with
        deliveredTotal :=
          match accepted with
          | none => s.allocator.deliveredTotal
          | some d => min 4294967295 (s.allocator.deliveredTotal + d) } ∧
    u.book = s.book.map (fun k =>
      match accepted with
      | none => k
      | some d => if old.boundTag = some k.tag then { k with delivered := min 16777215 (k.delivered + d) } else k) ∧
    u.roster =
      { s.roster with
        entries := s.roster.entries.map fun o => o.map fun entry =>
          match r.plug with
          | none => entry
          | some (tag, e) =>
            if entry.tag = tag then
              { entry with
                lastSeen := s.clock.depotSeconds, lastEnergy := if entry.bay = some b then e else entry.lastEnergy }
            else entry } ∧
    t.allocator = u.allocator ∧
    (t.bay b).meterBaseline =
      if (t.bay b).boundTag ≠ none ∧ (t.bay b).boundTag ≠ old.boundTag then none else some r.meter

/-- R27: a booking after the energy of a report from the bay that holds its tag's binding. -/
def energyClaimed (hysteresis energy : Nat) (k : Booking) : Booking :=
  { k with
    state :=
      match k.state with
      | .waiting => .waiting
      | .charging => if k.target ≤ energy then .ready else .charging
      | .short => if k.target ≤ energy then .ready else .short
      | .ready => if energy + hysteresis < k.target then .charging else .ready }

/-- R27, R34, R35, R45: the last step of a good report's arrival, where the report has left the bay's binding as it was: the van's
energy moves its booking, and a PLUGGED bay's unbooked van gets the default booking of an AUTONOMOUS plan, at the lowest free index
and for the next default departure. The bookings of a report that binds or releases are those of ReportReleasesAndBinds. -/
def Obligations.BookFollowsTheVan : Prop :=
  ∀ (s : State) (b : BayNo) (x : Exchange) (r : Report), BindingLaw s → BookLaw s →
    let u := s.reported b x r
    let t := s.goodReport b x r
    (t.bay b).boundTag = (u.bay b).boundTag →
    let claimed : List Booking :=
      u.book.map fun k =>
        match r.plug with
        | none => k
        | some (tag, e) =>
          if k.tag = tag ∧ (u.bay b).boundTag = some tag then energyClaimed s.config.loaded.readyHysteresis e k else k
    let now := s.clock.depotSeconds.toNat
    let today := now / 86400 * 86400 + s.config.loaded.defaultDepartureTime
    let next := if now < today then today else today + 86400
    let wanted (tag : Tag) : Prop :=
      (t.bay b).state = .plugged ∧ (t.bay b).boundTag = some tag ∧ (∀ k ∈ u.book, k.tag ≠ tag) ∧
      s.clock.plan = .autonomous ∧ s.clock.valid = true ∧ u.book.length < 160 ∧ next ≤ 4294967295
    ((∀ tag, ¬wanted tag) → t.book = claimed) ∧
    ∀ tag, wanted tag →
      ∃ k before after, t.book = before ++ k :: after ∧ before ++ after = claimed ∧
        (∀ j ∈ before, j.departure.toNat ≤ k.departure.toNat) ∧ (∀ j ∈ after, k.departure.toNat < j.departure.toNat) ∧
        k =
          { index := k.index, tag := tag, departure := BitVec.ofNat 32 next, target := s.config.loaded.defaultTarget
            precondition := none, origin := .byDefault, state := k.state, delivered := 0 } ∧
        (∀ j ∈ u.book, j.index ≠ k.index) ∧ (∀ i, i < k.index → ∃ j ∈ u.book, j.index = i) ∧
        (∀ e, u.rosterEntry tag = some e → e.bay ≠ none →
          k.state = if k.target ≤ e.lastEnergy then .ready else .charging) ∧
        ((∀ e, u.rosterEntry tag = some e → e.bay = none) → k.state = .waiting)

/-- R56: a failed exchange at a bay in service. -/
def Obligations.FailedExchangeIsCounted : Prop :=
  ∀ (s : State) (b : BayNo) (kind : FailureKind), (s.bay b).state ≠ .disabled →
    let old := s.bay b
    let t := s.failedExchange b kind
    let limit := s.config.loaded.failureLimit
    let count := min limit (old.failureCount + 1)
    t = { s with bays := t.bays, mirror := t.mirror } ∧ (∀ c, c ≠ b → t.bay c = s.bay c) ∧
    if count = limit ∧ old.state ≠ .lost ∧ old.state ≠ .closing then
      t.bay b =
        { old with
          failureCount := count, lastFailure := kind, state := .lost, agreedMode := none, unlistedTag := none,
          emptyRounds := 0 } ∧
      Raises s.mirror t.mirror
        { kind := .bayLost kind, bay := some b, tag := old.boundTag, time := s.clock.depotSeconds }
    else t.bay b = { old with failureCount := count, lastFailure := kind } ∧ OnlyDirty s.mirror t.mirror

/-- R61, R62: SET BAY: the checks in their order, alike for its four commands, an action outside 1 to 4 among them (which each of the
four takes, the model's choice, log entry 9); and what each action does. Disable releases a binding without judging a departure, and
the booking goes back to WAITING (R11, R29). -/
def Obligations.SetBayIsCheckedAndTaken : Prop :=
  (∀ c action s n req rest,
    (c, action) ∈
      [(Instr.setBayEnable, 1), (Instr.setBayDisable, 2), (Instr.setBaySetCap, 3), (Instr.setBaySetPermittedModes, 4)] →
    Requested s n req rest → req.code = 0x11 →
    let w0 := (req.words.get 0).toNat
    let w1 := (req.words.get 1).toNat
    let w2 := (req.words.get 2).toNat
    (w1 = action ∨ w1 = 0 ∨ 4 < w1) →
    let fails (check : Nat) : Prop :=
      ∃ t, exec c s = .next t ∧ Answered s t n req rest .badField check ∧
        t = { s with intake := t.intake, mirror := t.mirror, path := t.path } ∧
        t.mirror = { s.mirror with dirty := t.mirror.dirty, backlog := t.mirror.backlog }
    (48 ≤ w0 → fails 1) ∧
    ∀ b : BayNo, w0 = b.val →
      (lanesInService s.config.straps ≤ b.val / 8 → fails 2) ∧
      (b.val / 8 < lanesInService s.config.straps →
        (w1 ≠ action → fails 3) ∧ (w1 = 3 → action = 3 → 220 < w2 → fails 4) ∧ (w1 = 4 → action = 4 → 16 ≤ w2 → fails 4))) ∧
  ∀ s n req rest b, Requested s n req rest → req.code = 0x11 → (req.words.get 0).toNat = b.val →
    b.val / 8 < lanesInService s.config.straps → PairingLaw s → BookLaw s →
    let w1 := (req.words.get 1).toNat
    let w2 := (req.words.get 2).toNat
    let old := s.bay b
    let becomes (c : Instr) (bay : BayRecord) : Prop :=
      ∃ t, exec c s = .next t ∧ Answered s t n req rest .done bay.state.code ∧
        t = { s with bays := t.bays, intake := t.intake, mirror := t.mirror, path := t.path } ∧
        t.mirror = { s.mirror with dirty := t.mirror.dirty, backlog := t.mirror.backlog } ∧
        t.bay b = bay ∧ ∀ c, c ≠ b → t.bay c = s.bay c
    (w1 = 1 →
      becomes .setBayEnable
        (if old.state = .disabled then
          { old with
            state := .empty, toggle := false, unresolved := 0, confirmed := 0, unknown := true, meterBaseline := none,
            failureCount := 0, lastFailure := .noFailure, emptyRounds := 0, armed := false }
        else if old.state = .closing then { old with state := .empty, emptyRounds := 0 }
        else old)) ∧
    (w1 = 2 → old.state = .disabled ∨ old.state = .closing → becomes .setBayDisable old) ∧
    (w1 = 2 → old.state ≠ .disabled → old.state ≠ .closing →
      ∃ t, exec .setBayDisable s = .next t ∧ Answered s t n req rest .done 1 ∧
        t = { s with bays := t.bays, roster := t.roster, book := t.book, intake := t.intake, mirror := t.mirror,
                     path := t.path } ∧
        t.mirror = { s.mirror with dirty := t.mirror.dirty, backlog := t.mirror.backlog } ∧
        t.bay b = { old with state := .closing, boundTag := none, agreedMode := none, unlistedTag := none, emptyRounds := 0 } ∧
        (∀ c, c ≠ b → t.bay c = s.bay c) ∧ t.roster.agingPosition = s.roster.agingPosition ∧
        (∀ i, t.roster.entries.get i =
          (s.roster.entries.get i).map fun e => if e.bay = some b then { e with bay := none } else e) ∧
        t.book = s.book.map fun k =>
          if old.boundTag = some k.tag then
            { k with state := if k.state = .charging ∨ k.state = .ready then .waiting else k.state }
          else k) ∧
    (w1 = 3 → w2 ≤ 220 →
      becomes .setBaySetCap { old with cap := w2 } ∧
      (old.unknown = true → ∃ t, exec .setBaySetCap s = .next t ∧ (t.bay b).k = w2)) ∧
    (w1 = 4 → w2 < 16 →
      becomes .setBaySetPermittedModes
        (if old.state = .plugged ∨ old.state = .incompatible then
          { old with permitted := BitVec.ofNat 4 w2, state := .agreeing, agreedMode := none }
        else { old with permitted := BitVec.ofNat 4 w2 }))

/-! ### Departure Book and Van Roster -/

/-- R22: the checks of BOOK in their order, with result and detail; none when the request passes. -/
def bookRefusal (s : State) (req : Request) (tag : Tag) : Option (ResultCode × Nat) :=
  let w (i : Fin 7) : Nat := (req.words.get i).toNat
  let flagged : Prop := (req.words.get 4).getLsbD 0 = true
  if s.clock.valid = false then some (.noClock, 0)
  else if w 2 ≤ s.clock.depotSeconds.toNat then some (.badField, 1)
  else if w 3 < 1 ∨ 20000 < w 3 then some (.badField, 2)
  else if flagged ∧ 100 < w 5 then some (.badField, 3)
  else if flagged ∧ 120 < w 6 then some (.badField, 4)
  else if ¬(s.book.length < 160 ∨ ∃ k ∈ s.book, k.tag = tag) then some (.full, 160)
  else none

/-- R22 to R24: BOOK is checked in order; one that passes leaves exactly one booking for its tag, placed after those of the
same or an earlier departure, with the request's fields, origin HOST and a state computed from the roster; a replacement
keeps its internal index and delivered figure, and a new booking takes the lowest free index with delivered 0. Its record is dirty,
and the header when the count has changed (R40). -/
def Obligations.BookIsCheckedAndPlaced : Prop :=
  ∀ s n req rest, Requested s n req rest → req.code = 0x01 → BookLaw s →
    let tag : Tag := (req.words.get 1).extractLsb' 0 16 ++ req.words.get 0
    ∃ t, exec .book s = .next t ∧ t = { s with book := t.book, intake := t.intake, mirror := t.mirror, path := t.path } ∧
      t.mirror = { s.mirror with dirty := t.mirror.dirty, backlog := t.mirror.backlog } ∧
      (∀ code detail, bookRefusal s req tag = some (code, detail) →
        Answered s t n req rest code detail ∧ t.book = s.book) ∧
      (bookRefusal s req tag = none →
        ∃ k before after,
          t.book = before ++ k :: after ∧ before ++ after = s.book.filter (fun j => j.tag != tag) ∧
          (∀ j ∈ before, j.departure.toNat ≤ k.departure.toNat) ∧ (∀ j ∈ after, k.departure.toNat < j.departure.toNat) ∧
          Answered s t n req rest .done (k.index.val + 256 * (before.length + 1)) ∧
          k.tag = tag ∧ k.departure = req.words.get 2 ∧ k.target = (req.words.get 3).toNat ∧ k.origin = .byHost ∧
          k.precondition =
            (if (req.words.get 4).getLsbD 0 = true then
              some { power := (req.words.get 5).toNat, leadMinutes := (req.words.get 6).toNat }
             else none) ∧
          (∀ e, s.rosterEntry tag = some e → e.bay.isSome = true →
            k.state = if k.target ≤ e.lastEnergy then .ready else .charging) ∧
          ((s.rosterEntry tag = none ∨ ∃ e, s.rosterEntry tag = some e ∧ e.bay = none) → k.state = .waiting) ∧
          (∀ old, s.booking tag = some old → k.index = old.index ∧ k.delivered = old.delivered) ∧
          t.mirror.dirty.has (.booking k.index) = true ∧
          (s.booking tag = none →
            k.delivered = 0 ∧ (∀ j ∈ s.book, j.index ≠ k.index) ∧ t.mirror.dirty.has .header = true ∧
            ∀ i, i < k.index → ∃ j ∈ s.book, j.index = i))

/-- R25: CANCEL removes the booking for its tag, or finds none. R16: FORGET removes a PARKED entry, is refused for a BOUND one, and
may find none. -/
def Obligations.CancelAndForgetRemoveByTag : Prop :=
  ∀ s n req rest, Requested s n req rest →
    let tag : Tag := (req.words.get 1).extractLsb' 0 16 ++ req.words.get 0
    (req.code = 0x02 → BookLaw s →
      ∃ t, exec .cancel s = .next t ∧
        t = { s with book := t.book, intake := t.intake, mirror := t.mirror, path := t.path } ∧
        t.mirror = { s.mirror with dirty := t.mirror.dirty, backlog := t.mirror.backlog } ∧
        (∀ k ∈ s.book, k.tag = tag →
          Answered s t n req rest .done k.index.val ∧ t.book = s.book.filter (fun j => j.tag != tag) ∧
          t.book.length + 1 = s.book.length ∧ (∀ j ∈ t.book, j.index ≠ k.index) ∧
          t.mirror.dirty.has (.booking k.index) = true ∧ t.mirror.dirty.has .header = true) ∧
        ((∀ k ∈ s.book, k.tag ≠ tag) → Answered s t n req rest .notFound 0 ∧ t.book = s.book)) ∧
    (req.code = 0x03 → PairingLaw s →
      ∃ t, exec .forget s = .next t ∧
        t = { s with roster := t.roster, intake := t.intake, mirror := t.mirror, path := t.path } ∧
        t.mirror = { s.mirror with dirty := t.mirror.dirty, backlog := t.mirror.backlog } ∧
        t.roster.agingPosition = s.roster.agingPosition ∧
        (∀ i e, s.roster.entries.get i = some e → e.tag = tag →
          (e.bay = none →
            Answered s t n req rest .done i.val ∧ t.roster.entries.get i = none ∧
            (∀ j, j ≠ i → t.roster.entries.get j = s.roster.entries.get j) ∧ t.rosterCount + 1 = s.rosterCount ∧
            t.mirror.dirty.has (.roster i) = true ∧ t.mirror.dirty.has .header = true) ∧
          ∀ b, e.bay = some b → Answered s t n req rest .inUse b.val ∧ t.roster = s.roster) ∧
        ((∀ i e, s.roster.entries.get i = some e → e.tag ≠ tag) →
          Answered s t n req rest .notFound 0 ∧ t.roster = s.roster))

/-- R26: a booking as its tag becomes bound at a bay with the energy of the report. -/
def bindClaimed (energy : Nat) (k : Booking) : Booking :=
  { k with
    state :=
      match k.state with
      | .waiting => if k.target ≤ energy then .ready else .charging
      | .short => if k.target ≤ energy then .ready else .short
      | .charging => .charging
      | .ready => .ready }

/-- R4 to R10, R26, R59: a bind request is decided by the first case that applies, for a bay that holds no binding: a tag held
elsewhere migrates from a LOST bay with VAN MOVED and clashes with another with TAG CLASH, where a FAULTED loser raises BAY CLEAR; a
PARKED entry is reused; a new tag takes the lowest free index or, with ROSTER EVICT, that of the PARKED unbooked entry seen longest
ago, and is refused when there is none. The Book takes the bind claim of a tag that became bound, with READY behind the roster's
alerts (the model's choice, log entry 12). That BAY CLEAR carries no tag is log entry 13, and that any holder which is not LOST loses
a clash, also in a state that R10 does not name and no run reaches, is log entry 30. -/
def Obligations.BindRequestIsDecided : Prop :=
  ∀ (s : State) (tag : Tag) (b : BayNo) (energy : Nat), PairingLaw s → BookLaw s → (s.bay b).boundTag = none →
    let answer := (s.bindRequest tag b energy).1
    let t := (s.bindRequest tag b energy).2
    let alert (kind : AlertKind) (bay : BayNo) (van : Option Tag) : Alert :=
      { kind := kind, bay := some bay, tag := van, time := s.clock.depotSeconds }
    let entry : RosterEntry :=
      { tag := tag, bay := some b, plugIn := s.clock.depotSeconds, lastSeen := s.clock.depotSeconds, lastEnergy := energy }
    let boundAt (i : RosterIx) : Prop :=
      t.roster.entries.get i = some entry ∧ (∀ j, j ≠ i → t.roster.entries.get j = s.roster.entries.get j) ∧
      t.mirror.dirty.has (.roster i) = true
    let becameBound (i : RosterIx) (first : List Alert) : Prop :=
      answer = .bound ∧ boundAt i ∧ t.bays = s.bays ∧
      t.book = s.book.map (fun k => if k.tag = tag then bindClaimed energy k else k) ∧
      RaisesAll s.mirror t.mirror
        (first ++
          if ∃ k ∈ s.book, k.tag = tag ∧ (k.state = .waiting ∨ k.state = .short) ∧ k.target ≤ energy then
            [alert (.ready energy) b (some tag)]
          else [])
    let evictable (e : RosterEntry) : Prop := e.bay = none ∧ ∀ k ∈ s.book, k.tag ≠ e.tag
    t = { s with roster := t.roster, book := t.book, bays := t.bays, mirror := t.mirror } ∧ OnlyRing s.mirror t.mirror ∧
    t.roster.agingPosition = s.roster.agingPosition ∧
    (∀ i e p, s.roster.entries.get i = some e → e.tag = tag → e.bay = some p →
      boundAt i ∧ p ≠ b ∧ t.book = s.book ∧ (∀ c, c ≠ p → t.bay c = s.bay c) ∧
      if (s.bay p).state = .lost then
        answer = .migration ∧ t.bay p = { s.bay p with boundTag := none } ∧
        RaisesAll s.mirror t.mirror [alert (.vanMoved p) b (some tag)]
      else
        answer = .clash ∧
        t.bay p = { s.bay p with state := .unlisted, boundTag := none, agreedMode := none, unlistedTag := some tag } ∧
        RaisesAll s.mirror t.mirror
          ([alert (.tagClash p) b (some tag)] ++
            if (s.bay p).state = .faulted then [alert (.bayClear .unlisted) p none] else [])) ∧
    (∀ i e, s.roster.entries.get i = some e → e.tag = tag → e.bay = none → becameBound i []) ∧
    ((∀ i e, s.roster.entries.get i = some e → e.tag ≠ tag) →
      (∀ i, s.roster.entries.get i = none → (∀ j, j < i → s.roster.entries.get j ≠ none) → becameBound i []) ∧
      ((∀ i, s.roster.entries.get i ≠ none) →
        (∀ i e, s.roster.entries.get i = some e → evictable e →
          (∀ j f, s.roster.entries.get j = some f → evictable f →
            e.lastSeen.toNat < f.lastSeen.toNat ∨ (e.lastSeen = f.lastSeen ∧ i ≤ j)) →
          becameBound i [alert (.rosterEvict i) b (some e.tag)]) ∧
        ((∀ i e, s.roster.entries.get i = some e → ¬evictable e) →
          answer = .refused ∧ t.roster = s.roster ∧ t.bays = s.bays ∧ t.book = s.book ∧
          RaisesAll s.mirror t.mirror [alert (.rosterFull s.boundCount) b (some tag)])))

/-- R140: a code that names no request is answered UNKNOWN_REQUEST with the code, and reaches no block. -/
def Obligations.UnknownCodeIsAnswered : Prop :=
  ∀ s n req rest, Requested s n req rest →
    req.code ≠ 0x01 → req.code ≠ 0x02 → req.code ≠ 0x03 → req.code ≠ 0x10 → req.code ≠ 0x11 → req.code ≠ 0x12 →
    req.code ≠ 0x13 → req.code ≠ 0x1F →
    ∃ t, exec .unknownRequest s = .next t ∧ Answered s t n req rest .unknownRequest req.code.toNat ∧
      t = { s with intake := t.intake, mirror := t.mirror, path := t.path } ∧
      t.mirror = { s.mirror with dirty := t.mirror.dirty, backlog := t.mirror.backlog } ∧
      DirtyBy s.mirror.dirty t.mirror.dirty (fun q => q = .slot n)

/-! ### Invariants that every step keeps -/

/-- Every step marks dirty each record whose contents it changes, the generation count apart: every record of the mirror window by
its words, a bay record by any field of R43, a roster record by its entry, a booking record by its booking or its rank, and the
header by the two counts (R18, R40, R65, R140, R147, R149, R150). Until start-up has ended every record stays dirty (R151, R155).
That an addition which leaves a delivered figure as it was marks nothing is the model's reading (log entry 37). -/
def Obligations.StepsMarkWhatTheyChange : Prop :=
  ∀ s t, StartUpLaw s → BookLaw s → step s = .next t →
    StartUpLaw t ∧
    (∀ r,
      ({ t with mirror := { t.mirror with generations := s.mirror.generations } } : State).recordWords r ≠ s.recordWords r →
        t.mirror.dirty.has r = true) ∧
    (∀ b, t.bay b ≠ s.bay b → t.mirror.dirty.has (.bay b) = true) ∧
    (∀ i, t.roster.entries.get i ≠ s.roster.entries.get i → t.mirror.dirty.has (.roster i) = true) ∧
    (∀ before k after, t.book = before ++ k :: after →
      (∀ front rest, s.book = front ++ k :: rest → front.length ≠ before.length) →
      t.mirror.dirty.has (.booking k.index) = true) ∧
    (∀ k ∈ s.book, (∀ j ∈ t.book, j.index ≠ k.index) → t.mirror.dirty.has (.booking k.index) = true) ∧
    (t.rosterCount ≠ s.rosterCount ∨ t.book.length ≠ s.book.length → t.mirror.dirty.has .header = true)

/-- Every step keeps memory in its canonical form, and the mirror write backlog within 64 words (R146). -/
def Obligations.StepsKeepMemoryAndBacklog : Prop :=
  ∀ s t, step s = .next t → (MemoryLaw s → MemoryLaw t) ∧ (BacklogLaw s → BacklogLaw t)

/-- Every step keeps the law of the book (R21). -/
def Obligations.StepsKeepTheBookOrdered : Prop := ∀ s t, BookLaw s → step s = .next t → BookLaw t

/-- Every step keeps the law of failure counts (R56). -/
def Obligations.StepsKeepTheFailureLaw : Prop := ∀ s t, FailureLaw s → step s = .next t → FailureLaw t

/-- Every step keeps bindings, agreed modes and unlisted tags in the states that may hold them, and present in the states that must
(R43, The states). -/
def Obligations.StepsKeepTheBindingLaw : Prop := ∀ s t, BindingLaw s → step s = .next t → BindingLaw t

/-- Every step keeps bays and roster entries paired (R1, R2). -/
def Obligations.StepsKeepThePairing : Prop :=
  ∀ s t, PairingLaw s → BindingLaw s → LoadingIsQuiet s → step s = .next t → PairingLaw t ∧ LoadingIsQuiet t

/-- Every step keeps the intake queue and the slots' phases together (R138). -/
def Obligations.StepsKeepTheQueueLaw : Prop := ∀ s t, QueueLaw s → step s = .next t → QueueLaw t

/-- Every step keeps watched reads of a partly written record away from memory (R135). -/
def Obligations.StepsKeepTheFence : Prop :=
  ∀ s t, FenceLaw s → LoadingIsUnwatched s → step s = .next t → FenceLaw t ∧ LoadingIsUnwatched t

/-- Every step keeps the two windows aligned and apart (R130, R153). -/
def Obligations.StepsKeepTheWindowsApart : Prop := ∀ s t, WindowLaw s → step s = .next t → WindowLaw t

/-- Every step keeps at most one host access in the part, no word owed while one is on the port, and no claimant at a FREE port
(R130, R136). -/
def Obligations.StepsKeepThePortLaw : Prop := ∀ s t, PortLaw s → step s = .next t → PortLaw t

/-- Every invariant above holds in the state after reset. -/
def Obligations.InvariantsHoldAtReset : Prop :=
  MemoryLaw State.reset ∧ BacklogLaw State.reset ∧ BookLaw State.reset ∧ FailureLaw State.reset ∧ BindingLaw State.reset ∧
  PairingLaw State.reset ∧ LoadingIsQuiet State.reset ∧ StartUpLaw State.reset ∧ QueueLaw State.reset ∧ FenceLaw State.reset ∧
  LoadingIsUnwatched State.reset ∧ WindowLaw State.reset ∧ PortLaw State.reset
end

