-- ==== Sys2Proof/Laws/State.lean ====
section
/-!
SUPPORT. What each shared operation over the state leaves as it was, field by field, and what reading back what it wrote gives.
-/

namespace Sys2Proof.Machine

open Sys2Proof

/-! ### Fields that an operation leaves as they were -/

@[simp] theorem State.mark_keeps (s : State) (r : RecordId) :
    (s.mark r).roster = s.roster ∧
    (s.mark r).book = s.book ∧
    (s.mark r).bays = s.bays ∧
    (s.mark r).lanes = s.lanes ∧
    (s.mark r).meter = s.meter ∧
    (s.mark r).allocator = s.allocator ∧
    (s.mark r).clock = s.clock ∧
    (s.mark r).path = s.path ∧
    (s.mark r).intake = s.intake ∧
    (s.mark r).config = s.config ∧
    (s.mark r).memory = s.memory ∧
    (s.mark r).draws = s.draws ∧
    (s.mark r).pending = s.pending ∧
    (s.mark r).mirror.backlog = s.mirror.backlog := by
  exact ⟨rfl, rfl, rfl, rfl, rfl, rfl, rfl, rfl, rfl, rfl, rfl, rfl, rfl, rfl⟩

@[simp] theorem State.storeAlert_keeps (s : State) (a : Alert) :
    (s.storeAlert a).roster = s.roster ∧
    (s.storeAlert a).book = s.book ∧
    (s.storeAlert a).bays = s.bays ∧
    (s.storeAlert a).lanes = s.lanes ∧
    (s.storeAlert a).meter = s.meter ∧
    (s.storeAlert a).allocator = s.allocator ∧
    (s.storeAlert a).clock = s.clock ∧
    (s.storeAlert a).path = s.path ∧
    (s.storeAlert a).intake = s.intake ∧
    (s.storeAlert a).config = s.config ∧
    (s.storeAlert a).memory = s.memory ∧
    (s.storeAlert a).draws = s.draws ∧
    (s.storeAlert a).pending = s.pending ∧
    (s.storeAlert a).mirror.backlog = s.mirror.backlog := by
  exact ⟨rfl, rfl, rfl, rfl, rfl, rfl, rfl, rfl, rfl, rfl, rfl, rfl, rfl, rfl⟩

@[simp] theorem State.loseAlert_keeps (s : State) :
    (s.loseAlert).roster = s.roster ∧
    (s.loseAlert).book = s.book ∧
    (s.loseAlert).bays = s.bays ∧
    (s.loseAlert).lanes = s.lanes ∧
    (s.loseAlert).meter = s.meter ∧
    (s.loseAlert).allocator = s.allocator ∧
    (s.loseAlert).clock = s.clock ∧
    (s.loseAlert).path = s.path ∧
    (s.loseAlert).intake = s.intake ∧
    (s.loseAlert).config = s.config ∧
    (s.loseAlert).memory = s.memory ∧
    (s.loseAlert).draws = s.draws ∧
    (s.loseAlert).pending = s.pending ∧
    (s.loseAlert).mirror.backlog = s.mirror.backlog := by
  exact ⟨rfl, rfl, rfl, rfl, rfl, rfl, rfl, rfl, rfl, rfl, rfl, rfl, rfl, rfl⟩

@[simp] theorem State.raise_keeps (s : State) (kind : AlertKind) (bay : Option BayNo) (tag : Option Tag) :
    (s.raise kind bay tag).roster = s.roster ∧
    (s.raise kind bay tag).book = s.book ∧
    (s.raise kind bay tag).bays = s.bays ∧
    (s.raise kind bay tag).lanes = s.lanes ∧
    (s.raise kind bay tag).meter = s.meter ∧
    (s.raise kind bay tag).allocator = s.allocator ∧
    (s.raise kind bay tag).clock = s.clock ∧
    (s.raise kind bay tag).path = s.path ∧
    (s.raise kind bay tag).intake = s.intake ∧
    (s.raise kind bay tag).config = s.config ∧
    (s.raise kind bay tag).memory = s.memory ∧
    (s.raise kind bay tag).draws = s.draws ∧
    (s.raise kind bay tag).pending = s.pending ∧
    (s.raise kind bay tag).mirror.backlog = s.mirror.backlog := by
  unfold State.raise
  (repeat' split) <;> simp

@[simp] theorem State.setBay_keeps (s : State) (b : BayNo) (r : BayRecord) :
    (s.setBay b r).roster = s.roster ∧
    (s.setBay b r).book = s.book ∧
    (s.setBay b r).lanes = s.lanes ∧
    (s.setBay b r).meter = s.meter ∧
    (s.setBay b r).allocator = s.allocator ∧
    (s.setBay b r).clock = s.clock ∧
    (s.setBay b r).path = s.path ∧
    (s.setBay b r).intake = s.intake ∧
    (s.setBay b r).config = s.config ∧
    (s.setBay b r).memory = s.memory ∧
    (s.setBay b r).draws = s.draws ∧
    (s.setBay b r).pending = s.pending ∧
    (s.setBay b r).mirror.backlog = s.mirror.backlog := by
  unfold State.setBay
  (repeat' split) <;> simp

@[simp] theorem State.updBay_keeps (s : State) (b : BayNo) (f : BayRecord → BayRecord) :
    (s.updBay b f).roster = s.roster ∧
    (s.updBay b f).book = s.book ∧
    (s.updBay b f).lanes = s.lanes ∧
    (s.updBay b f).meter = s.meter ∧
    (s.updBay b f).allocator = s.allocator ∧
    (s.updBay b f).clock = s.clock ∧
    (s.updBay b f).path = s.path ∧
    (s.updBay b f).intake = s.intake ∧
    (s.updBay b f).config = s.config ∧
    (s.updBay b f).memory = s.memory ∧
    (s.updBay b f).draws = s.draws ∧
    (s.updBay b f).pending = s.pending ∧
    (s.updBay b f).mirror.backlog = s.mirror.backlog := by
  simp [State.updBay]

@[simp] theorem State.setLane_keeps (s : State) (l : LaneNo) (x : Lane) :
    (s.setLane l x).roster = s.roster ∧
    (s.setLane l x).book = s.book ∧
    (s.setLane l x).bays = s.bays ∧
    (s.setLane l x).meter = s.meter ∧
    (s.setLane l x).allocator = s.allocator ∧
    (s.setLane l x).clock = s.clock ∧
    (s.setLane l x).mirror = s.mirror ∧
    (s.setLane l x).path = s.path ∧
    (s.setLane l x).intake = s.intake ∧
    (s.setLane l x).config = s.config ∧
    (s.setLane l x).memory = s.memory ∧
    (s.setLane l x).draws = s.draws ∧
    (s.setLane l x).pending = s.pending := by
  exact ⟨rfl, rfl, rfl, rfl, rfl, rfl, rfl, rfl, rfl, rfl, rfl, rfl, rfl⟩

@[simp] theorem State.updLane_keeps (s : State) (l : LaneNo) (f : Lane → Lane) :
    (s.updLane l f).roster = s.roster ∧
    (s.updLane l f).book = s.book ∧
    (s.updLane l f).bays = s.bays ∧
    (s.updLane l f).meter = s.meter ∧
    (s.updLane l f).allocator = s.allocator ∧
    (s.updLane l f).clock = s.clock ∧
    (s.updLane l f).mirror = s.mirror ∧
    (s.updLane l f).path = s.path ∧
    (s.updLane l f).intake = s.intake ∧
    (s.updLane l f).config = s.config ∧
    (s.updLane l f).memory = s.memory ∧
    (s.updLane l f).draws = s.draws ∧
    (s.updLane l f).pending = s.pending := by
  simp [State.updLane]

@[simp] theorem State.setRoster_keeps (s : State) (i : RosterIx) (e : Option RosterEntry) :
    (s.setRoster i e).book = s.book ∧
    (s.setRoster i e).bays = s.bays ∧
    (s.setRoster i e).lanes = s.lanes ∧
    (s.setRoster i e).meter = s.meter ∧
    (s.setRoster i e).allocator = s.allocator ∧
    (s.setRoster i e).clock = s.clock ∧
    (s.setRoster i e).path = s.path ∧
    (s.setRoster i e).intake = s.intake ∧
    (s.setRoster i e).config = s.config ∧
    (s.setRoster i e).memory = s.memory ∧
    (s.setRoster i e).draws = s.draws ∧
    (s.setRoster i e).pending = s.pending ∧
    (s.setRoster i e).mirror.backlog = s.mirror.backlog := by
  unfold State.setRoster
  dsimp only
  (repeat' split) <;> simp

@[simp] theorem State.setBook_keeps (s : State) (book : List Booking) :
    (s.setBook book).roster = s.roster ∧
    (s.setBook book).bays = s.bays ∧
    (s.setBook book).lanes = s.lanes ∧
    (s.setBook book).meter = s.meter ∧
    (s.setBook book).allocator = s.allocator ∧
    (s.setBook book).clock = s.clock ∧
    (s.setBook book).path = s.path ∧
    (s.setBook book).intake = s.intake ∧
    (s.setBook book).config = s.config ∧
    (s.setBook book).memory = s.memory ∧
    (s.setBook book).draws = s.draws ∧
    (s.setBook book).pending = s.pending ∧
    (s.setBook book).mirror.backlog = s.mirror.backlog := by
  exact ⟨rfl, rfl, rfl, rfl, rfl, rfl, rfl, rfl, rfl, rfl, rfl, rfl, rfl⟩

@[simp] theorem State.setSlot_keeps (s : State) (n : SlotNo) (x : PostingSlot) :
    (s.setSlot n x).roster = s.roster ∧
    (s.setSlot n x).book = s.book ∧
    (s.setSlot n x).bays = s.bays ∧
    (s.setSlot n x).lanes = s.lanes ∧
    (s.setSlot n x).meter = s.meter ∧
    (s.setSlot n x).allocator = s.allocator ∧
    (s.setSlot n x).clock = s.clock ∧
    (s.setSlot n x).mirror = s.mirror ∧
    (s.setSlot n x).path = s.path ∧
    (s.setSlot n x).config = s.config ∧
    (s.setSlot n x).memory = s.memory ∧
    (s.setSlot n x).draws = s.draws ∧
    (s.setSlot n x).pending = s.pending := by
  exact ⟨rfl, rfl, rfl, rfl, rfl, rfl, rfl, rfl, rfl, rfl, rfl, rfl, rfl⟩

@[simp] theorem State.storeResult_keeps (s : State) (n : SlotNo) (code : ResultCode) (detail : Nat) :
    (s.storeResult n code detail).roster = s.roster ∧
    (s.storeResult n code detail).book = s.book ∧
    (s.storeResult n code detail).bays = s.bays ∧
    (s.storeResult n code detail).lanes = s.lanes ∧
    (s.storeResult n code detail).meter = s.meter ∧
    (s.storeResult n code detail).allocator = s.allocator ∧
    (s.storeResult n code detail).clock = s.clock ∧
    (s.storeResult n code detail).config = s.config ∧
    (s.storeResult n code detail).memory = s.memory ∧
    (s.storeResult n code detail).draws = s.draws ∧
    (s.storeResult n code detail).pending = s.pending := by
  unfold State.storeResult
  (repeat' split) <;> simp

@[simp] theorem State.dequeue_keeps (s : State) :
    (s.dequeue).roster = s.roster ∧
    (s.dequeue).book = s.book ∧
    (s.dequeue).bays = s.bays ∧
    (s.dequeue).lanes = s.lanes ∧
    (s.dequeue).meter = s.meter ∧
    (s.dequeue).allocator = s.allocator ∧
    (s.dequeue).clock = s.clock ∧
    (s.dequeue).mirror = s.mirror ∧
    (s.dequeue).path = s.path ∧
    (s.dequeue).config = s.config ∧
    (s.dequeue).memory = s.memory ∧
    (s.dequeue).draws = s.draws ∧
    (s.dequeue).pending = s.pending := by
  exact ⟨rfl, rfl, rfl, rfl, rfl, rfl, rfl, rfl, rfl, rfl, rfl, rfl, rfl⟩

/-! ### Reading back -/

theorem vector_get_eq {α : Type} {n : Nat} (v : Vector α n) (i : Fin n) : v.get i = v[i.val] := rfl

@[simp] theorem vput_get_self {α : Type} {n : Nat} (v : Vector α n) (i : Fin n) (x : α) : (vput v i x).get i = x := by
  simp [vput, vector_get_eq]

theorem vput_get_of_ne {α : Type} {n : Nat} (v : Vector α n) {i j : Fin n} (x : α) (h : j ≠ i) :
    (vput v i x).get j = v.get j := by
  have : (i : Nat) ≠ j := fun e => h (Fin.ext e.symm)
  simp [vput, vector_get_eq, Vector.getElem_set, this]

theorem vput_get {α : Type} {n : Nat} (v : Vector α n) (i j : Fin n) (x : α) :
    (vput v i x).get j = if j = i then x else v.get j := by
  split
  · next h => subst h; simp
  · next h => exact vput_get_of_ne v x h

@[simp] theorem vmap_get {α β : Type} {n : Nat} (f : α → β) (v : Vector α n) (i : Fin n) : (vmap f v).get i = f (v.get i) := by
  simp [vmap, vector_get_eq]

@[simp] theorem ofFn_get {α : Type} {n : Nat} (f : Fin n → α) (i : Fin n) : (Vector.ofFn f).get i = f i := by
  simp [vector_get_eq]

@[simp] theorem replicate_get {α : Type} {n : Nat} (x : α) (i : Fin n) : (Vector.replicate n x).get i = x := by
  simp [vector_get_eq]

theorem vector_get_ext {α : Type} {n : Nat} {v w : Vector α n} (h : ∀ i, v.get i = w.get i) : v = w := by
  apply Vector.ext
  intro i hi
  exact h ⟨i, hi⟩

@[simp] theorem vput_get_same {α : Type} {n : Nat} (v : Vector α n) (i : Fin n) : vput v i (v.get i) = v :=
  vector_get_ext fun j => by
    rw [vput_get]
    split
    · next h => rw [h]
    · rfl

@[simp] theorem State.mark_bay (s : State) (r : RecordId) (b : BayNo) : (s.mark r).bay b = s.bay b := rfl

@[simp] theorem State.raise_bay (s : State) (kind : AlertKind) (bay : Option BayNo) (tag : Option Tag) (b : BayNo) :
    (s.raise kind bay tag).bay b = s.bay b := by
  simp [State.bay]

/-- A bay's record after one bay's record has been replaced. -/
theorem State.setBay_bay (s : State) (b c : BayNo) (r : BayRecord) :
    (s.setBay b r).bay c = if c = b then r else s.bay c := by
  unfold State.setBay
  split
  · next h =>
    split
    · next e => rw [e, h]
    · rfl
  · simp [State.bay, vput_get]

@[simp] theorem State.setBay_bay_self (s : State) (b : BayNo) (r : BayRecord) : (s.setBay b r).bay b = r := by
  simp [State.setBay_bay]

@[simp] theorem State.updBay_bay_self (s : State) (b : BayNo) (f : BayRecord → BayRecord) :
    (s.updBay b f).bay b = f (s.bay b) := by
  simp [State.updBay]

/-- A bay's record after one bay's record has been changed. -/
theorem State.updBay_bay (s : State) (b c : BayNo) (f : BayRecord → BayRecord) :
    (s.updBay b f).bay c = if c = b then f (s.bay b) else s.bay c := by
  simp [State.updBay, State.setBay_bay]

theorem State.updBay_bay_of_ne (s : State) {b c : BayNo} (f : BayRecord → BayRecord) (h : c ≠ b) :
    (s.updBay b f).bay c = s.bay c := by
  simp [State.updBay_bay, h]

@[simp] theorem State.setLane_lane_self (s : State) (l : LaneNo) (x : Lane) : (s.setLane l x).lane l = x := by
  simp [State.setLane, State.lane]

theorem State.setLane_lane (s : State) (l k : LaneNo) (x : Lane) :
    (s.setLane l x).lane k = if k = l then x else s.lane k := by
  simp [State.setLane, State.lane, vput_get]

@[simp] theorem State.updLane_lane_self (s : State) (l : LaneNo) (f : Lane → Lane) :
    (s.updLane l f).lane l = f (s.lane l) := by
  simp [State.updLane]

theorem State.updLane_lane (s : State) (l k : LaneNo) (f : Lane → Lane) :
    (s.updLane l f).lane k = if k = l then f (s.lane l) else s.lane k := by
  simp [State.updLane, State.setLane_lane]

@[simp] theorem State.setSlot_slot_self (s : State) (n : SlotNo) (x : PostingSlot) : (s.setSlot n x).slot n = x := by
  simp [State.setSlot, State.slot]

theorem State.setSlot_slot (s : State) (n k : SlotNo) (x : PostingSlot) :
    (s.setSlot n x).slot k = if k = n then x else s.slot k := by
  simp [State.setSlot, State.slot, vput_get]

@[simp] theorem State.setBook_book (s : State) (book : List Booking) : (s.setBook book).book = book := rfl

/-- What the roster holds after one index has been replaced. -/
theorem State.setRoster_get (s : State) (i j : RosterIx) (e : Option RosterEntry) :
    (s.setRoster i e).roster.entries.get j = if j = i then e else s.roster.entries.get j := by
  unfold State.setRoster
  dsimp only
  split
  · next h =>
    split
    · next h2 => rw [h2, h]
    · rfl
  · split <;> simp [vput_get]

@[simp] theorem State.setRoster_agingPosition (s : State) (i : RosterIx) (e : Option RosterEntry) :
    (s.setRoster i e).roster.agingPosition = s.roster.agingPosition := by
  unfold State.setRoster
  dsimp only
  (repeat' split) <;> simp

/-! ### The dirty set -/

/-- A record is dirty after a mark when it was dirty or is the one marked. -/
theorem DirtySet.has_mark (d : DirtySet) (r q : RecordId) : (d.mark r).has q = (d.has q || decide (q = r)) := by
  rcases r with _ | r | r | r | r | r | ⟨_ | _, r⟩ <;> rcases q with _ | q | q | q | q | q | ⟨_ | _, q⟩ <;>
    simp [DirtySet.mark, DirtySet.has, vput_get]
  all_goals by_cases h : q = r <;> simp [h]

end Sys2Proof.Machine
end

