-- ==== Sys2Proof/Laws/Alerts.lean ====
section
/-!
SUPPORT. Runs of alerts: what raising one does to the ring, that marking raises none, and how runs join.
-/

namespace Sys2Proof.Machine

open Sys2Proof

/-- Raising an alert leaves the Mirror Writer as that alert leaves it. -/
theorem State.raise_mirror (s : State) (kind : AlertKind) (bay : Option BayNo) (tag : Option Tag) :
    (s.raise kind bay tag).mirror =
      s.mirror.takes { kind := kind, bay := bay, tag := tag, time := s.clock.depotSeconds } := by
  unfold State.raise MirrorWriter.takes
  cases h : s.mirror.overflow <;> by_cases u : (s.mirror.producer - s.mirror.consumer).val < 63 <;>
    simp [h, u, State.storeAlert, State.loseAlert, MirrorWriter.unconsumed]

/-- An alert changes the ring and the dirty set alone. -/
theorem MirrorWriter.takes_onlyRing (m : MirrorWriter) (a : Alert) : OnlyRing m (m.takes a) := by
  unfold OnlyRing MirrorWriter.takes
  split <;> rfl

/-- A change of the ring alone, and then another, is one. -/
theorem OnlyRing.trans {m n k : MirrorWriter} (h : OnlyRing m n) (g : OnlyRing n k) : OnlyRing m k := by
  unfold OnlyRing at *
  rw [g, h]

/-- A change of the dirty set alone is one of the ring alone. -/
theorem OnlyDirty.onlyRing {m n : MirrorWriter} (h : OnlyDirty m n) : OnlyRing m n := by
  unfold OnlyDirty at h
  unfold OnlyRing
  rw [h]

/-- Marking changes the dirty set alone. -/
theorem State.mark_onlyDirty (s : State) (r : RecordId) : OnlyDirty s.mirror (s.mark r).mirror := rfl

/-- What is dirty stays so as an alert comes. -/
theorem MirrorWriter.takes_dirty (m : MirrorWriter) (a : Alert) (r : RecordId) (h : m.dirty.has r = true) :
    (m.takes a).dirty.has r = true := by
  unfold MirrorWriter.takes
  split
  · simp [DirtySet.has_mark, h]
  · dsimp only
    split <;> simp [DirtySet.has_mark, h]

/-- Two Mirror Writers with one ring, the second with every record dirty that the first has. -/
def SameRing (m n : MirrorWriter) : Prop :=
  n.alerts = m.alerts ∧ n.producer = m.producer ∧ n.consumer = m.consumer ∧ n.overflow = m.overflow ∧
  n.lostCount = m.lostCount ∧ ∀ r, m.dirty.has r = true → n.dirty.has r = true

theorem SameRing.refl (m : MirrorWriter) : SameRing m m := ⟨rfl, rfl, rfl, rfl, rfl, fun _ h => h⟩

theorem SameRing.trans {m n k : MirrorWriter} (h : SameRing m n) (g : SameRing n k) : SameRing m k := by
  obtain ⟨h1, h2, h3, h4, h5, h6⟩ := h
  obtain ⟨g1, g2, g3, g4, g5, g6⟩ := g
  exact ⟨g1.trans h1, g2.trans h2, g3.trans h3, g4.trans h4, g5.trans h5, fun r q => g6 r (h6 r q)⟩

/-- Marking more records dirty leaves the ring. -/
theorem State.mark_sameRing (s : State) (r : RecordId) : SameRing s.mirror (s.mark r).mirror :=
  ⟨rfl, rfl, rfl, rfl, rfl, fun q h => by simp [State.mark, DirtySet.has_mark, h]⟩

/-- An alert leaves one ring of one ring. -/
theorem SameRing.takes {m n : MirrorWriter} (h : SameRing m n) (a : Alert) : SameRing (m.takes a) (n.takes a) := by
  obtain ⟨h1, h2, h3, h4, h5, h6⟩ := h
  unfold MirrorWriter.takes
  rw [h2, h3, h4]
  by_cases c : m.overflow = false ∧ (m.producer - m.consumer).val < 63
  · rw [if_pos c, if_pos c]
    refine ⟨by rw [h1], rfl, rfl, rfl, h5, fun r q => ?_⟩
    simp only [DirtySet.has_mark, Bool.or_eq_true, decide_eq_true_eq] at q ⊢
    exact q.imp (fun p => p.imp (h6 r) id) id
  · rw [if_neg c, if_neg c]
    refine ⟨h1, rfl, rfl, rfl, by rw [h5], fun r q => ?_⟩
    by_cases o : m.overflow = true
    · simp only [if_pos o] at q ⊢
      exact h6 r q
    · simp only [if_neg o] at q ⊢
      simp only [DirtySet.has_mark, Bool.or_eq_true, decide_eq_true_eq] at q ⊢
      exact q.imp (h6 r) id

/-- A run of alerts leaves one ring of one ring. -/
theorem SameRing.takesAll {m n : MirrorWriter} (h : SameRing m n) (l : List Alert) :
    SameRing (l.foldl MirrorWriter.takes m) (l.foldl MirrorWriter.takes n) := by
  induction l generalizing m n with
  | nil => exact h
  | cons a l ih => exact ih (h.takes a)

/-- No alert moves the consumer index. -/
theorem MirrorWriter.takesAll_consumer (l : List Alert) (m : MirrorWriter) :
    (l.foldl MirrorWriter.takes m).consumer = m.consumer := by
  induction l generalizing m with
  | nil => rfl
  | cons a l ih =>
    rw [List.foldl_cons, ih]
    unfold MirrorWriter.takes
    split <;> rfl

/-- A run of alerts is raised exactly where it leaves one ring. -/
theorem raisesAll_iff (m n : MirrorWriter) (l : List Alert) :
    RaisesAll m n l ↔ SameRing (l.foldl MirrorWriter.takes m) n := by
  unfold RaisesAll SameRing
  rw [MirrorWriter.takesAll_consumer]

/-- No alert is raised where the ring stays. -/
theorem SameRing.raisesAll {m n : MirrorWriter} (h : SameRing m n) : RaisesAll m n [] := (raisesAll_iff m n []).2 h

/-- Raising an alert raises that alert. -/
theorem State.raise_raisesAll (s : State) (kind : AlertKind) (bay : Option BayNo) (tag : Option Tag) :
    RaisesAll s.mirror (s.raise kind bay tag).mirror
      [{ kind := kind, bay := bay, tag := tag, time := s.clock.depotSeconds }] := by
  rw [raisesAll_iff, State.raise_mirror]
  exact SameRing.refl _

/-- One run of alerts and then another is the run of both. -/
theorem RaisesAll.append {m n k : MirrorWriter} {l r : List Alert} (h : RaisesAll m n l) (g : RaisesAll n k r) :
    RaisesAll m k (l ++ r) := by
  rw [raisesAll_iff] at *
  rw [List.foldl_append]
  exact (h.takesAll r).trans g

/-- A run that changes the ring alone, then marks alone: the run. -/
theorem RaisesAll.thenSame {m n k : MirrorWriter} {l : List Alert} (h : RaisesAll m n l) (g : SameRing n k) :
    RaisesAll m k l := by
  rw [raisesAll_iff] at *
  exact h.trans g

end Sys2Proof.Machine
end

