-- ==== Sys2Proof/Laws/Book.lean ====
section
/-!
SUPPORT. The blocks of the part that each operation of Machine/Book.lean leaves as they were: one lemma for each operation.
-/

namespace Sys2Proof.Machine

open Sys2Proof

@[simp] theorem State.updBooking_keeps (s : State) (t : Tag) (f : Booking → Booking) :
    (s.updBooking t f).roster = s.roster ∧
    (s.updBooking t f).bays = s.bays ∧
    (s.updBooking t f).lanes = s.lanes ∧
    (s.updBooking t f).meter = s.meter ∧
    (s.updBooking t f).allocator = s.allocator ∧
    (s.updBooking t f).clock = s.clock ∧
    (s.updBooking t f).path = s.path ∧
    (s.updBooking t f).intake = s.intake ∧
    (s.updBooking t f).config = s.config ∧
    (s.updBooking t f).memory = s.memory ∧
    (s.updBooking t f).draws = s.draws ∧
    (s.updBooking t f).pending = s.pending ∧
    (s.updBooking t f).mirror.backlog = s.mirror.backlog := by
  simp [State.updBooking]

@[simp] theorem State.moveBooking_keeps (s : State) (t : Tag) (st : BookingState) :
    (s.moveBooking t st).roster = s.roster ∧
    (s.moveBooking t st).bays = s.bays ∧
    (s.moveBooking t st).lanes = s.lanes ∧
    (s.moveBooking t st).meter = s.meter ∧
    (s.moveBooking t st).allocator = s.allocator ∧
    (s.moveBooking t st).clock = s.clock ∧
    (s.moveBooking t st).path = s.path ∧
    (s.moveBooking t st).intake = s.intake ∧
    (s.moveBooking t st).config = s.config ∧
    (s.moveBooking t st).memory = s.memory ∧
    (s.moveBooking t st).draws = s.draws ∧
    (s.moveBooking t st).pending = s.pending ∧
    (s.moveBooking t st).mirror.backlog = s.mirror.backlog := by
  simp [State.moveBooking]

@[simp] theorem State.bindClaim_keeps (s : State) (t : Tag) (b : BayNo) (energy : Nat) :
    (s.bindClaim t b energy).roster = s.roster ∧
    (s.bindClaim t b energy).bays = s.bays ∧
    (s.bindClaim t b energy).lanes = s.lanes ∧
    (s.bindClaim t b energy).meter = s.meter ∧
    (s.bindClaim t b energy).allocator = s.allocator ∧
    (s.bindClaim t b energy).clock = s.clock ∧
    (s.bindClaim t b energy).path = s.path ∧
    (s.bindClaim t b energy).intake = s.intake ∧
    (s.bindClaim t b energy).config = s.config ∧
    (s.bindClaim t b energy).memory = s.memory ∧
    (s.bindClaim t b energy).draws = s.draws ∧
    (s.bindClaim t b energy).pending = s.pending ∧
    (s.bindClaim t b energy).mirror.backlog = s.mirror.backlog := by
  unfold State.bindClaim
  try dsimp only
  (repeat' split) <;> simp

@[simp] theorem State.energyClaim_keeps (s : State) (t : Tag) (b : BayNo) (energy : Nat) :
    (s.energyClaim t b energy).roster = s.roster ∧
    (s.energyClaim t b energy).bays = s.bays ∧
    (s.energyClaim t b energy).lanes = s.lanes ∧
    (s.energyClaim t b energy).meter = s.meter ∧
    (s.energyClaim t b energy).allocator = s.allocator ∧
    (s.energyClaim t b energy).clock = s.clock ∧
    (s.energyClaim t b energy).path = s.path ∧
    (s.energyClaim t b energy).intake = s.intake ∧
    (s.energyClaim t b energy).config = s.config ∧
    (s.energyClaim t b energy).memory = s.memory ∧
    (s.energyClaim t b energy).draws = s.draws ∧
    (s.energyClaim t b energy).pending = s.pending ∧
    (s.energyClaim t b energy).mirror.backlog = s.mirror.backlog := by
  unfold State.energyClaim
  try dsimp only
  (repeat' split) <;> simp

@[simp] theorem State.judgeDeparture_keeps (s : State) (t : Tag) (b : BayNo) (finalEnergy : Nat) :
    (s.judgeDeparture t b finalEnergy).roster = s.roster ∧
    (s.judgeDeparture t b finalEnergy).bays = s.bays ∧
    (s.judgeDeparture t b finalEnergy).lanes = s.lanes ∧
    (s.judgeDeparture t b finalEnergy).meter = s.meter ∧
    (s.judgeDeparture t b finalEnergy).allocator = s.allocator ∧
    (s.judgeDeparture t b finalEnergy).clock = s.clock ∧
    (s.judgeDeparture t b finalEnergy).path = s.path ∧
    (s.judgeDeparture t b finalEnergy).intake = s.intake ∧
    (s.judgeDeparture t b finalEnergy).config = s.config ∧
    (s.judgeDeparture t b finalEnergy).memory = s.memory ∧
    (s.judgeDeparture t b finalEnergy).draws = s.draws ∧
    (s.judgeDeparture t b finalEnergy).pending = s.pending ∧
    (s.judgeDeparture t b finalEnergy).mirror.backlog = s.mirror.backlog := by
  unfold State.judgeDeparture
  try dsimp only
  (repeat' split) <;> simp

@[simp] theorem State.closingClaim_keeps (s : State) (t : Tag) :
    (s.closingClaim t).roster = s.roster ∧
    (s.closingClaim t).bays = s.bays ∧
    (s.closingClaim t).lanes = s.lanes ∧
    (s.closingClaim t).meter = s.meter ∧
    (s.closingClaim t).allocator = s.allocator ∧
    (s.closingClaim t).clock = s.clock ∧
    (s.closingClaim t).path = s.path ∧
    (s.closingClaim t).intake = s.intake ∧
    (s.closingClaim t).config = s.config ∧
    (s.closingClaim t).memory = s.memory ∧
    (s.closingClaim t).draws = s.draws ∧
    (s.closingClaim t).pending = s.pending ∧
    (s.closingClaim t).mirror.backlog = s.mirror.backlog := by
  unfold State.closingClaim
  try dsimp only
  (repeat' split) <;> simp

@[simp] theorem State.addDelivered_keeps (s : State) (t : Tag) (delta : Nat) :
    (s.addDelivered t delta).roster = s.roster ∧
    (s.addDelivered t delta).bays = s.bays ∧
    (s.addDelivered t delta).lanes = s.lanes ∧
    (s.addDelivered t delta).meter = s.meter ∧
    (s.addDelivered t delta).allocator = s.allocator ∧
    (s.addDelivered t delta).clock = s.clock ∧
    (s.addDelivered t delta).path = s.path ∧
    (s.addDelivered t delta).intake = s.intake ∧
    (s.addDelivered t delta).config = s.config ∧
    (s.addDelivered t delta).memory = s.memory ∧
    (s.addDelivered t delta).draws = s.draws ∧
    (s.addDelivered t delta).pending = s.pending ∧
    (s.addDelivered t delta).mirror.backlog = s.mirror.backlog := by
  simp [State.addDelivered]

@[simp] theorem State.scanAlert_keeps (s : State) (b : Booking) (j : ScanResult) :
    (s.scanAlert b j).roster = s.roster ∧
    (s.scanAlert b j).book = s.book ∧
    (s.scanAlert b j).bays = s.bays ∧
    (s.scanAlert b j).lanes = s.lanes ∧
    (s.scanAlert b j).meter = s.meter ∧
    (s.scanAlert b j).allocator = s.allocator ∧
    (s.scanAlert b j).clock = s.clock ∧
    (s.scanAlert b j).path = s.path ∧
    (s.scanAlert b j).intake = s.intake ∧
    (s.scanAlert b j).config = s.config ∧
    (s.scanAlert b j).memory = s.memory ∧
    (s.scanAlert b j).draws = s.draws ∧
    (s.scanAlert b j).pending = s.pending ∧
    (s.scanAlert b j).mirror.backlog = s.mirror.backlog := by
  unfold State.scanAlert
  try dsimp only
  (repeat' split) <;> simp

@[simp] theorem State.bookScan_keeps (s : State) :
    (s.bookScan).roster = s.roster ∧
    (s.bookScan).bays = s.bays ∧
    (s.bookScan).lanes = s.lanes ∧
    (s.bookScan).meter = s.meter ∧
    (s.bookScan).allocator = s.allocator ∧
    (s.bookScan).clock = s.clock ∧
    (s.bookScan).path = s.path ∧
    (s.bookScan).intake = s.intake ∧
    (s.bookScan).config = s.config ∧
    (s.bookScan).memory = s.memory ∧
    (s.bookScan).draws = s.draws ∧
    (s.bookScan).pending = s.pending ∧
    (s.bookScan).mirror.backlog = s.mirror.backlog := by
  have fold : ∀ (l : List Booking) (a : State) (j : Booking → ScanResult) {β : Type} (f : State → β),
      (∀ (x : State) b r, f (x.scanAlert b r) = f x) → f (l.foldl (fun acc b => acc.scanAlert b (j b)) a) = f a := by
    intro l a j β f h
    induction l generalizing a with
    | nil => rfl
    | cons b rest ih => rw [List.foldl_cons, ih, h]
  unfold State.bookScan
  dsimp only
  refine ⟨?_, ?_, ?_, ?_, ?_, ?_, ?_, ?_, ?_, ?_, ?_, ?_, ?_⟩
  · exact (fold _ _ _ State.roster (by simp)).trans (by simp)
  · exact (fold _ _ _ State.bays (by simp)).trans (by simp)
  · exact (fold _ _ _ State.lanes (by simp)).trans (by simp)
  · exact (fold _ _ _ State.meter (by simp)).trans (by simp)
  · exact (fold _ _ _ State.allocator (by simp)).trans (by simp)
  · exact (fold _ _ _ State.clock (by simp)).trans (by simp)
  · exact (fold _ _ _ State.path (by simp)).trans (by simp)
  · exact (fold _ _ _ State.intake (by simp)).trans (by simp)
  · exact (fold _ _ _ State.config (by simp)).trans (by simp)
  · exact (fold _ _ _ State.memory (by simp)).trans (by simp)
  · exact (fold _ _ _ State.draws (by simp)).trans (by simp)
  · exact (fold _ _ _ State.pending (by simp)).trans (by simp)
  · exact (fold _ _ _ (fun x => x.mirror.backlog) (by simp)).trans (by simp)

@[simp] theorem State.defaultCheck_keeps (s : State) (t : Tag) :
    (s.defaultCheck t).roster = s.roster ∧
    (s.defaultCheck t).bays = s.bays ∧
    (s.defaultCheck t).lanes = s.lanes ∧
    (s.defaultCheck t).meter = s.meter ∧
    (s.defaultCheck t).allocator = s.allocator ∧
    (s.defaultCheck t).clock = s.clock ∧
    (s.defaultCheck t).path = s.path ∧
    (s.defaultCheck t).intake = s.intake ∧
    (s.defaultCheck t).config = s.config ∧
    (s.defaultCheck t).memory = s.memory ∧
    (s.defaultCheck t).draws = s.draws ∧
    (s.defaultCheck t).pending = s.pending ∧
    (s.defaultCheck t).mirror.backlog = s.mirror.backlog := by
  unfold State.defaultCheck
  try dsimp only
  (repeat' split) <;> simp

end Sys2Proof.Machine
end

