-- ==== Sys2Proof/Laws/Roster.lean ====
section
/-!
SUPPORT. The blocks of the part that each operation of Machine/Roster.lean leaves as they were: one lemma for each operation.
-/

namespace Sys2Proof.Machine

open Sys2Proof

@[simp] theorem State.rosterHandOver_keeps (s : State) (t : Tag) (b : BayNo) (energy : Nat) :
    (s.rosterHandOver t b energy).book = s.book ∧
    (s.rosterHandOver t b energy).bays = s.bays ∧
    (s.rosterHandOver t b energy).lanes = s.lanes ∧
    (s.rosterHandOver t b energy).meter = s.meter ∧
    (s.rosterHandOver t b energy).allocator = s.allocator ∧
    (s.rosterHandOver t b energy).clock = s.clock ∧
    (s.rosterHandOver t b energy).path = s.path ∧
    (s.rosterHandOver t b energy).intake = s.intake ∧
    (s.rosterHandOver t b energy).config = s.config ∧
    (s.rosterHandOver t b energy).memory = s.memory ∧
    (s.rosterHandOver t b energy).draws = s.draws ∧
    (s.rosterHandOver t b energy).pending = s.pending ∧
    (s.rosterHandOver t b energy).mirror.backlog = s.mirror.backlog := by
  unfold State.rosterHandOver
  try dsimp only
  (repeat' split) <;> simp

@[simp] theorem State.bindAt_keeps (s : State) (i : RosterIx) (t : Tag) (b : BayNo) (energy : Nat) :
    (s.bindAt i t b energy).book = s.book ∧
    (s.bindAt i t b energy).bays = s.bays ∧
    (s.bindAt i t b energy).lanes = s.lanes ∧
    (s.bindAt i t b energy).meter = s.meter ∧
    (s.bindAt i t b energy).allocator = s.allocator ∧
    (s.bindAt i t b energy).clock = s.clock ∧
    (s.bindAt i t b energy).path = s.path ∧
    (s.bindAt i t b energy).intake = s.intake ∧
    (s.bindAt i t b energy).config = s.config ∧
    (s.bindAt i t b energy).memory = s.memory ∧
    (s.bindAt i t b energy).draws = s.draws ∧
    (s.bindAt i t b energy).pending = s.pending ∧
    (s.bindAt i t b energy).mirror.backlog = s.mirror.backlog := by
  simp [State.bindAt]

@[simp] theorem State.migrateAway_keeps (s : State) (p : BayNo) :
    (s.migrateAway p).roster = s.roster ∧
    (s.migrateAway p).book = s.book ∧
    (s.migrateAway p).lanes = s.lanes ∧
    (s.migrateAway p).meter = s.meter ∧
    (s.migrateAway p).allocator = s.allocator ∧
    (s.migrateAway p).clock = s.clock ∧
    (s.migrateAway p).path = s.path ∧
    (s.migrateAway p).intake = s.intake ∧
    (s.migrateAway p).config = s.config ∧
    (s.migrateAway p).memory = s.memory ∧
    (s.migrateAway p).draws = s.draws ∧
    (s.migrateAway p).pending = s.pending ∧
    (s.migrateAway p).mirror.backlog = s.mirror.backlog := by
  simp [State.migrateAway]

@[simp] theorem State.clashAway_keeps (s : State) (p : BayNo) (t : Tag) :
    (s.clashAway p t).roster = s.roster ∧
    (s.clashAway p t).book = s.book ∧
    (s.clashAway p t).lanes = s.lanes ∧
    (s.clashAway p t).meter = s.meter ∧
    (s.clashAway p t).allocator = s.allocator ∧
    (s.clashAway p t).clock = s.clock ∧
    (s.clashAway p t).path = s.path ∧
    (s.clashAway p t).intake = s.intake ∧
    (s.clashAway p t).config = s.config ∧
    (s.clashAway p t).memory = s.memory ∧
    (s.clashAway p t).draws = s.draws ∧
    (s.clashAway p t).pending = s.pending ∧
    (s.clashAway p t).mirror.backlog = s.mirror.backlog := by
  unfold State.clashAway
  try dsimp only
  (repeat' split) <;> simp

@[simp] theorem State.rebind_keeps (s : State) (i : RosterIx) (p : BayNo) (t : Tag) (b : BayNo) (energy : Nat) :
    ((s.rebind i p t b energy).2).book = s.book ∧
    ((s.rebind i p t b energy).2).lanes = s.lanes ∧
    ((s.rebind i p t b energy).2).meter = s.meter ∧
    ((s.rebind i p t b energy).2).allocator = s.allocator ∧
    ((s.rebind i p t b energy).2).clock = s.clock ∧
    ((s.rebind i p t b energy).2).path = s.path ∧
    ((s.rebind i p t b energy).2).intake = s.intake ∧
    ((s.rebind i p t b energy).2).config = s.config ∧
    ((s.rebind i p t b energy).2).memory = s.memory ∧
    ((s.rebind i p t b energy).2).draws = s.draws ∧
    ((s.rebind i p t b energy).2).pending = s.pending ∧
    ((s.rebind i p t b energy).2).mirror.backlog = s.mirror.backlog := by
  unfold State.rebind
  try dsimp only
  (repeat' split) <;> simp

@[simp] theorem State.learn_keeps (s : State) (t : Tag) (b : BayNo) (energy : Nat) :
    ((s.learn t b energy).2).bays = s.bays ∧
    ((s.learn t b energy).2).lanes = s.lanes ∧
    ((s.learn t b energy).2).meter = s.meter ∧
    ((s.learn t b energy).2).allocator = s.allocator ∧
    ((s.learn t b energy).2).clock = s.clock ∧
    ((s.learn t b energy).2).path = s.path ∧
    ((s.learn t b energy).2).intake = s.intake ∧
    ((s.learn t b energy).2).config = s.config ∧
    ((s.learn t b energy).2).memory = s.memory ∧
    ((s.learn t b energy).2).draws = s.draws ∧
    ((s.learn t b energy).2).pending = s.pending ∧
    ((s.learn t b energy).2).mirror.backlog = s.mirror.backlog := by
  unfold State.learn
  try dsimp only
  (repeat' split) <;> simp

@[simp] theorem State.bindRequest_keeps (s : State) (t : Tag) (b : BayNo) (energy : Nat) :
    ((s.bindRequest t b energy).2).lanes = s.lanes ∧
    ((s.bindRequest t b energy).2).meter = s.meter ∧
    ((s.bindRequest t b energy).2).allocator = s.allocator ∧
    ((s.bindRequest t b energy).2).clock = s.clock ∧
    ((s.bindRequest t b energy).2).path = s.path ∧
    ((s.bindRequest t b energy).2).intake = s.intake ∧
    ((s.bindRequest t b energy).2).config = s.config ∧
    ((s.bindRequest t b energy).2).memory = s.memory ∧
    ((s.bindRequest t b energy).2).draws = s.draws ∧
    ((s.bindRequest t b energy).2).pending = s.pending ∧
    ((s.bindRequest t b energy).2).mirror.backlog = s.mirror.backlog := by
  unfold State.bindRequest
  try dsimp only
  (repeat' split) <;> simp

@[simp] theorem State.rosterRelease_keeps (s : State) (t : Tag) (b : BayNo) :
    (s.rosterRelease t b).book = s.book ∧
    (s.rosterRelease t b).bays = s.bays ∧
    (s.rosterRelease t b).lanes = s.lanes ∧
    (s.rosterRelease t b).meter = s.meter ∧
    (s.rosterRelease t b).allocator = s.allocator ∧
    (s.rosterRelease t b).clock = s.clock ∧
    (s.rosterRelease t b).path = s.path ∧
    (s.rosterRelease t b).intake = s.intake ∧
    (s.rosterRelease t b).config = s.config ∧
    (s.rosterRelease t b).memory = s.memory ∧
    (s.rosterRelease t b).draws = s.draws ∧
    (s.rosterRelease t b).pending = s.pending ∧
    (s.rosterRelease t b).mirror.backlog = s.mirror.backlog := by
  unfold State.rosterRelease
  try dsimp only
  (repeat' split) <;> simp

@[simp] theorem State.agingStep_keeps (s : State) :
    (s.agingStep).book = s.book ∧
    (s.agingStep).bays = s.bays ∧
    (s.agingStep).lanes = s.lanes ∧
    (s.agingStep).meter = s.meter ∧
    (s.agingStep).allocator = s.allocator ∧
    (s.agingStep).clock = s.clock ∧
    (s.agingStep).path = s.path ∧
    (s.agingStep).intake = s.intake ∧
    (s.agingStep).config = s.config ∧
    (s.agingStep).memory = s.memory ∧
    (s.agingStep).draws = s.draws ∧
    (s.agingStep).pending = s.pending ∧
    (s.agingStep).mirror.backlog = s.mirror.backlog := by
  unfold State.agingStep
  try dsimp only
  (repeat' split) <;> simp

end Sys2Proof.Machine
end

