-- ==== Sys2Proof/Laws/Bays.lean ====
section
/-!
SUPPORT. The blocks of the part that each operation of Machine/Bays.lean leaves as they were: one lemma for each operation.
-/

namespace Sys2Proof.Machine

open Sys2Proof

@[simp] theorem State.linkUpdate_keeps (s : State) (b : BayNo) (x : Exchange) (r : Report) :
    (s.linkUpdate b x r).roster = s.roster ∧
    (s.linkUpdate b x r).book = s.book ∧
    (s.linkUpdate b x r).lanes = s.lanes ∧
    (s.linkUpdate b x r).meter = s.meter ∧
    (s.linkUpdate b x r).allocator = s.allocator ∧
    (s.linkUpdate b x r).clock = s.clock ∧
    (s.linkUpdate b x r).path = s.path ∧
    (s.linkUpdate b x r).intake = s.intake ∧
    (s.linkUpdate b x r).config = s.config ∧
    (s.linkUpdate b x r).memory = s.memory ∧
    (s.linkUpdate b x r).draws = s.draws ∧
    (s.linkUpdate b x r).pending = s.pending ∧
    (s.linkUpdate b x r).mirror.backlog = s.mirror.backlog := by
  simp [State.linkUpdate]

@[simp] theorem State.addDeliveredTotal_keeps (s : State) (delta : Nat) :
    (s.addDeliveredTotal delta).roster = s.roster ∧
    (s.addDeliveredTotal delta).book = s.book ∧
    (s.addDeliveredTotal delta).bays = s.bays ∧
    (s.addDeliveredTotal delta).lanes = s.lanes ∧
    (s.addDeliveredTotal delta).meter = s.meter ∧
    (s.addDeliveredTotal delta).clock = s.clock ∧
    (s.addDeliveredTotal delta).mirror = s.mirror ∧
    (s.addDeliveredTotal delta).path = s.path ∧
    (s.addDeliveredTotal delta).intake = s.intake ∧
    (s.addDeliveredTotal delta).config = s.config ∧
    (s.addDeliveredTotal delta).memory = s.memory ∧
    (s.addDeliveredTotal delta).draws = s.draws ∧
    (s.addDeliveredTotal delta).pending = s.pending ∧
    (s.addDeliveredTotal delta).mirror.backlog = s.mirror.backlog := by
  simp [State.addDeliveredTotal]

@[simp] theorem State.countDelta_keeps (s : State) (held : Option Tag) (delta : Nat) :
    (s.countDelta held delta).roster = s.roster ∧
    (s.countDelta held delta).bays = s.bays ∧
    (s.countDelta held delta).lanes = s.lanes ∧
    (s.countDelta held delta).meter = s.meter ∧
    (s.countDelta held delta).clock = s.clock ∧
    (s.countDelta held delta).path = s.path ∧
    (s.countDelta held delta).intake = s.intake ∧
    (s.countDelta held delta).config = s.config ∧
    (s.countDelta held delta).memory = s.memory ∧
    (s.countDelta held delta).draws = s.draws ∧
    (s.countDelta held delta).pending = s.pending ∧
    (s.countDelta held delta).mirror.backlog = s.mirror.backlog := by
  unfold State.countDelta
  try dsimp only
  (repeat' split) <;> simp

@[simp] theorem State.meterAccount_keeps (s : State) (b : BayNo) (held : Option Tag) (m : Nat) :
    (s.meterAccount b held m).roster = s.roster ∧
    (s.meterAccount b held m).lanes = s.lanes ∧
    (s.meterAccount b held m).meter = s.meter ∧
    (s.meterAccount b held m).clock = s.clock ∧
    (s.meterAccount b held m).path = s.path ∧
    (s.meterAccount b held m).intake = s.intake ∧
    (s.meterAccount b held m).config = s.config ∧
    (s.meterAccount b held m).memory = s.memory ∧
    (s.meterAccount b held m).draws = s.draws ∧
    (s.meterAccount b held m).pending = s.pending ∧
    (s.meterAccount b held m).mirror.backlog = s.mirror.backlog := by
  unfold State.meterAccount
  try dsimp only
  (repeat' split) <;> simp

@[simp] theorem State.moveByAnswer_keeps (s : State) (b : BayNo) (t : Tag) (a : RosterAnswer) :
    (s.moveByAnswer b t a).roster = s.roster ∧
    (s.moveByAnswer b t a).book = s.book ∧
    (s.moveByAnswer b t a).lanes = s.lanes ∧
    (s.moveByAnswer b t a).meter = s.meter ∧
    (s.moveByAnswer b t a).allocator = s.allocator ∧
    (s.moveByAnswer b t a).clock = s.clock ∧
    (s.moveByAnswer b t a).path = s.path ∧
    (s.moveByAnswer b t a).intake = s.intake ∧
    (s.moveByAnswer b t a).config = s.config ∧
    (s.moveByAnswer b t a).memory = s.memory ∧
    (s.moveByAnswer b t a).draws = s.draws ∧
    (s.moveByAnswer b t a).pending = s.pending ∧
    (s.moveByAnswer b t a).mirror.backlog = s.mirror.backlog := by
  unfold State.moveByAnswer
  try dsimp only
  (repeat' split) <;> simp

@[simp] theorem State.bindBay_keeps (s : State) (b : BayNo) (t : Tag) (energy : Nat) :
    ((s.bindBay b t energy).2).lanes = s.lanes ∧
    ((s.bindBay b t energy).2).meter = s.meter ∧
    ((s.bindBay b t energy).2).allocator = s.allocator ∧
    ((s.bindBay b t energy).2).clock = s.clock ∧
    ((s.bindBay b t energy).2).path = s.path ∧
    ((s.bindBay b t energy).2).intake = s.intake ∧
    ((s.bindBay b t energy).2).config = s.config ∧
    ((s.bindBay b t energy).2).memory = s.memory ∧
    ((s.bindBay b t energy).2).draws = s.draws ∧
    ((s.bindBay b t energy).2).pending = s.pending ∧
    ((s.bindBay b t energy).2).mirror.backlog = s.mirror.backlog := by
  unfold State.bindBay
  try dsimp only
  simp

@[simp] theorem State.plugIn_keeps (s : State) (b : BayNo) (t : Tag) (energy : Nat) :
    (s.plugIn b t energy).lanes = s.lanes ∧
    (s.plugIn b t energy).meter = s.meter ∧
    (s.plugIn b t energy).allocator = s.allocator ∧
    (s.plugIn b t energy).clock = s.clock ∧
    (s.plugIn b t energy).path = s.path ∧
    (s.plugIn b t energy).intake = s.intake ∧
    (s.plugIn b t energy).config = s.config ∧
    (s.plugIn b t energy).memory = s.memory ∧
    (s.plugIn b t energy).draws = s.draws ∧
    (s.plugIn b t energy).pending = s.pending ∧
    (s.plugIn b t energy).mirror.backlog = s.mirror.backlog := by
  unfold State.plugIn
  try dsimp only
  simp

@[simp] theorem State.retryLearning_keeps (s : State) (b : BayNo) (t : Tag) (energy : Nat) :
    (s.retryLearning b t energy).lanes = s.lanes ∧
    (s.retryLearning b t energy).meter = s.meter ∧
    (s.retryLearning b t energy).allocator = s.allocator ∧
    (s.retryLearning b t energy).clock = s.clock ∧
    (s.retryLearning b t energy).path = s.path ∧
    (s.retryLearning b t energy).intake = s.intake ∧
    (s.retryLearning b t energy).config = s.config ∧
    (s.retryLearning b t energy).memory = s.memory ∧
    (s.retryLearning b t energy).draws = s.draws ∧
    (s.retryLearning b t energy).pending = s.pending ∧
    (s.retryLearning b t energy).mirror.backlog = s.mirror.backlog := by
  unfold State.retryLearning
  try dsimp only
  (repeat' split) <;> simp

@[simp] theorem State.unbind_keeps (s : State) (b : BayNo) (t : Tag) :
    (s.unbind b t).book = s.book ∧
    (s.unbind b t).lanes = s.lanes ∧
    (s.unbind b t).meter = s.meter ∧
    (s.unbind b t).allocator = s.allocator ∧
    (s.unbind b t).clock = s.clock ∧
    (s.unbind b t).path = s.path ∧
    (s.unbind b t).intake = s.intake ∧
    (s.unbind b t).config = s.config ∧
    (s.unbind b t).memory = s.memory ∧
    (s.unbind b t).draws = s.draws ∧
    (s.unbind b t).pending = s.pending ∧
    (s.unbind b t).mirror.backlog = s.mirror.backlog := by
  simp [State.unbind]

@[simp] theorem State.releaseBay_keeps (s : State) (b : BayNo) (t : Tag) :
    (s.releaseBay b t).lanes = s.lanes ∧
    (s.releaseBay b t).meter = s.meter ∧
    (s.releaseBay b t).allocator = s.allocator ∧
    (s.releaseBay b t).clock = s.clock ∧
    (s.releaseBay b t).path = s.path ∧
    (s.releaseBay b t).intake = s.intake ∧
    (s.releaseBay b t).config = s.config ∧
    (s.releaseBay b t).memory = s.memory ∧
    (s.releaseBay b t).draws = s.draws ∧
    (s.releaseBay b t).pending = s.pending ∧
    (s.releaseBay b t).mirror.backlog = s.mirror.backlog := by
  simp [State.releaseBay]

@[simp] theorem State.exchangeVan_keeps (s : State) (b : BayNo) (old t : Tag) (energy : Nat) :
    (s.exchangeVan b old t energy).lanes = s.lanes ∧
    (s.exchangeVan b old t energy).meter = s.meter ∧
    (s.exchangeVan b old t energy).allocator = s.allocator ∧
    (s.exchangeVan b old t energy).clock = s.clock ∧
    (s.exchangeVan b old t energy).path = s.path ∧
    (s.exchangeVan b old t energy).intake = s.intake ∧
    (s.exchangeVan b old t energy).config = s.config ∧
    (s.exchangeVan b old t energy).memory = s.memory ∧
    (s.exchangeVan b old t energy).draws = s.draws ∧
    (s.exchangeVan b old t energy).pending = s.pending ∧
    (s.exchangeVan b old t energy).mirror.backlog = s.mirror.backlog := by
  unfold State.exchangeVan
  try dsimp only
  simp

@[simp] theorem State.unplugBay_keeps (s : State) (b : BayNo) :
    (s.unplugBay b).lanes = s.lanes ∧
    (s.unplugBay b).meter = s.meter ∧
    (s.unplugBay b).allocator = s.allocator ∧
    (s.unplugBay b).clock = s.clock ∧
    (s.unplugBay b).path = s.path ∧
    (s.unplugBay b).intake = s.intake ∧
    (s.unplugBay b).config = s.config ∧
    (s.unplugBay b).memory = s.memory ∧
    (s.unplugBay b).draws = s.draws ∧
    (s.unplugBay b).pending = s.pending ∧
    (s.unplugBay b).mirror.backlog = s.mirror.backlog := by
  unfold State.unplugBay
  try dsimp only
  (repeat' split) <;> simp

@[simp] theorem State.agreeAgain_keeps (s : State) (b : BayNo) :
    (s.agreeAgain b).roster = s.roster ∧
    (s.agreeAgain b).book = s.book ∧
    (s.agreeAgain b).lanes = s.lanes ∧
    (s.agreeAgain b).meter = s.meter ∧
    (s.agreeAgain b).allocator = s.allocator ∧
    (s.agreeAgain b).clock = s.clock ∧
    (s.agreeAgain b).path = s.path ∧
    (s.agreeAgain b).intake = s.intake ∧
    (s.agreeAgain b).config = s.config ∧
    (s.agreeAgain b).memory = s.memory ∧
    (s.agreeAgain b).draws = s.draws ∧
    (s.agreeAgain b).pending = s.pending ∧
    (s.agreeAgain b).mirror.backlog = s.mirror.backlog := by
  simp [State.agreeAgain]

@[simp] theorem State.raiseForBay_keeps (s : State) (b : BayNo) (kind : AlertKind) :
    (s.raiseForBay b kind).roster = s.roster ∧
    (s.raiseForBay b kind).book = s.book ∧
    (s.raiseForBay b kind).bays = s.bays ∧
    (s.raiseForBay b kind).lanes = s.lanes ∧
    (s.raiseForBay b kind).meter = s.meter ∧
    (s.raiseForBay b kind).allocator = s.allocator ∧
    (s.raiseForBay b kind).clock = s.clock ∧
    (s.raiseForBay b kind).path = s.path ∧
    (s.raiseForBay b kind).intake = s.intake ∧
    (s.raiseForBay b kind).config = s.config ∧
    (s.raiseForBay b kind).memory = s.memory ∧
    (s.raiseForBay b kind).draws = s.draws ∧
    (s.raiseForBay b kind).pending = s.pending ∧
    (s.raiseForBay b kind).mirror.backlog = s.mirror.backlog := by
  simp [State.raiseForBay]

@[simp] theorem State.settle_keeps (s : State) (b : BayNo) (van post : ModeSet) :
    (s.settle b van post).roster = s.roster ∧
    (s.settle b van post).book = s.book ∧
    (s.settle b van post).lanes = s.lanes ∧
    (s.settle b van post).meter = s.meter ∧
    (s.settle b van post).allocator = s.allocator ∧
    (s.settle b van post).clock = s.clock ∧
    (s.settle b van post).path = s.path ∧
    (s.settle b van post).intake = s.intake ∧
    (s.settle b van post).config = s.config ∧
    (s.settle b van post).memory = s.memory ∧
    (s.settle b van post).draws = s.draws ∧
    (s.settle b van post).pending = s.pending ∧
    (s.settle b van post).mirror.backlog = s.mirror.backlog := by
  unfold State.settle
  try dsimp only
  (repeat' split) <;> simp

@[simp] theorem State.agree_keeps (s : State) (b : BayNo) (x : Exchange) (r : Report) :
    (s.agree b x r).roster = s.roster ∧
    (s.agree b x r).book = s.book ∧
    (s.agree b x r).lanes = s.lanes ∧
    (s.agree b x r).meter = s.meter ∧
    (s.agree b x r).allocator = s.allocator ∧
    (s.agree b x r).clock = s.clock ∧
    (s.agree b x r).path = s.path ∧
    (s.agree b x r).intake = s.intake ∧
    (s.agree b x r).config = s.config ∧
    (s.agree b x r).memory = s.memory ∧
    (s.agree b x r).draws = s.draws ∧
    (s.agree b x r).pending = s.pending ∧
    (s.agree b x r).mirror.backlog = s.mirror.backlog := by
  unfold State.agree
  try dsimp only
  (repeat' split) <;> simp

@[simp] theorem State.countEmptyRound_keeps (s : State) (b : BayNo) :
    (s.countEmptyRound b).roster = s.roster ∧
    (s.countEmptyRound b).book = s.book ∧
    (s.countEmptyRound b).lanes = s.lanes ∧
    (s.countEmptyRound b).meter = s.meter ∧
    (s.countEmptyRound b).allocator = s.allocator ∧
    (s.countEmptyRound b).clock = s.clock ∧
    (s.countEmptyRound b).path = s.path ∧
    (s.countEmptyRound b).intake = s.intake ∧
    (s.countEmptyRound b).config = s.config ∧
    (s.countEmptyRound b).memory = s.memory ∧
    (s.countEmptyRound b).draws = s.draws ∧
    (s.countEmptyRound b).pending = s.pending ∧
    (s.countEmptyRound b).mirror.backlog = s.mirror.backlog := by
  simp [State.countEmptyRound]

@[simp] theorem State.enterFaulted_keeps (s : State) (b : BayNo) :
    (s.enterFaulted b).roster = s.roster ∧
    (s.enterFaulted b).book = s.book ∧
    (s.enterFaulted b).lanes = s.lanes ∧
    (s.enterFaulted b).meter = s.meter ∧
    (s.enterFaulted b).allocator = s.allocator ∧
    (s.enterFaulted b).clock = s.clock ∧
    (s.enterFaulted b).path = s.path ∧
    (s.enterFaulted b).intake = s.intake ∧
    (s.enterFaulted b).config = s.config ∧
    (s.enterFaulted b).memory = s.memory ∧
    (s.enterFaulted b).draws = s.draws ∧
    (s.enterFaulted b).pending = s.pending ∧
    (s.enterFaulted b).mirror.backlog = s.mirror.backlog := by
  simp [State.enterFaulted]

@[simp] theorem State.refuseStep_keeps (s : State) (b : BayNo) :
    (s.refuseStep b).roster = s.roster ∧
    (s.refuseStep b).book = s.book ∧
    (s.refuseStep b).lanes = s.lanes ∧
    (s.refuseStep b).meter = s.meter ∧
    (s.refuseStep b).allocator = s.allocator ∧
    (s.refuseStep b).clock = s.clock ∧
    (s.refuseStep b).path = s.path ∧
    (s.refuseStep b).intake = s.intake ∧
    (s.refuseStep b).config = s.config ∧
    (s.refuseStep b).memory = s.memory ∧
    (s.refuseStep b).draws = s.draws ∧
    (s.refuseStep b).pending = s.pending ∧
    (s.refuseStep b).mirror.backlog = s.mirror.backlog := by
  unfold State.refuseStep
  try dsimp only
  (repeat' split) <;> simp

@[simp] theorem State.stepEmpty_keeps (s : State) (b : BayNo) (r : Report) :
    (s.stepEmpty b r).lanes = s.lanes ∧
    (s.stepEmpty b r).meter = s.meter ∧
    (s.stepEmpty b r).allocator = s.allocator ∧
    (s.stepEmpty b r).clock = s.clock ∧
    (s.stepEmpty b r).path = s.path ∧
    (s.stepEmpty b r).intake = s.intake ∧
    (s.stepEmpty b r).config = s.config ∧
    (s.stepEmpty b r).memory = s.memory ∧
    (s.stepEmpty b r).draws = s.draws ∧
    (s.stepEmpty b r).pending = s.pending ∧
    (s.stepEmpty b r).mirror.backlog = s.mirror.backlog := by
  unfold State.stepEmpty
  try dsimp only
  (repeat' split) <;> simp

@[simp] theorem State.stepDozing_keeps (s : State) (b : BayNo) (r : Report) :
    (s.stepDozing b r).lanes = s.lanes ∧
    (s.stepDozing b r).meter = s.meter ∧
    (s.stepDozing b r).allocator = s.allocator ∧
    (s.stepDozing b r).clock = s.clock ∧
    (s.stepDozing b r).path = s.path ∧
    (s.stepDozing b r).intake = s.intake ∧
    (s.stepDozing b r).config = s.config ∧
    (s.stepDozing b r).memory = s.memory ∧
    (s.stepDozing b r).draws = s.draws ∧
    (s.stepDozing b r).pending = s.pending ∧
    (s.stepDozing b r).mirror.backlog = s.mirror.backlog := by
  unfold State.stepDozing
  try dsimp only
  (repeat' split) <;> simp

@[simp] theorem State.stepAgreeing_keeps (s : State) (b : BayNo) (x : Exchange) (r : Report) :
    (s.stepAgreeing b x r).lanes = s.lanes ∧
    (s.stepAgreeing b x r).meter = s.meter ∧
    (s.stepAgreeing b x r).allocator = s.allocator ∧
    (s.stepAgreeing b x r).clock = s.clock ∧
    (s.stepAgreeing b x r).path = s.path ∧
    (s.stepAgreeing b x r).intake = s.intake ∧
    (s.stepAgreeing b x r).config = s.config ∧
    (s.stepAgreeing b x r).memory = s.memory ∧
    (s.stepAgreeing b x r).draws = s.draws ∧
    (s.stepAgreeing b x r).pending = s.pending ∧
    (s.stepAgreeing b x r).mirror.backlog = s.mirror.backlog := by
  unfold State.stepAgreeing
  try dsimp only
  (repeat' split) <;> simp

@[simp] theorem State.stepSettled_keeps (s : State) (b : BayNo) (r : Report) :
    (s.stepSettled b r).lanes = s.lanes ∧
    (s.stepSettled b r).meter = s.meter ∧
    (s.stepSettled b r).allocator = s.allocator ∧
    (s.stepSettled b r).clock = s.clock ∧
    (s.stepSettled b r).path = s.path ∧
    (s.stepSettled b r).intake = s.intake ∧
    (s.stepSettled b r).config = s.config ∧
    (s.stepSettled b r).memory = s.memory ∧
    (s.stepSettled b r).draws = s.draws ∧
    (s.stepSettled b r).pending = s.pending ∧
    (s.stepSettled b r).mirror.backlog = s.mirror.backlog := by
  unfold State.stepSettled
  try dsimp only
  (repeat' split) <;> simp

@[simp] theorem State.stepUnlisted_keeps (s : State) (b : BayNo) (r : Report) :
    (s.stepUnlisted b r).lanes = s.lanes ∧
    (s.stepUnlisted b r).meter = s.meter ∧
    (s.stepUnlisted b r).allocator = s.allocator ∧
    (s.stepUnlisted b r).clock = s.clock ∧
    (s.stepUnlisted b r).path = s.path ∧
    (s.stepUnlisted b r).intake = s.intake ∧
    (s.stepUnlisted b r).config = s.config ∧
    (s.stepUnlisted b r).memory = s.memory ∧
    (s.stepUnlisted b r).draws = s.draws ∧
    (s.stepUnlisted b r).pending = s.pending ∧
    (s.stepUnlisted b r).mirror.backlog = s.mirror.backlog := by
  unfold State.stepUnlisted
  try dsimp only
  (repeat' split) <;> simp

@[simp] theorem State.stepReturn_keeps (s : State) (b : BayNo) (r : Report) :
    (s.stepReturn b r).lanes = s.lanes ∧
    (s.stepReturn b r).meter = s.meter ∧
    (s.stepReturn b r).allocator = s.allocator ∧
    (s.stepReturn b r).clock = s.clock ∧
    (s.stepReturn b r).path = s.path ∧
    (s.stepReturn b r).intake = s.intake ∧
    (s.stepReturn b r).config = s.config ∧
    (s.stepReturn b r).memory = s.memory ∧
    (s.stepReturn b r).draws = s.draws ∧
    (s.stepReturn b r).pending = s.pending ∧
    (s.stepReturn b r).mirror.backlog = s.mirror.backlog := by
  unfold State.stepReturn
  try dsimp only
  (repeat' split) <;> simp

@[simp] theorem State.stepFaulted_keeps (s : State) (b : BayNo) (r : Report) :
    (s.stepFaulted b r).lanes = s.lanes ∧
    (s.stepFaulted b r).meter = s.meter ∧
    (s.stepFaulted b r).allocator = s.allocator ∧
    (s.stepFaulted b r).clock = s.clock ∧
    (s.stepFaulted b r).path = s.path ∧
    (s.stepFaulted b r).intake = s.intake ∧
    (s.stepFaulted b r).config = s.config ∧
    (s.stepFaulted b r).memory = s.memory ∧
    (s.stepFaulted b r).draws = s.draws ∧
    (s.stepFaulted b r).pending = s.pending ∧
    (s.stepFaulted b r).mirror.backlog = s.mirror.backlog := by
  unfold State.stepFaulted
  try dsimp only
  (repeat' split) <;> simp

@[simp] theorem State.stepLost_keeps (s : State) (b : BayNo) (r : Report) :
    (s.stepLost b r).lanes = s.lanes ∧
    (s.stepLost b r).meter = s.meter ∧
    (s.stepLost b r).allocator = s.allocator ∧
    (s.stepLost b r).clock = s.clock ∧
    (s.stepLost b r).path = s.path ∧
    (s.stepLost b r).intake = s.intake ∧
    (s.stepLost b r).config = s.config ∧
    (s.stepLost b r).memory = s.memory ∧
    (s.stepLost b r).draws = s.draws ∧
    (s.stepLost b r).pending = s.pending ∧
    (s.stepLost b r).mirror.backlog = s.mirror.backlog := by
  unfold State.stepLost
  try dsimp only
  simp

@[simp] theorem State.stepClosing_keeps (s : State) (b : BayNo) (r : Report) :
    (s.stepClosing b r).roster = s.roster ∧
    (s.stepClosing b r).book = s.book ∧
    (s.stepClosing b r).lanes = s.lanes ∧
    (s.stepClosing b r).meter = s.meter ∧
    (s.stepClosing b r).allocator = s.allocator ∧
    (s.stepClosing b r).clock = s.clock ∧
    (s.stepClosing b r).path = s.path ∧
    (s.stepClosing b r).intake = s.intake ∧
    (s.stepClosing b r).config = s.config ∧
    (s.stepClosing b r).memory = s.memory ∧
    (s.stepClosing b r).draws = s.draws ∧
    (s.stepClosing b r).pending = s.pending ∧
    (s.stepClosing b r).mirror.backlog = s.mirror.backlog := by
  unfold State.stepClosing
  try dsimp only
  (repeat' split) <;> simp

@[simp] theorem State.stateStep_keeps (s : State) (b : BayNo) (x : Exchange) (r : Report) :
    (s.stateStep b x r).lanes = s.lanes ∧
    (s.stateStep b x r).meter = s.meter ∧
    (s.stateStep b x r).allocator = s.allocator ∧
    (s.stateStep b x r).clock = s.clock ∧
    (s.stateStep b x r).path = s.path ∧
    (s.stateStep b x r).intake = s.intake ∧
    (s.stateStep b x r).config = s.config ∧
    (s.stateStep b x r).memory = s.memory ∧
    (s.stateStep b x r).draws = s.draws ∧
    (s.stateStep b x r).pending = s.pending ∧
    (s.stateStep b x r).mirror.backlog = s.mirror.backlog := by
  unfold State.stateStep
  try dsimp only
  (repeat' split) <;> simp

@[simp] theorem State.handOver_keeps (s : State) (b : BayNo) (r : Report) :
    (s.handOver b r).book = s.book ∧
    (s.handOver b r).bays = s.bays ∧
    (s.handOver b r).lanes = s.lanes ∧
    (s.handOver b r).meter = s.meter ∧
    (s.handOver b r).allocator = s.allocator ∧
    (s.handOver b r).clock = s.clock ∧
    (s.handOver b r).path = s.path ∧
    (s.handOver b r).intake = s.intake ∧
    (s.handOver b r).config = s.config ∧
    (s.handOver b r).memory = s.memory ∧
    (s.handOver b r).draws = s.draws ∧
    (s.handOver b r).pending = s.pending ∧
    (s.handOver b r).mirror.backlog = s.mirror.backlog := by
  unfold State.handOver
  try dsimp only
  (repeat' split) <;> simp

@[simp] theorem State.bookHandOver_keeps (s : State) (b : BayNo) (held : Option Tag) (r : Report) :
    (s.bookHandOver b held r).roster = s.roster ∧
    (s.bookHandOver b held r).bays = s.bays ∧
    (s.bookHandOver b held r).lanes = s.lanes ∧
    (s.bookHandOver b held r).meter = s.meter ∧
    (s.bookHandOver b held r).allocator = s.allocator ∧
    (s.bookHandOver b held r).clock = s.clock ∧
    (s.bookHandOver b held r).path = s.path ∧
    (s.bookHandOver b held r).intake = s.intake ∧
    (s.bookHandOver b held r).config = s.config ∧
    (s.bookHandOver b held r).memory = s.memory ∧
    (s.bookHandOver b held r).draws = s.draws ∧
    (s.bookHandOver b held r).pending = s.pending ∧
    (s.bookHandOver b held r).mirror.backlog = s.mirror.backlog := by
  unfold State.bookHandOver
  try dsimp only
  (repeat' split) <;> simp

@[simp] theorem State.defaultBookingCheck_keeps (s : State) (b : BayNo) :
    (s.defaultBookingCheck b).roster = s.roster ∧
    (s.defaultBookingCheck b).bays = s.bays ∧
    (s.defaultBookingCheck b).lanes = s.lanes ∧
    (s.defaultBookingCheck b).meter = s.meter ∧
    (s.defaultBookingCheck b).allocator = s.allocator ∧
    (s.defaultBookingCheck b).clock = s.clock ∧
    (s.defaultBookingCheck b).path = s.path ∧
    (s.defaultBookingCheck b).intake = s.intake ∧
    (s.defaultBookingCheck b).config = s.config ∧
    (s.defaultBookingCheck b).memory = s.memory ∧
    (s.defaultBookingCheck b).draws = s.draws ∧
    (s.defaultBookingCheck b).pending = s.pending ∧
    (s.defaultBookingCheck b).mirror.backlog = s.mirror.backlog := by
  unfold State.defaultBookingCheck
  try dsimp only
  (repeat' split) <;> simp

@[simp] theorem State.goodReport_keeps (s : State) (b : BayNo) (x : Exchange) (r : Report) :
    (s.goodReport b x r).lanes = s.lanes ∧
    (s.goodReport b x r).meter = s.meter ∧
    (s.goodReport b x r).clock = s.clock ∧
    (s.goodReport b x r).path = s.path ∧
    (s.goodReport b x r).intake = s.intake ∧
    (s.goodReport b x r).config = s.config ∧
    (s.goodReport b x r).memory = s.memory ∧
    (s.goodReport b x r).draws = s.draws ∧
    (s.goodReport b x r).pending = s.pending ∧
    (s.goodReport b x r).mirror.backlog = s.mirror.backlog := by
  unfold State.goodReport
  try dsimp only
  simp

@[simp] theorem State.enterLost_keeps (s : State) (b : BayNo) (kind : FailureKind) :
    (s.enterLost b kind).roster = s.roster ∧
    (s.enterLost b kind).book = s.book ∧
    (s.enterLost b kind).lanes = s.lanes ∧
    (s.enterLost b kind).meter = s.meter ∧
    (s.enterLost b kind).allocator = s.allocator ∧
    (s.enterLost b kind).clock = s.clock ∧
    (s.enterLost b kind).path = s.path ∧
    (s.enterLost b kind).intake = s.intake ∧
    (s.enterLost b kind).config = s.config ∧
    (s.enterLost b kind).memory = s.memory ∧
    (s.enterLost b kind).draws = s.draws ∧
    (s.enterLost b kind).pending = s.pending ∧
    (s.enterLost b kind).mirror.backlog = s.mirror.backlog := by
  simp [State.enterLost]

@[simp] theorem State.failedExchange_keeps (s : State) (b : BayNo) (kind : FailureKind) :
    (s.failedExchange b kind).roster = s.roster ∧
    (s.failedExchange b kind).book = s.book ∧
    (s.failedExchange b kind).lanes = s.lanes ∧
    (s.failedExchange b kind).meter = s.meter ∧
    (s.failedExchange b kind).allocator = s.allocator ∧
    (s.failedExchange b kind).clock = s.clock ∧
    (s.failedExchange b kind).path = s.path ∧
    (s.failedExchange b kind).intake = s.intake ∧
    (s.failedExchange b kind).config = s.config ∧
    (s.failedExchange b kind).memory = s.memory ∧
    (s.failedExchange b kind).draws = s.draws ∧
    (s.failedExchange b kind).pending = s.pending ∧
    (s.failedExchange b kind).mirror.backlog = s.mirror.backlog := by
  unfold State.failedExchange
  try dsimp only
  (repeat' split) <;> simp

@[simp] theorem State.enableBay_keeps (s : State) (b : BayNo) :
    (s.enableBay b).roster = s.roster ∧
    (s.enableBay b).book = s.book ∧
    (s.enableBay b).lanes = s.lanes ∧
    (s.enableBay b).meter = s.meter ∧
    (s.enableBay b).allocator = s.allocator ∧
    (s.enableBay b).clock = s.clock ∧
    (s.enableBay b).path = s.path ∧
    (s.enableBay b).intake = s.intake ∧
    (s.enableBay b).config = s.config ∧
    (s.enableBay b).memory = s.memory ∧
    (s.enableBay b).draws = s.draws ∧
    (s.enableBay b).pending = s.pending ∧
    (s.enableBay b).mirror.backlog = s.mirror.backlog := by
  unfold State.enableBay
  try dsimp only
  (repeat' split) <;> simp

@[simp] theorem State.releaseForClosing_keeps (s : State) (b : BayNo) :
    (s.releaseForClosing b).lanes = s.lanes ∧
    (s.releaseForClosing b).meter = s.meter ∧
    (s.releaseForClosing b).allocator = s.allocator ∧
    (s.releaseForClosing b).clock = s.clock ∧
    (s.releaseForClosing b).path = s.path ∧
    (s.releaseForClosing b).intake = s.intake ∧
    (s.releaseForClosing b).config = s.config ∧
    (s.releaseForClosing b).memory = s.memory ∧
    (s.releaseForClosing b).draws = s.draws ∧
    (s.releaseForClosing b).pending = s.pending ∧
    (s.releaseForClosing b).mirror.backlog = s.mirror.backlog := by
  unfold State.releaseForClosing
  try dsimp only
  (repeat' split) <;> simp

@[simp] theorem State.disableBay_keeps (s : State) (b : BayNo) :
    (s.disableBay b).lanes = s.lanes ∧
    (s.disableBay b).meter = s.meter ∧
    (s.disableBay b).allocator = s.allocator ∧
    (s.disableBay b).clock = s.clock ∧
    (s.disableBay b).path = s.path ∧
    (s.disableBay b).intake = s.intake ∧
    (s.disableBay b).config = s.config ∧
    (s.disableBay b).memory = s.memory ∧
    (s.disableBay b).draws = s.draws ∧
    (s.disableBay b).pending = s.pending ∧
    (s.disableBay b).mirror.backlog = s.mirror.backlog := by
  unfold State.disableBay
  try dsimp only
  (repeat' split) <;> simp

@[simp] theorem State.setCap_keeps (s : State) (cap : Nat) (b : BayNo) :
    (State.setCap cap s b).roster = s.roster ∧
    (State.setCap cap s b).book = s.book ∧
    (State.setCap cap s b).lanes = s.lanes ∧
    (State.setCap cap s b).meter = s.meter ∧
    (State.setCap cap s b).allocator = s.allocator ∧
    (State.setCap cap s b).clock = s.clock ∧
    (State.setCap cap s b).path = s.path ∧
    (State.setCap cap s b).intake = s.intake ∧
    (State.setCap cap s b).config = s.config ∧
    (State.setCap cap s b).memory = s.memory ∧
    (State.setCap cap s b).draws = s.draws ∧
    (State.setCap cap s b).pending = s.pending ∧
    (State.setCap cap s b).mirror.backlog = s.mirror.backlog := by
  simp [State.setCap]

@[simp] theorem State.setPermitted_keeps (s : State) (ms : ModeSet) (b : BayNo) :
    (State.setPermitted ms s b).roster = s.roster ∧
    (State.setPermitted ms s b).book = s.book ∧
    (State.setPermitted ms s b).lanes = s.lanes ∧
    (State.setPermitted ms s b).meter = s.meter ∧
    (State.setPermitted ms s b).allocator = s.allocator ∧
    (State.setPermitted ms s b).clock = s.clock ∧
    (State.setPermitted ms s b).path = s.path ∧
    (State.setPermitted ms s b).intake = s.intake ∧
    (State.setPermitted ms s b).config = s.config ∧
    (State.setPermitted ms s b).memory = s.memory ∧
    (State.setPermitted ms s b).draws = s.draws ∧
    (State.setPermitted ms s b).pending = s.pending ∧
    (State.setPermitted ms s b).mirror.backlog = s.mirror.backlog := by
  simp [State.setPermitted]

end Sys2Proof.Machine
end

