-- ==== Sys2Proof/Laws/Lanes.lean ====
section
/-!
SUPPORT. The blocks of the part that each operation of Machine/Lanes.lean leaves as they were: one lemma for each operation.
-/

namespace Sys2Proof.Machine

open Sys2Proof

@[simp] theorem State.formFrame_keeps (s : State) (l : LaneNo) (d : Drop) :
    (s.formFrame l d).roster = s.roster ∧
    (s.formFrame l d).book = s.book ∧
    (s.formFrame l d).meter = s.meter ∧
    (s.formFrame l d).allocator = s.allocator ∧
    (s.formFrame l d).clock = s.clock ∧
    (s.formFrame l d).path = s.path ∧
    (s.formFrame l d).intake = s.intake ∧
    (s.formFrame l d).config = s.config ∧
    (s.formFrame l d).memory = s.memory ∧
    (s.formFrame l d).draws = s.draws ∧
    (s.formFrame l d).pending = s.pending ∧
    (s.formFrame l d).mirror.backlog = s.mirror.backlog := by
  unfold State.formFrame
  try dsimp only
  simp

@[simp] theorem State.visit_keeps (s : State) (l : LaneNo) (start : Nat) :
    (s.visit l start).roster = s.roster ∧
    (s.visit l start).book = s.book ∧
    (s.visit l start).meter = s.meter ∧
    (s.visit l start).allocator = s.allocator ∧
    (s.visit l start).clock = s.clock ∧
    (s.visit l start).path = s.path ∧
    (s.visit l start).intake = s.intake ∧
    (s.visit l start).config = s.config ∧
    (s.visit l start).memory = s.memory ∧
    (s.visit l start).draws = s.draws ∧
    (s.visit l start).pending = s.pending ∧
    (s.visit l start).mirror.backlog = s.mirror.backlog := by
  unfold State.visit
  try dsimp only
  (repeat' split) <;> simp

@[simp] theorem State.beginRound_keeps (s : State) (l : LaneNo) :
    (s.beginRound l).roster = s.roster ∧
    (s.beginRound l).book = s.book ∧
    (s.beginRound l).meter = s.meter ∧
    (s.beginRound l).allocator = s.allocator ∧
    (s.beginRound l).clock = s.clock ∧
    (s.beginRound l).path = s.path ∧
    (s.beginRound l).intake = s.intake ∧
    (s.beginRound l).config = s.config ∧
    (s.beginRound l).memory = s.memory ∧
    (s.beginRound l).draws = s.draws ∧
    (s.beginRound l).pending = s.pending ∧
    (s.beginRound l).mirror.backlog = s.mirror.backlog := by
  simp [State.beginRound]

@[simp] theorem State.missSlot_keeps (s : State) (b : BayNo) :
    (s.missSlot b).roster = s.roster ∧
    (s.missSlot b).book = s.book ∧
    (s.missSlot b).lanes = s.lanes ∧
    (s.missSlot b).meter = s.meter ∧
    (s.missSlot b).allocator = s.allocator ∧
    (s.missSlot b).clock = s.clock ∧
    (s.missSlot b).path = s.path ∧
    (s.missSlot b).intake = s.intake ∧
    (s.missSlot b).config = s.config ∧
    (s.missSlot b).memory = s.memory ∧
    (s.missSlot b).draws = s.draws ∧
    (s.missSlot b).pending = s.pending ∧
    (s.missSlot b).mirror.backlog = s.mirror.backlog := by
  simp [State.missSlot]

@[simp] theorem State.overrunAlert_keeps (s : State) (l : LaneNo) (abandoned : Nat) :
    (s.overrunAlert l abandoned).roster = s.roster ∧
    (s.overrunAlert l abandoned).book = s.book ∧
    (s.overrunAlert l abandoned).bays = s.bays ∧
    (s.overrunAlert l abandoned).meter = s.meter ∧
    (s.overrunAlert l abandoned).allocator = s.allocator ∧
    (s.overrunAlert l abandoned).clock = s.clock ∧
    (s.overrunAlert l abandoned).path = s.path ∧
    (s.overrunAlert l abandoned).intake = s.intake ∧
    (s.overrunAlert l abandoned).config = s.config ∧
    (s.overrunAlert l abandoned).memory = s.memory ∧
    (s.overrunAlert l abandoned).draws = s.draws ∧
    (s.overrunAlert l abandoned).pending = s.pending ∧
    (s.overrunAlert l abandoned).mirror.backlog = s.mirror.backlog := by
  unfold State.overrunAlert
  try dsimp only
  (repeat' split) <;> simp

/-- A fold keeps what each of its steps keeps. -/
theorem foldl_keeps {α β : Type} (g : State → α → State) (f : State → β) (h : ∀ s a, f (g s a) = f s) :
    ∀ (l : List α) (s : State), f (l.foldl g s) = f s := by
  intro l
  induction l with
  | nil => intro s; rfl
  | cons a rest ih => intro s; rw [List.foldl_cons, ih, h]

@[simp] theorem State.takeOverrun_keeps (s : State) (l : LaneNo) :
    (s.takeOverrun l).roster = s.roster ∧
    (s.takeOverrun l).book = s.book ∧
    (s.takeOverrun l).meter = s.meter ∧
    (s.takeOverrun l).allocator = s.allocator ∧
    (s.takeOverrun l).clock = s.clock ∧
    (s.takeOverrun l).path = s.path ∧
    (s.takeOverrun l).intake = s.intake ∧
    (s.takeOverrun l).config = s.config ∧
    (s.takeOverrun l).memory = s.memory ∧
    (s.takeOverrun l).draws = s.draws ∧
    (s.takeOverrun l).pending = s.pending ∧
    (s.takeOverrun l).mirror.backlog = s.mirror.backlog := by
  unfold State.takeOverrun
  dsimp only
  refine ⟨?_, ?_, ?_, ?_, ?_, ?_, ?_, ?_, ?_, ?_, ?_, ?_⟩
  · simp [foldl_keeps (fun (acc : State) d => acc.missSlot (bayAt l d)) State.roster (by simp)]
  · simp [foldl_keeps (fun (acc : State) d => acc.missSlot (bayAt l d)) State.book (by simp)]
  · simp [foldl_keeps (fun (acc : State) d => acc.missSlot (bayAt l d)) State.meter (by simp)]
  · simp [foldl_keeps (fun (acc : State) d => acc.missSlot (bayAt l d)) State.allocator (by simp)]
  · simp [foldl_keeps (fun (acc : State) d => acc.missSlot (bayAt l d)) State.clock (by simp)]
  · simp [foldl_keeps (fun (acc : State) d => acc.missSlot (bayAt l d)) State.path (by simp)]
  · simp [foldl_keeps (fun (acc : State) d => acc.missSlot (bayAt l d)) State.intake (by simp)]
  · simp [foldl_keeps (fun (acc : State) d => acc.missSlot (bayAt l d)) State.config (by simp)]
  · simp [foldl_keeps (fun (acc : State) d => acc.missSlot (bayAt l d)) State.memory (by simp)]
  · simp [foldl_keeps (fun (acc : State) d => acc.missSlot (bayAt l d)) State.draws (by simp)]
  · simp [foldl_keeps (fun (acc : State) d => acc.missSlot (bayAt l d)) State.pending (by simp)]
  · simp [foldl_keeps (fun (acc : State) d => acc.missSlot (bayAt l d)) (fun x => x.mirror.backlog) (by simp)]

@[simp] theorem State.takeRoundStart_keeps (s : State) (l : LaneNo) :
    (s.takeRoundStart l).roster = s.roster ∧
    (s.takeRoundStart l).book = s.book ∧
    (s.takeRoundStart l).meter = s.meter ∧
    (s.takeRoundStart l).allocator = s.allocator ∧
    (s.takeRoundStart l).clock = s.clock ∧
    (s.takeRoundStart l).path = s.path ∧
    (s.takeRoundStart l).intake = s.intake ∧
    (s.takeRoundStart l).config = s.config ∧
    (s.takeRoundStart l).memory = s.memory ∧
    (s.takeRoundStart l).draws = s.draws ∧
    (s.takeRoundStart l).pending = s.pending ∧
    (s.takeRoundStart l).mirror.backlog = s.mirror.backlog := by
  unfold State.takeRoundStart
  try dsimp only
  (repeat' split) <;> simp

@[simp] theorem State.startRound_keeps (s : State) (l : LaneNo) :
    (s.startRound l).roster = s.roster ∧
    (s.startRound l).book = s.book ∧
    (s.startRound l).meter = s.meter ∧
    (s.startRound l).allocator = s.allocator ∧
    (s.startRound l).clock = s.clock ∧
    (s.startRound l).path = s.path ∧
    (s.startRound l).intake = s.intake ∧
    (s.startRound l).config = s.config ∧
    (s.startRound l).memory = s.memory ∧
    (s.startRound l).draws = s.draws ∧
    (s.startRound l).pending = s.pending ∧
    (s.startRound l).mirror.backlog = s.mirror.backlog := by
  unfold State.startRound
  try dsimp only
  (repeat' split) <;> simp

@[simp] theorem State.startRounds_keeps (s : State) :
    (s.startRounds).roster = s.roster ∧
    (s.startRounds).book = s.book ∧
    (s.startRounds).meter = s.meter ∧
    (s.startRounds).allocator = s.allocator ∧
    (s.startRounds).clock = s.clock ∧
    (s.startRounds).path = s.path ∧
    (s.startRounds).intake = s.intake ∧
    (s.startRounds).config = s.config ∧
    (s.startRounds).memory = s.memory ∧
    (s.startRounds).draws = s.draws ∧
    (s.startRounds).pending = s.pending ∧
    (s.startRounds).mirror.backlog = s.mirror.backlog := by
  have step : ∀ (acc : State) (l : LaneNo) {β : Type} (f : State → β), (∀ (x : State) k, f (x.startRound k) = f x) →
      f (if acc.laneInService l then acc.startRound l else acc) = f acc := by
    intro acc l β f h
    split
    · exact h acc l
    · rfl
  unfold State.startRounds
  refine ⟨?_, ?_, ?_, ?_, ?_, ?_, ?_, ?_, ?_, ?_, ?_, ?_⟩
  · exact foldl_keeps _ State.roster (fun a l => step a l _ (by simp)) _ _
  · exact foldl_keeps _ State.book (fun a l => step a l _ (by simp)) _ _
  · exact foldl_keeps _ State.meter (fun a l => step a l _ (by simp)) _ _
  · exact foldl_keeps _ State.allocator (fun a l => step a l _ (by simp)) _ _
  · exact foldl_keeps _ State.clock (fun a l => step a l _ (by simp)) _ _
  · exact foldl_keeps _ State.path (fun a l => step a l _ (by simp)) _ _
  · exact foldl_keeps _ State.intake (fun a l => step a l _ (by simp)) _ _
  · exact foldl_keeps _ State.config (fun a l => step a l _ (by simp)) _ _
  · exact foldl_keeps _ State.memory (fun a l => step a l _ (by simp)) _ _
  · exact foldl_keeps _ State.draws (fun a l => step a l _ (by simp)) _ _
  · exact foldl_keeps _ State.pending (fun a l => step a l _ (by simp)) _ _
  · exact foldl_keeps _ (fun x => x.mirror.backlog) (fun a l => step a l (fun x => x.mirror.backlog) (by simp)) _ _

@[simp] theorem State.handOutcome_keeps (s : State) (l : LaneNo) (x : Exchange) (o : ExchangeOutcome) :
    (s.handOutcome l x o).meter = s.meter ∧
    (s.handOutcome l x o).clock = s.clock ∧
    (s.handOutcome l x o).path = s.path ∧
    (s.handOutcome l x o).intake = s.intake ∧
    (s.handOutcome l x o).config = s.config ∧
    (s.handOutcome l x o).memory = s.memory ∧
    (s.handOutcome l x o).draws = s.draws ∧
    (s.handOutcome l x o).pending = s.pending ∧
    (s.handOutcome l x o).mirror.backlog = s.mirror.backlog := by
  unfold State.handOutcome
  try dsimp only
  (repeat' split) <;> simp

@[simp] theorem State.afterExchange_keeps (s : State) (l : LaneNo) :
    (s.afterExchange l).roster = s.roster ∧
    (s.afterExchange l).book = s.book ∧
    (s.afterExchange l).meter = s.meter ∧
    (s.afterExchange l).allocator = s.allocator ∧
    (s.afterExchange l).clock = s.clock ∧
    (s.afterExchange l).path = s.path ∧
    (s.afterExchange l).intake = s.intake ∧
    (s.afterExchange l).config = s.config ∧
    (s.afterExchange l).memory = s.memory ∧
    (s.afterExchange l).draws = s.draws ∧
    (s.afterExchange l).pending = s.pending ∧
    (s.afterExchange l).mirror.backlog = s.mirror.backlog := by
  unfold State.afterExchange
  try dsimp only
  (repeat' split) <;> simp

@[simp] theorem State.endExchange_keeps (s : State) (l : LaneNo) (x : Exchange) (r : Receiver) :
    (s.endExchange l x r).meter = s.meter ∧
    (s.endExchange l x r).clock = s.clock ∧
    (s.endExchange l x r).path = s.path ∧
    (s.endExchange l x r).intake = s.intake ∧
    (s.endExchange l x r).config = s.config ∧
    (s.endExchange l x r).memory = s.memory ∧
    (s.endExchange l x r).draws = s.draws ∧
    (s.endExchange l x r).pending = s.pending ∧
    (s.endExchange l x r).mirror.backlog = s.mirror.backlog := by
  simp [State.endExchange]

end Sys2Proof.Machine
end

