-- ==== Sys2Proof/Laws/Allocator.lean ====
section
/-!
SUPPORT. The blocks of the part that each operation of Machine/Allocator.lean leaves as they were: one lemma for each operation.
-/

namespace Sys2Proof.Machine

open Sys2Proof

@[simp] theorem State.armBays_keeps (s : State) :
    (s.armBays).roster = s.roster ∧
    (s.armBays).book = s.book ∧
    (s.armBays).lanes = s.lanes ∧
    (s.armBays).meter = s.meter ∧
    (s.armBays).allocator = s.allocator ∧
    (s.armBays).clock = s.clock ∧
    (s.armBays).path = s.path ∧
    (s.armBays).intake = s.intake ∧
    (s.armBays).config = s.config ∧
    (s.armBays).memory = s.memory ∧
    (s.armBays).draws = s.draws ∧
    (s.armBays).pending = s.pending ∧
    (s.armBays).mirror.backlog = s.mirror.backlog := by
  have step : ∀ (acc : State) (b : BayNo) {β : Type} (f : State → β), (∀ (x : State) k g, f (x.updBay k g) = f x) →
      f (if (acc.bay b).state.inService then acc.updBay b fun bay => { bay with armed := true } else acc) = f acc := by
    intro acc b β f h
    split
    · exact h acc b _
    · rfl
  unfold State.armBays
  refine ⟨?_, ?_, ?_, ?_, ?_, ?_, ?_, ?_, ?_, ?_, ?_, ?_, ?_⟩
  · exact foldl_keeps _ State.roster (fun a l => step a l _ (by simp)) _ _
  · exact foldl_keeps _ State.book (fun a l => step a l _ (by simp)) _ _
  · exact foldl_keeps _ State.lanes (fun a l => step a l _ (by simp)) _ _
  · exact foldl_keeps _ State.meter (fun a l => step a l _ (by simp)) _ _
  · exact foldl_keeps _ State.allocator (fun a l => step a l _ (by simp)) _ _
  · exact foldl_keeps _ State.clock (fun a l => step a l _ (by simp)) _ _
  · exact foldl_keeps _ State.path (fun a l => step a l _ (by simp)) _ _
  · exact foldl_keeps _ State.intake (fun a l => step a l _ (by simp)) _ _
  · exact foldl_keeps _ State.config (fun a l => step a l _ (by simp)) _ _
  · exact foldl_keeps _ State.memory (fun a l => step a l _ (by simp)) _ _
  · exact foldl_keeps _ State.draws (fun a l => step a l _ (by simp)) _ _
  · exact foldl_keeps _ State.pending (fun a l => step a l _ (by simp)) _ _
  · exact foldl_keeps _ (fun x => x.mirror.backlog) (fun a l => step a l (fun x => x.mirror.backlog) (by simp)) _ _

@[simp] theorem State.endStandDown_keeps (s : State) (cleared : Nat) :
    (s.endStandDown cleared).roster = s.roster ∧
    (s.endStandDown cleared).book = s.book ∧
    (s.endStandDown cleared).bays = s.bays ∧
    (s.endStandDown cleared).lanes = s.lanes ∧
    (s.endStandDown cleared).meter = s.meter ∧
    (s.endStandDown cleared).clock = s.clock ∧
    (s.endStandDown cleared).path = s.path ∧
    (s.endStandDown cleared).intake = s.intake ∧
    (s.endStandDown cleared).config = s.config ∧
    (s.endStandDown cleared).memory = s.memory ∧
    (s.endStandDown cleared).draws = s.draws ∧
    (s.endStandDown cleared).pending = s.pending ∧
    (s.endStandDown cleared).mirror.backlog = s.mirror.backlog := by
  unfold State.endStandDown
  try dsimp only
  (repeat' split) <;> simp

@[simp] theorem State.writeLog_keeps (s : State) (r : LogRecord) :
    (s.writeLog r).roster = s.roster ∧
    (s.writeLog r).book = s.book ∧
    (s.writeLog r).bays = s.bays ∧
    (s.writeLog r).lanes = s.lanes ∧
    (s.writeLog r).meter = s.meter ∧
    (s.writeLog r).allocator = s.allocator ∧
    (s.writeLog r).clock = s.clock ∧
    (s.writeLog r).path = s.path ∧
    (s.writeLog r).intake = s.intake ∧
    (s.writeLog r).config = s.config ∧
    (s.writeLog r).memory = s.memory ∧
    (s.writeLog r).draws = s.draws ∧
    (s.writeLog r).pending = s.pending ∧
    (s.writeLog r).mirror.backlog = s.mirror.backlog := by
  unfold State.writeLog
  dsimp only
  split <;> cases s.mirror.logArea <;> simp

@[simp] theorem State.handLog_keeps (s : State) (r : LogRecord) :
    (s.handLog r).roster = s.roster ∧
    (s.handLog r).book = s.book ∧
    (s.handLog r).bays = s.bays ∧
    (s.handLog r).lanes = s.lanes ∧
    (s.handLog r).meter = s.meter ∧
    (s.handLog r).clock = s.clock ∧
    (s.handLog r).path = s.path ∧
    (s.handLog r).intake = s.intake ∧
    (s.handLog r).config = s.config ∧
    (s.handLog r).memory = s.memory ∧
    (s.handLog r).draws = s.draws ∧
    (s.handLog r).pending = s.pending ∧
    (s.handLog r).mirror.backlog = s.mirror.backlog := by
  simp [State.handLog]

@[simp] theorem State.swapPlanes_keeps (s : State) (sn : Snapshot) :
    (s.swapPlanes sn).roster = s.roster ∧
    (s.swapPlanes sn).book = s.book ∧
    (s.swapPlanes sn).bays = s.bays ∧
    (s.swapPlanes sn).lanes = s.lanes ∧
    (s.swapPlanes sn).meter = s.meter ∧
    (s.swapPlanes sn).clock = s.clock ∧
    (s.swapPlanes sn).mirror = s.mirror ∧
    (s.swapPlanes sn).path = s.path ∧
    (s.swapPlanes sn).intake = s.intake ∧
    (s.swapPlanes sn).config = s.config ∧
    (s.swapPlanes sn).memory = s.memory ∧
    (s.swapPlanes sn).draws = s.draws ∧
    (s.swapPlanes sn).pending = s.pending ∧
    (s.swapPlanes sn).mirror.backlog = s.mirror.backlog := by
  simp [State.swapPlanes]

@[simp] theorem State.clearSkips_keeps (s : State) :
    (s.clearSkips).roster = s.roster ∧
    (s.clearSkips).book = s.book ∧
    (s.clearSkips).bays = s.bays ∧
    (s.clearSkips).lanes = s.lanes ∧
    (s.clearSkips).meter = s.meter ∧
    (s.clearSkips).clock = s.clock ∧
    (s.clearSkips).path = s.path ∧
    (s.clearSkips).intake = s.intake ∧
    (s.clearSkips).config = s.config ∧
    (s.clearSkips).memory = s.memory ∧
    (s.clearSkips).draws = s.draws ∧
    (s.clearSkips).pending = s.pending ∧
    (s.clearSkips).mirror.backlog = s.mirror.backlog := by
  simp [State.clearSkips]

@[simp] theorem State.publish_keeps (s : State) (sn : Snapshot) :
    (s.publish sn).roster = s.roster ∧
    (s.publish sn).book = s.book ∧
    (s.publish sn).meter = s.meter ∧
    (s.publish sn).clock = s.clock ∧
    (s.publish sn).path = s.path ∧
    (s.publish sn).intake = s.intake ∧
    (s.publish sn).config = s.config ∧
    (s.publish sn).memory = s.memory ∧
    (s.publish sn).draws = s.draws ∧
    (s.publish sn).pending = s.pending ∧
    (s.publish sn).mirror.backlog = s.mirror.backlog := by
  unfold State.publish
  try dsimp only
  simp

@[simp] theorem State.countSkip_keeps (s : State) (reason : SkipReason) :
    (s.countSkip reason).roster = s.roster ∧
    (s.countSkip reason).book = s.book ∧
    (s.countSkip reason).bays = s.bays ∧
    (s.countSkip reason).lanes = s.lanes ∧
    (s.countSkip reason).meter = s.meter ∧
    (s.countSkip reason).clock = s.clock ∧
    (s.countSkip reason).path = s.path ∧
    (s.countSkip reason).intake = s.intake ∧
    (s.countSkip reason).config = s.config ∧
    (s.countSkip reason).memory = s.memory ∧
    (s.countSkip reason).draws = s.draws ∧
    (s.countSkip reason).pending = s.pending ∧
    (s.countSkip reason).mirror.backlog = s.mirror.backlog := by
  unfold State.countSkip
  try dsimp only
  (repeat' split) <;> simp

@[simp] theorem State.skip_keeps (s : State) (reason : SkipReason) :
    (s.skip reason).roster = s.roster ∧
    (s.skip reason).book = s.book ∧
    (s.skip reason).meter = s.meter ∧
    (s.skip reason).clock = s.clock ∧
    (s.skip reason).path = s.path ∧
    (s.skip reason).intake = s.intake ∧
    (s.skip reason).config = s.config ∧
    (s.skip reason).memory = s.memory ∧
    (s.skip reason).draws = s.draws ∧
    (s.skip reason).pending = s.pending ∧
    (s.skip reason).mirror.backlog = s.mirror.backlog := by
  unfold State.skip
  try dsimp only
  simp

@[simp] theorem State.beginPass_keeps (s : State) (pFeed : Nat) :
    (s.beginPass pFeed).roster = s.roster ∧
    (s.beginPass pFeed).book = s.book ∧
    (s.beginPass pFeed).bays = s.bays ∧
    (s.beginPass pFeed).lanes = s.lanes ∧
    (s.beginPass pFeed).meter = s.meter ∧
    (s.beginPass pFeed).clock = s.clock ∧
    (s.beginPass pFeed).mirror = s.mirror ∧
    (s.beginPass pFeed).path = s.path ∧
    (s.beginPass pFeed).intake = s.intake ∧
    (s.beginPass pFeed).config = s.config ∧
    (s.beginPass pFeed).memory = s.memory ∧
    (s.beginPass pFeed).draws = s.draws ∧
    (s.beginPass pFeed).pending = s.pending ∧
    (s.beginPass pFeed).mirror.backlog = s.mirror.backlog := by
  simp [State.beginPass]

@[simp] theorem State.onSample_keeps (s : State) (pFeed : Nat) :
    (s.onSample pFeed).roster = s.roster ∧
    (s.onSample pFeed).book = s.book ∧
    (s.onSample pFeed).meter = s.meter ∧
    (s.onSample pFeed).clock = s.clock ∧
    (s.onSample pFeed).path = s.path ∧
    (s.onSample pFeed).intake = s.intake ∧
    (s.onSample pFeed).config = s.config ∧
    (s.onSample pFeed).memory = s.memory ∧
    (s.onSample pFeed).draws = s.draws ∧
    (s.onSample pFeed).pending = s.pending ∧
    (s.onSample pFeed).mirror.backlog = s.mirror.backlog := by
  unfold State.onSample
  try dsimp only
  (repeat' split) <;> simp

end Sys2Proof.Machine
end

