-- ==== Sys2Proof/Laws/Meter.lean ====
section
/-!
SUPPORT. The blocks of the part that each operation of Machine/Meter.lean leaves as they were: one lemma for each operation.
-/

namespace Sys2Proof.Machine

open Sys2Proof

@[simp] theorem State.updMeter_keeps (s : State) (f : FeederMeter → FeederMeter) :
    (s.updMeter f).roster = s.roster ∧
    (s.updMeter f).book = s.book ∧
    (s.updMeter f).bays = s.bays ∧
    (s.updMeter f).lanes = s.lanes ∧
    (s.updMeter f).allocator = s.allocator ∧
    (s.updMeter f).clock = s.clock ∧
    (s.updMeter f).mirror = s.mirror ∧
    (s.updMeter f).path = s.path ∧
    (s.updMeter f).intake = s.intake ∧
    (s.updMeter f).config = s.config ∧
    (s.updMeter f).memory = s.memory ∧
    (s.updMeter f).draws = s.draws ∧
    (s.updMeter f).pending = s.pending ∧
    (s.updMeter f).mirror.backlog = s.mirror.backlog := by
  simp [State.updMeter]

@[simp] theorem State.overloadOn_keeps (s : State) (pFeed : Nat) :
    (s.overloadOn pFeed).roster = s.roster ∧
    (s.overloadOn pFeed).book = s.book ∧
    (s.overloadOn pFeed).bays = s.bays ∧
    (s.overloadOn pFeed).lanes = s.lanes ∧
    (s.overloadOn pFeed).allocator = s.allocator ∧
    (s.overloadOn pFeed).clock = s.clock ∧
    (s.overloadOn pFeed).path = s.path ∧
    (s.overloadOn pFeed).intake = s.intake ∧
    (s.overloadOn pFeed).config = s.config ∧
    (s.overloadOn pFeed).memory = s.memory ∧
    (s.overloadOn pFeed).draws = s.draws ∧
    (s.overloadOn pFeed).pending = s.pending ∧
    (s.overloadOn pFeed).mirror.backlog = s.mirror.backlog := by
  simp [State.overloadOn]

@[simp] theorem State.overloadOff_keeps (s : State) (pFeed threshold : Nat) :
    (s.overloadOff pFeed threshold).roster = s.roster ∧
    (s.overloadOff pFeed threshold).book = s.book ∧
    (s.overloadOff pFeed threshold).bays = s.bays ∧
    (s.overloadOff pFeed threshold).lanes = s.lanes ∧
    (s.overloadOff pFeed threshold).allocator = s.allocator ∧
    (s.overloadOff pFeed threshold).clock = s.clock ∧
    (s.overloadOff pFeed threshold).path = s.path ∧
    (s.overloadOff pFeed threshold).intake = s.intake ∧
    (s.overloadOff pFeed threshold).config = s.config ∧
    (s.overloadOff pFeed threshold).memory = s.memory ∧
    (s.overloadOff pFeed threshold).draws = s.draws ∧
    (s.overloadOff pFeed threshold).pending = s.pending ∧
    (s.overloadOff pFeed threshold).mirror.backlog = s.mirror.backlog := by
  simp [State.overloadOff]

@[simp] theorem State.judgeOverload_keeps (s : State) (pFeed : Nat) :
    (s.judgeOverload pFeed).roster = s.roster ∧
    (s.judgeOverload pFeed).book = s.book ∧
    (s.judgeOverload pFeed).bays = s.bays ∧
    (s.judgeOverload pFeed).lanes = s.lanes ∧
    (s.judgeOverload pFeed).allocator = s.allocator ∧
    (s.judgeOverload pFeed).clock = s.clock ∧
    (s.judgeOverload pFeed).path = s.path ∧
    (s.judgeOverload pFeed).intake = s.intake ∧
    (s.judgeOverload pFeed).config = s.config ∧
    (s.judgeOverload pFeed).memory = s.memory ∧
    (s.judgeOverload pFeed).draws = s.draws ∧
    (s.judgeOverload pFeed).pending = s.pending ∧
    (s.judgeOverload pFeed).mirror.backlog = s.mirror.backlog := by
  unfold State.judgeOverload
  try dsimp only
  (repeat' split) <;> simp

@[simp] theorem State.validSample_keeps (s : State) (pFeed : Nat) (interval : Word) :
    (s.validSample pFeed interval).roster = s.roster ∧
    (s.validSample pFeed interval).book = s.book ∧
    (s.validSample pFeed interval).clock = s.clock ∧
    (s.validSample pFeed interval).path = s.path ∧
    (s.validSample pFeed interval).intake = s.intake ∧
    (s.validSample pFeed interval).config = s.config ∧
    (s.validSample pFeed interval).memory = s.memory ∧
    (s.validSample pFeed interval).draws = s.draws ∧
    (s.validSample pFeed interval).pending = s.pending ∧
    (s.validSample pFeed interval).mirror.backlog = s.mirror.backlog := by
  simp [State.validSample]

@[simp] theorem State.invalidSample_keeps (s : State) :
    (s.invalidSample).roster = s.roster ∧
    (s.invalidSample).book = s.book ∧
    (s.invalidSample).meter = s.meter ∧
    (s.invalidSample).clock = s.clock ∧
    (s.invalidSample).path = s.path ∧
    (s.invalidSample).intake = s.intake ∧
    (s.invalidSample).config = s.config ∧
    (s.invalidSample).memory = s.memory ∧
    (s.invalidSample).draws = s.draws ∧
    (s.invalidSample).pending = s.pending ∧
    (s.invalidSample).mirror.backlog = s.mirror.backlog := by
  unfold State.invalidSample
  try dsimp only
  (repeat' split) <;> simp

@[simp] theorem State.sampleDone_keeps (s : State) (codes : Option Codes) (interval : Word) :
    (s.sampleDone codes interval).roster = s.roster ∧
    (s.sampleDone codes interval).book = s.book ∧
    (s.sampleDone codes interval).clock = s.clock ∧
    (s.sampleDone codes interval).path = s.path ∧
    (s.sampleDone codes interval).intake = s.intake ∧
    (s.sampleDone codes interval).config = s.config ∧
    (s.sampleDone codes interval).memory = s.memory ∧
    (s.sampleDone codes interval).draws = s.draws ∧
    (s.sampleDone codes interval).pending = s.pending ∧
    (s.sampleDone codes interval).mirror.backlog = s.mirror.backlog := by
  unfold State.sampleDone
  try dsimp only
  (repeat' split) <;> simp

@[simp] theorem State.tickConversion_keeps (s : State) :
    (s.tickConversion).roster = s.roster ∧
    (s.tickConversion).book = s.book ∧
    (s.tickConversion).bays = s.bays ∧
    (s.tickConversion).lanes = s.lanes ∧
    (s.tickConversion).allocator = s.allocator ∧
    (s.tickConversion).clock = s.clock ∧
    (s.tickConversion).mirror = s.mirror ∧
    (s.tickConversion).path = s.path ∧
    (s.tickConversion).intake = s.intake ∧
    (s.tickConversion).config = s.config ∧
    (s.tickConversion).memory = s.memory ∧
    (s.tickConversion).draws = s.draws ∧
    (s.tickConversion).pending = s.pending ∧
    (s.tickConversion).mirror.backlog = s.mirror.backlog := by
  unfold State.tickConversion
  try dsimp only
  (repeat' split) <;> simp

@[simp] theorem State.curtailOff_keeps (s : State) :
    (s.curtailOff).roster = s.roster ∧
    (s.curtailOff).book = s.book ∧
    (s.curtailOff).bays = s.bays ∧
    (s.curtailOff).lanes = s.lanes ∧
    (s.curtailOff).allocator = s.allocator ∧
    (s.curtailOff).clock = s.clock ∧
    (s.curtailOff).path = s.path ∧
    (s.curtailOff).intake = s.intake ∧
    (s.curtailOff).config = s.config ∧
    (s.curtailOff).memory = s.memory ∧
    (s.curtailOff).draws = s.draws ∧
    (s.curtailOff).pending = s.pending ∧
    (s.curtailOff).mirror.backlog = s.mirror.backlog := by
  simp [State.curtailOff]

@[simp] theorem State.endTail_keeps (s : State) :
    (s.endTail).roster = s.roster ∧
    (s.endTail).book = s.book ∧
    (s.endTail).bays = s.bays ∧
    (s.endTail).lanes = s.lanes ∧
    (s.endTail).allocator = s.allocator ∧
    (s.endTail).clock = s.clock ∧
    (s.endTail).path = s.path ∧
    (s.endTail).intake = s.intake ∧
    (s.endTail).config = s.config ∧
    (s.endTail).memory = s.memory ∧
    (s.endTail).draws = s.draws ∧
    (s.endTail).pending = s.pending ∧
    (s.endTail).mirror.backlog = s.mirror.backlog := by
  unfold State.endTail
  try dsimp only
  (repeat' split) <;> simp

@[simp] theorem State.tickTail_keeps (s : State) :
    (s.tickTail).roster = s.roster ∧
    (s.tickTail).book = s.book ∧
    (s.tickTail).bays = s.bays ∧
    (s.tickTail).lanes = s.lanes ∧
    (s.tickTail).allocator = s.allocator ∧
    (s.tickTail).clock = s.clock ∧
    (s.tickTail).path = s.path ∧
    (s.tickTail).intake = s.intake ∧
    (s.tickTail).config = s.config ∧
    (s.tickTail).memory = s.memory ∧
    (s.tickTail).draws = s.draws ∧
    (s.tickTail).pending = s.pending ∧
    (s.tickTail).mirror.backlog = s.mirror.backlog := by
  unfold State.tickTail
  try dsimp only
  (repeat' split) <;> simp

@[simp] theorem State.meterTick_keeps (s : State) :
    (s.meterTick).roster = s.roster ∧
    (s.meterTick).book = s.book ∧
    (s.meterTick).bays = s.bays ∧
    (s.meterTick).lanes = s.lanes ∧
    (s.meterTick).allocator = s.allocator ∧
    (s.meterTick).clock = s.clock ∧
    (s.meterTick).path = s.path ∧
    (s.meterTick).intake = s.intake ∧
    (s.meterTick).config = s.config ∧
    (s.meterTick).memory = s.memory ∧
    (s.meterTick).draws = s.draws ∧
    (s.meterTick).pending = s.pending ∧
    (s.meterTick).mirror.backlog = s.mirror.backlog := by
  simp [State.meterTick]

@[simp] theorem State.tickSample_keeps (s : State) :
    (s.tickSample).roster = s.roster ∧
    (s.tickSample).book = s.book ∧
    (s.tickSample).clock = s.clock ∧
    (s.tickSample).path = s.path ∧
    (s.tickSample).intake = s.intake ∧
    (s.tickSample).config = s.config ∧
    (s.tickSample).memory = s.memory ∧
    (s.tickSample).draws = s.draws ∧
    (s.tickSample).pending = s.pending ∧
    (s.tickSample).mirror.backlog = s.mirror.backlog := by
  unfold State.tickSample
  try dsimp only
  (repeat' split) <;> simp

@[simp] theorem State.filterTo_keeps (s : State) (level : Level) :
    (s.filterTo level).roster = s.roster ∧
    (s.filterTo level).book = s.book ∧
    (s.filterTo level).bays = s.bays ∧
    (s.filterTo level).lanes = s.lanes ∧
    (s.filterTo level).allocator = s.allocator ∧
    (s.filterTo level).clock = s.clock ∧
    (s.filterTo level).mirror = s.mirror ∧
    (s.filterTo level).path = s.path ∧
    (s.filterTo level).intake = s.intake ∧
    (s.filterTo level).config = s.config ∧
    (s.filterTo level).memory = s.memory ∧
    (s.filterTo level).draws = s.draws ∧
    (s.filterTo level).pending = s.pending ∧
    (s.filterTo level).mirror.backlog = s.mirror.backlog := by
  simp [State.filterTo]

@[simp] theorem State.curtailOn_keeps (s : State) :
    (s.curtailOn).roster = s.roster ∧
    (s.curtailOn).book = s.book ∧
    (s.curtailOn).bays = s.bays ∧
    (s.curtailOn).lanes = s.lanes ∧
    (s.curtailOn).allocator = s.allocator ∧
    (s.curtailOn).clock = s.clock ∧
    (s.curtailOn).path = s.path ∧
    (s.curtailOn).intake = s.intake ∧
    (s.curtailOn).config = s.config ∧
    (s.curtailOn).memory = s.memory ∧
    (s.curtailOn).draws = s.draws ∧
    (s.curtailOn).pending = s.pending ∧
    (s.curtailOn).mirror.backlog = s.mirror.backlog := by
  simp [State.curtailOn]

@[simp] theorem State.assertCurtail_keeps (s : State) :
    (s.assertCurtail).roster = s.roster ∧
    (s.assertCurtail).book = s.book ∧
    (s.assertCurtail).bays = s.bays ∧
    (s.assertCurtail).lanes = s.lanes ∧
    (s.assertCurtail).allocator = s.allocator ∧
    (s.assertCurtail).clock = s.clock ∧
    (s.assertCurtail).path = s.path ∧
    (s.assertCurtail).intake = s.intake ∧
    (s.assertCurtail).config = s.config ∧
    (s.assertCurtail).memory = s.memory ∧
    (s.assertCurtail).draws = s.draws ∧
    (s.assertCurtail).pending = s.pending ∧
    (s.assertCurtail).mirror.backlog = s.mirror.backlog := by
  unfold State.assertCurtail
  try dsimp only
  (repeat' split) <;> simp

@[simp] theorem State.releaseCurtail_keeps (s : State) :
    (s.releaseCurtail).roster = s.roster ∧
    (s.releaseCurtail).book = s.book ∧
    (s.releaseCurtail).bays = s.bays ∧
    (s.releaseCurtail).lanes = s.lanes ∧
    (s.releaseCurtail).allocator = s.allocator ∧
    (s.releaseCurtail).clock = s.clock ∧
    (s.releaseCurtail).path = s.path ∧
    (s.releaseCurtail).intake = s.intake ∧
    (s.releaseCurtail).config = s.config ∧
    (s.releaseCurtail).memory = s.memory ∧
    (s.releaseCurtail).draws = s.draws ∧
    (s.releaseCurtail).pending = s.pending ∧
    (s.releaseCurtail).mirror.backlog = s.mirror.backlog := by
  unfold State.releaseCurtail
  try dsimp only
  (repeat' split) <;> simp

@[simp] theorem State.curtailFromInput_keeps (s : State) :
    (s.curtailFromInput).roster = s.roster ∧
    (s.curtailFromInput).book = s.book ∧
    (s.curtailFromInput).bays = s.bays ∧
    (s.curtailFromInput).lanes = s.lanes ∧
    (s.curtailFromInput).allocator = s.allocator ∧
    (s.curtailFromInput).clock = s.clock ∧
    (s.curtailFromInput).path = s.path ∧
    (s.curtailFromInput).intake = s.intake ∧
    (s.curtailFromInput).config = s.config ∧
    (s.curtailFromInput).memory = s.memory ∧
    (s.curtailFromInput).draws = s.draws ∧
    (s.curtailFromInput).pending = s.pending ∧
    (s.curtailFromInput).mirror.backlog = s.mirror.backlog := by
  unfold State.curtailFromInput
  try dsimp only
  (repeat' split) <;> simp

@[simp] theorem State.calibrationResult_keeps (s : State) (origin : CalOrigin) (code : ResultCode) (detail : Nat) :
    (s.calibrationResult origin code detail).roster = s.roster ∧
    (s.calibrationResult origin code detail).book = s.book ∧
    (s.calibrationResult origin code detail).bays = s.bays ∧
    (s.calibrationResult origin code detail).lanes = s.lanes ∧
    (s.calibrationResult origin code detail).meter = s.meter ∧
    (s.calibrationResult origin code detail).allocator = s.allocator ∧
    (s.calibrationResult origin code detail).clock = s.clock ∧
    (s.calibrationResult origin code detail).config = s.config ∧
    (s.calibrationResult origin code detail).memory = s.memory ∧
    (s.calibrationResult origin code detail).draws = s.draws ∧
    (s.calibrationResult origin code detail).pending = s.pending := by
  unfold State.calibrationResult
  try dsimp only
  (repeat' split) <;> simp

@[simp] theorem State.leaveCalibrating_keeps (s : State) :
    (s.leaveCalibrating).roster = s.roster ∧
    (s.leaveCalibrating).book = s.book ∧
    (s.leaveCalibrating).bays = s.bays ∧
    (s.leaveCalibrating).lanes = s.lanes ∧
    (s.leaveCalibrating).meter = s.meter ∧
    (s.leaveCalibrating).allocator = s.allocator ∧
    (s.leaveCalibrating).clock = s.clock ∧
    (s.leaveCalibrating).mirror = s.mirror ∧
    (s.leaveCalibrating).path = s.path ∧
    (s.leaveCalibrating).intake = s.intake ∧
    (s.leaveCalibrating).memory = s.memory ∧
    (s.leaveCalibrating).draws = s.draws ∧
    (s.leaveCalibrating).pending = s.pending ∧
    (s.leaveCalibrating).mirror.backlog = s.mirror.backlog := by
  unfold State.leaveCalibrating
  try dsimp only
  (repeat' split) <;> simp

@[simp] theorem State.completeCalibration_keeps (s : State) (origin : CalOrigin) (a1 a2 a3 : Nat) :
    (s.completeCalibration origin a1 a2 a3).roster = s.roster ∧
    (s.completeCalibration origin a1 a2 a3).book = s.book ∧
    (s.completeCalibration origin a1 a2 a3).bays = s.bays ∧
    (s.completeCalibration origin a1 a2 a3).lanes = s.lanes ∧
    (s.completeCalibration origin a1 a2 a3).allocator = s.allocator ∧
    (s.completeCalibration origin a1 a2 a3).clock = s.clock ∧
    (s.completeCalibration origin a1 a2 a3).memory = s.memory ∧
    (s.completeCalibration origin a1 a2 a3).draws = s.draws ∧
    (s.completeCalibration origin a1 a2 a3).pending = s.pending := by
  unfold State.completeCalibration
  try dsimp only
  (repeat' split) <;> simp

@[simp] theorem State.holdInHand_keeps (s : State) (n : SlotNo) (req : Request) :
    (s.holdInHand n req).roster = s.roster ∧
    (s.holdInHand n req).book = s.book ∧
    (s.holdInHand n req).bays = s.bays ∧
    (s.holdInHand n req).lanes = s.lanes ∧
    (s.holdInHand n req).meter = s.meter ∧
    (s.holdInHand n req).allocator = s.allocator ∧
    (s.holdInHand n req).clock = s.clock ∧
    (s.holdInHand n req).mirror = s.mirror ∧
    (s.holdInHand n req).path = s.path ∧
    (s.holdInHand n req).config = s.config ∧
    (s.holdInHand n req).memory = s.memory ∧
    (s.holdInHand n req).draws = s.draws ∧
    (s.holdInHand n req).pending = s.pending ∧
    (s.holdInHand n req).mirror.backlog = s.mirror.backlog := by
  simp [State.holdInHand]

@[simp] theorem State.takeCalibrate_keeps (s : State) (n : SlotNo) (req : Request) :
    (s.takeCalibrate n req).roster = s.roster ∧
    (s.takeCalibrate n req).book = s.book ∧
    (s.takeCalibrate n req).bays = s.bays ∧
    (s.takeCalibrate n req).lanes = s.lanes ∧
    (s.takeCalibrate n req).allocator = s.allocator ∧
    (s.takeCalibrate n req).clock = s.clock ∧
    (s.takeCalibrate n req).config = s.config ∧
    (s.takeCalibrate n req).memory = s.memory ∧
    (s.takeCalibrate n req).draws = s.draws ∧
    (s.takeCalibrate n req).pending = s.pending := by
  unfold State.takeCalibrate
  try dsimp only
  (repeat' split) <;> simp

end Sys2Proof.Machine
end

