-- ==== Sys2Proof/Laws/Clock.lean ====
section
/-!
SUPPORT. The blocks of the part that each operation of Machine/Clock.lean leaves as they were: one lemma for each operation.
-/

namespace Sys2Proof.Machine

open Sys2Proof

@[simp] theorem State.updClock_keeps (s : State) (f : DepotClock → DepotClock) :
    (s.updClock f).roster = s.roster ∧
    (s.updClock f).book = s.book ∧
    (s.updClock f).bays = s.bays ∧
    (s.updClock f).lanes = s.lanes ∧
    (s.updClock f).meter = s.meter ∧
    (s.updClock f).allocator = s.allocator ∧
    (s.updClock f).mirror = s.mirror ∧
    (s.updClock f).path = s.path ∧
    (s.updClock f).intake = s.intake ∧
    (s.updClock f).config = s.config ∧
    (s.updClock f).memory = s.memory ∧
    (s.updClock f).draws = s.draws ∧
    (s.updClock f).pending = s.pending ∧
    (s.updClock f).mirror.backlog = s.mirror.backlog := by
  simp [State.updClock]

@[simp] theorem State.clockLimit_keeps (s : State) :
    (s.clockLimit).roster = s.roster ∧
    (s.clockLimit).book = s.book ∧
    (s.clockLimit).bays = s.bays ∧
    (s.clockLimit).lanes = s.lanes ∧
    (s.clockLimit).meter = s.meter ∧
    (s.clockLimit).allocator = s.allocator ∧
    (s.clockLimit).path = s.path ∧
    (s.clockLimit).intake = s.intake ∧
    (s.clockLimit).config = s.config ∧
    (s.clockLimit).memory = s.memory ∧
    (s.clockLimit).draws = s.draws ∧
    (s.clockLimit).pending = s.pending ∧
    (s.clockLimit).mirror.backlog = s.mirror.backlog := by
  unfold State.clockLimit
  try dsimp only
  (repeat' split) <;> simp

@[simp] theorem State.expireStale_keeps (s : State) :
    (s.expireStale).roster = s.roster ∧
    (s.expireStale).book = s.book ∧
    (s.expireStale).bays = s.bays ∧
    (s.expireStale).lanes = s.lanes ∧
    (s.expireStale).meter = s.meter ∧
    (s.expireStale).allocator = s.allocator ∧
    (s.expireStale).path = s.path ∧
    (s.expireStale).intake = s.intake ∧
    (s.expireStale).config = s.config ∧
    (s.expireStale).memory = s.memory ∧
    (s.expireStale).draws = s.draws ∧
    (s.expireStale).pending = s.pending ∧
    (s.expireStale).mirror.backlog = s.mirror.backlog := by
  unfold State.expireStale
  try dsimp only
  (repeat' split) <;> simp

@[simp] theorem State.stepStale_keeps (s : State) :
    (s.stepStale).roster = s.roster ∧
    (s.stepStale).book = s.book ∧
    (s.stepStale).bays = s.bays ∧
    (s.stepStale).lanes = s.lanes ∧
    (s.stepStale).meter = s.meter ∧
    (s.stepStale).allocator = s.allocator ∧
    (s.stepStale).path = s.path ∧
    (s.stepStale).intake = s.intake ∧
    (s.stepStale).config = s.config ∧
    (s.stepStale).memory = s.memory ∧
    (s.stepStale).draws = s.draws ∧
    (s.stepStale).pending = s.pending ∧
    (s.stepStale).mirror.backlog = s.mirror.backlog := by
  unfold State.stepStale
  try dsimp only
  (repeat' split) <;> simp

@[simp] theorem State.forwardWrite_keeps (s : State) (w : PlanWrite) :
    (s.forwardWrite w).roster = s.roster ∧
    (s.forwardWrite w).book = s.book ∧
    (s.forwardWrite w).bays = s.bays ∧
    (s.forwardWrite w).lanes = s.lanes ∧
    (s.forwardWrite w).meter = s.meter ∧
    (s.forwardWrite w).allocator = s.allocator ∧
    (s.forwardWrite w).path = s.path ∧
    (s.forwardWrite w).intake = s.intake ∧
    (s.forwardWrite w).config = s.config ∧
    (s.forwardWrite w).memory = s.memory ∧
    (s.forwardWrite w).draws = s.draws ∧
    (s.forwardWrite w).pending = s.pending ∧
    (s.forwardWrite w).mirror.backlog = s.mirror.backlog := by
  unfold State.forwardWrite
  try dsimp only
  (repeat' split) <;> simp

@[simp] theorem State.clockTick_keeps (s : State) :
    (s.clockTick).roster = s.roster ∧
    (s.clockTick).book = s.book ∧
    (s.clockTick).bays = s.bays ∧
    (s.clockTick).lanes = s.lanes ∧
    (s.clockTick).meter = s.meter ∧
    (s.clockTick).allocator = s.allocator ∧
    (s.clockTick).path = s.path ∧
    (s.clockTick).intake = s.intake ∧
    (s.clockTick).config = s.config ∧
    (s.clockTick).memory = s.memory ∧
    (s.clockTick).draws = s.draws ∧
    (s.clockTick).pending = s.pending ∧
    (s.clockTick).mirror.backlog = s.mirror.backlog := by
  simp [State.clockTick]

@[simp] theorem State.setDepotTime_keeps (s : State) (t : Word) :
    (s.setDepotTime t).roster = s.roster ∧
    (s.setDepotTime t).book = s.book ∧
    (s.setDepotTime t).bays = s.bays ∧
    (s.setDepotTime t).lanes = s.lanes ∧
    (s.setDepotTime t).meter = s.meter ∧
    (s.setDepotTime t).allocator = s.allocator ∧
    (s.setDepotTime t).path = s.path ∧
    (s.setDepotTime t).intake = s.intake ∧
    (s.setDepotTime t).config = s.config ∧
    (s.setDepotTime t).memory = s.memory ∧
    (s.setDepotTime t).draws = s.draws ∧
    (s.setDepotTime t).pending = s.pending ∧
    (s.setDepotTime t).mirror.backlog = s.mirror.backlog := by
  simp [State.setDepotTime]

@[simp] theorem State.blocksTick_keeps (s : State) (order : TickOrder) :
    (s.blocksTick order).bays = s.bays ∧
    (s.blocksTick order).lanes = s.lanes ∧
    (s.blocksTick order).allocator = s.allocator ∧
    (s.blocksTick order).clock = s.clock ∧
    (s.blocksTick order).path = s.path ∧
    (s.blocksTick order).intake = s.intake ∧
    (s.blocksTick order).config = s.config ∧
    (s.blocksTick order).memory = s.memory ∧
    (s.blocksTick order).draws = s.draws ∧
    (s.blocksTick order).pending = s.pending ∧
    (s.blocksTick order).mirror.backlog = s.mirror.backlog := by
  unfold State.blocksTick
  (repeat' split) <;> simp

@[simp] theorem State.draw_keeps (s : State) :
    (s.draw).roster = s.roster ∧
    (s.draw).book = s.book ∧
    (s.draw).bays = s.bays ∧
    (s.draw).lanes = s.lanes ∧
    (s.draw).meter = s.meter ∧
    (s.draw).allocator = s.allocator ∧
    (s.draw).clock = s.clock ∧
    (s.draw).mirror = s.mirror ∧
    (s.draw).path = s.path ∧
    (s.draw).intake = s.intake ∧
    (s.draw).config = s.config ∧
    (s.draw).memory = s.memory ∧
    (s.draw).pending = s.pending ∧
    (s.draw).mirror.backlog = s.mirror.backlog := by
  simp [State.draw]

@[simp] theorem State.tickIn_keeps (s : State) (order : TickOrder) :
    (s.tickIn order).path = s.path ∧
    (s.tickIn order).intake = s.intake ∧
    (s.tickIn order).config = s.config ∧
    (s.tickIn order).memory = s.memory ∧
    (s.tickIn order).draws = s.draws ∧
    (s.tickIn order).pending = s.pending ∧
    (s.tickIn order).mirror.backlog = s.mirror.backlog := by
  simp [State.tickIn]

end Sys2Proof.Machine
end

