-- ==== Sys2Proof/Laws/Requests.lean ====
section
/-!
SUPPORT. What raising an alert does to the Mirror Writer, and what taking and answering a request does to the part.
-/

namespace Sys2Proof.Machine

open Sys2Proof

/-! ### Marking and alerts -/

/-- Marking a record marks that record and no other. -/
theorem State.mark_dirtyBy (s : State) (r : RecordId) :
    DirtyBy s.mirror.dirty (s.mark r).mirror.dirty (fun q => q = r) := by
  intro q
  simp [State.mark, DirtySet.has_mark]

/-- Everything that raising an alert does. -/
theorem State.raise_raises (s : State) (kind : AlertKind) (bay : Option BayNo) (tag : Option Tag) :
    Raises s.mirror (s.raise kind bay tag).mirror { kind := kind, bay := bay, tag := tag, time := s.clock.depotSeconds } := by
  unfold State.raise
  by_cases h : (!s.mirror.overflow && decide (s.mirror.unconsumed < 63)) = true
  · rw [if_pos h]
    simp only [Bool.and_eq_true, Bool.not_eq_true', decide_eq_true_eq] at h
    have hu : (s.mirror.producer - s.mirror.consumer).val < 63 := h.2
    refine ⟨rfl, fun r hr => ?_, ?_⟩
    · simp [State.storeAlert, DirtySet.has_mark, hr]
    · rw [if_pos ⟨h.1, hu⟩]
      exact ⟨rfl, rfl, h.1, rfl, by simp [State.storeAlert, DirtySet.has_mark], by simp [State.storeAlert, DirtySet.has_mark]⟩
  · rw [if_neg h]
    have h' : ¬(s.mirror.overflow = false ∧ (s.mirror.producer - s.mirror.consumer).val < 63) := by
      rintro ⟨h1, h2⟩
      exact h (by simp [h1, MirrorWriter.unconsumed, h2])
    refine ⟨rfl, fun r hr => ?_, ?_⟩
    · unfold State.loseAlert
      dsimp only
      split <;> simp [DirtySet.has_mark, hr]
    · rw [if_neg h']
      refine ⟨rfl, rfl, rfl, rfl, fun ho => ?_⟩
      simp [State.loseAlert, ho, DirtySet.has_mark]

/-! ### Requests -/

/-- The request at the head of the queue is found. -/
theorem Requested.headRequest {s : State} {n : SlotNo} {req : Request} {rest : List SlotNo} (h : Requested s n req rest) :
    s.headRequest = some (n, req) := by
  unfold State.headRequest
  simp [h.1, h.2]

/-- A request of the command's kind at the head of the queue reaches its owner, with its slot out of the queue. -/
theorem Requested.takeRequest {s : State} {n : SlotNo} {req : Request} {rest : List SlotNo} (h : Requested s n req rest)
    {is : Request → Bool} (owner : SlotNo → Request → State → State) (hi : is req = true) :
    s.takeRequest is owner = owner n req s.dequeue := by
  simp [State.takeRequest, h.headRequest, hi]

/-- Taking a request leaves every slot as it is. -/
@[simp] theorem State.dequeue_slot (s : State) (n : SlotNo) : s.dequeue.slot n = s.slot n := rfl

/-- Everything that storing a result does. -/
theorem State.storeResult_eq (s : State) (n : SlotNo) (code : ResultCode) (detail : Nat) {phase : BusyPhase} {req : Request}
    (h : (s.slot n).busy = some (phase, req)) :
    s.storeResult n code detail =
      { s with
        intake :=
          { s.intake with
            slots := vput s.intake.slots n
              { s.slot n with
                busy := some (.answered, req)
                result := { tag := req.tag, code := code, detail := BitVec.ofNat 40 detail } } }
        mirror :=
          { s.mirror with
            dirty := s.mirror.dirty.mark (.slot n), backlog := s.mirror.backlog.map fun w => w.outdate n }
        path := { s.path with port := s.path.port.outdate n } } := by
  unfold State.storeResult
  rw [h]
  rfl

/-- Storing a result is what `Answered` says, whatever the owner did to the blocks that hold no request. -/
theorem State.storeResult_answered {s a : State} {n : SlotNo} {req : Request} {rest : List SlotNo} (h : Requested s n req rest)
    (hi : a.intake = s.dequeue.intake) (hp : a.path = s.path) (hb : a.mirror.backlog = s.mirror.backlog) (code : ResultCode)
    (detail : Nat) : Answered s (a.storeResult n code detail) n req rest code detail := by
  have hs : ∀ m, a.slot m = s.slot m := fun m => by simp [State.slot, hi, State.dequeue]
  rw [State.storeResult_eq a n code detail (phase := .queued) (req := req) ((hs n).symm ▸ h.2)]
  refine ⟨?_, ?_, ?_, ?_, ?_, ?_, ?_⟩
  · simp [hi, State.dequeue, h.1]
  · simp [hi, State.dequeue]
  · simp [State.slot, hi, State.dequeue]
  · intro m hm
    simp only [State.slot]
    rw [vput_get_of_ne _ _ hm, hi]
    rfl
  · simp [DirtySet.has_mark]
  · simp [hb]
  · simp [hp]

/-- A request whose owner leaves Plan Intake, the Path Unit and the backlog alone is answered with the owner's code. -/
theorem Requested.answerRequest {s : State} {n : SlotNo} {req : Request} {rest : List SlotNo} (h : Requested s n req rest)
    {is : Request → Bool} (owner : Request → State → Answer) (hr : is req = true)
    (hi : (owner req s.dequeue).state.intake = s.dequeue.intake) (hp : (owner req s.dequeue).state.path = s.path)
    (hb : (owner req s.dequeue).state.mirror.backlog = s.mirror.backlog) :
    Answered s (s.answerRequest is owner) n req rest (owner req s.dequeue).code (owner req s.dequeue).detail := by
  unfold State.answerRequest
  rw [h.takeRequest _ hr]
  exact State.storeResult_answered h hi hp hb _ _

end Sys2Proof.Machine
end

