-- ==== Sys2Proof/Laws/Path.lean ====
section
/-!
SUPPORT. The blocks of the part that each operation of Machine/Path.lean leaves as they were: one lemma for each operation.
-/

namespace Sys2Proof.Machine

open Sys2Proof

@[simp] theorem State.updMirror_keeps (s : State) (f : MirrorWriter → MirrorWriter) :
    (s.updMirror f).roster = s.roster ∧
    (s.updMirror f).book = s.book ∧
    (s.updMirror f).bays = s.bays ∧
    (s.updMirror f).lanes = s.lanes ∧
    (s.updMirror f).meter = s.meter ∧
    (s.updMirror f).allocator = s.allocator ∧
    (s.updMirror f).clock = s.clock ∧
    (s.updMirror f).path = s.path ∧
    (s.updMirror f).intake = s.intake ∧
    (s.updMirror f).config = s.config ∧
    (s.updMirror f).memory = s.memory ∧
    (s.updMirror f).draws = s.draws ∧
    (s.updMirror f).pending = s.pending := by
  simp [State.updMirror]

@[simp] theorem State.storeOverflow_keeps (s : State) :
    (s.storeOverflow).roster = s.roster ∧
    (s.storeOverflow).book = s.book ∧
    (s.storeOverflow).bays = s.bays ∧
    (s.storeOverflow).lanes = s.lanes ∧
    (s.storeOverflow).meter = s.meter ∧
    (s.storeOverflow).allocator = s.allocator ∧
    (s.storeOverflow).clock = s.clock ∧
    (s.storeOverflow).path = s.path ∧
    (s.storeOverflow).intake = s.intake ∧
    (s.storeOverflow).config = s.config ∧
    (s.storeOverflow).memory = s.memory ∧
    (s.storeOverflow).draws = s.draws ∧
    (s.storeOverflow).pending = s.pending ∧
    (s.storeOverflow).mirror.backlog = s.mirror.backlog := by
  unfold State.storeOverflow
  (repeat' split) <;> simp <;> simp [State.updMirror]

@[simp] theorem State.proposeConsumer_keeps (s : State) (v : Word) :
    (s.proposeConsumer v).roster = s.roster ∧
    (s.proposeConsumer v).book = s.book ∧
    (s.proposeConsumer v).bays = s.bays ∧
    (s.proposeConsumer v).lanes = s.lanes ∧
    (s.proposeConsumer v).meter = s.meter ∧
    (s.proposeConsumer v).allocator = s.allocator ∧
    (s.proposeConsumer v).clock = s.clock ∧
    (s.proposeConsumer v).path = s.path ∧
    (s.proposeConsumer v).intake = s.intake ∧
    (s.proposeConsumer v).config = s.config ∧
    (s.proposeConsumer v).memory = s.memory ∧
    (s.proposeConsumer v).draws = s.draws ∧
    (s.proposeConsumer v).pending = s.pending ∧
    (s.proposeConsumer v).mirror.backlog = s.mirror.backlog := by
  unfold State.proposeConsumer
  (repeat' split) <;> simp <;> simp [State.updMirror]

@[simp] theorem State.enqueue_keeps (s : State) (n : SlotNo) (merged : Word) :
    (s.enqueue n merged).roster = s.roster ∧
    (s.enqueue n merged).book = s.book ∧
    (s.enqueue n merged).bays = s.bays ∧
    (s.enqueue n merged).lanes = s.lanes ∧
    (s.enqueue n merged).meter = s.meter ∧
    (s.enqueue n merged).allocator = s.allocator ∧
    (s.enqueue n merged).clock = s.clock ∧
    (s.enqueue n merged).mirror = s.mirror ∧
    (s.enqueue n merged).path = s.path ∧
    (s.enqueue n merged).config = s.config ∧
    (s.enqueue n merged).memory = s.memory ∧
    (s.enqueue n merged).draws = s.draws ∧
    (s.enqueue n merged).pending = s.pending ∧
    (s.enqueue n merged).mirror.backlog = s.mirror.backlog := by
  simp [State.enqueue]

@[simp] theorem State.takeTrigger_keeps (s : State) (n : SlotNo) (merged : Word) :
    (s.takeTrigger n merged).roster = s.roster ∧
    (s.takeTrigger n merged).book = s.book ∧
    (s.takeTrigger n merged).bays = s.bays ∧
    (s.takeTrigger n merged).lanes = s.lanes ∧
    (s.takeTrigger n merged).meter = s.meter ∧
    (s.takeTrigger n merged).allocator = s.allocator ∧
    (s.takeTrigger n merged).path = s.path ∧
    (s.takeTrigger n merged).config = s.config ∧
    (s.takeTrigger n merged).memory = s.memory ∧
    (s.takeTrigger n merged).draws = s.draws ∧
    (s.takeTrigger n merged).pending = s.pending ∧
    (s.takeTrigger n merged).mirror.backlog = s.mirror.backlog := by
  unfold State.takeTrigger
  try dsimp only
  (repeat' split) <;> simp

@[simp] theorem State.freeSlot_keeps (s : State) (n : SlotNo) :
    (s.freeSlot n).roster = s.roster ∧
    (s.freeSlot n).book = s.book ∧
    (s.freeSlot n).bays = s.bays ∧
    (s.freeSlot n).lanes = s.lanes ∧
    (s.freeSlot n).meter = s.meter ∧
    (s.freeSlot n).allocator = s.allocator ∧
    (s.freeSlot n).clock = s.clock ∧
    (s.freeSlot n).mirror = s.mirror ∧
    (s.freeSlot n).path = s.path ∧
    (s.freeSlot n).config = s.config ∧
    (s.freeSlot n).memory = s.memory ∧
    (s.freeSlot n).draws = s.draws ∧
    (s.freeSlot n).pending = s.pending ∧
    (s.freeSlot n).mirror.backlog = s.mirror.backlog := by
  unfold State.freeSlot
  (repeat' split) <;> simp

@[simp] theorem State.updPath_keeps (s : State) (f : PathUnit → PathUnit) :
    (s.updPath f).roster = s.roster ∧
    (s.updPath f).book = s.book ∧
    (s.updPath f).bays = s.bays ∧
    (s.updPath f).lanes = s.lanes ∧
    (s.updPath f).meter = s.meter ∧
    (s.updPath f).allocator = s.allocator ∧
    (s.updPath f).clock = s.clock ∧
    (s.updPath f).mirror = s.mirror ∧
    (s.updPath f).intake = s.intake ∧
    (s.updPath f).config = s.config ∧
    (s.updPath f).memory = s.memory ∧
    (s.updPath f).draws = s.draws ∧
    (s.updPath f).pending = s.pending ∧
    (s.updPath f).mirror.backlog = s.mirror.backlog := by
  simp [State.updPath]

@[simp] theorem State.mergeSlotWord_keeps (s : State) (n : SlotNo) (w : Fin 8) (data : Word) (enables : BitVec 4) :
    (s.mergeSlotWord n w data enables).roster = s.roster ∧
    (s.mergeSlotWord n w data enables).book = s.book ∧
    (s.mergeSlotWord n w data enables).bays = s.bays ∧
    (s.mergeSlotWord n w data enables).lanes = s.lanes ∧
    (s.mergeSlotWord n w data enables).meter = s.meter ∧
    (s.mergeSlotWord n w data enables).allocator = s.allocator ∧
    (s.mergeSlotWord n w data enables).clock = s.clock ∧
    (s.mergeSlotWord n w data enables).mirror = s.mirror ∧
    (s.mergeSlotWord n w data enables).path = s.path ∧
    (s.mergeSlotWord n w data enables).config = s.config ∧
    (s.mergeSlotWord n w data enables).memory = s.memory ∧
    (s.mergeSlotWord n w data enables).draws = s.draws ∧
    (s.mergeSlotWord n w data enables).pending = s.pending ∧
    (s.mergeSlotWord n w data enables).mirror.backlog = s.mirror.backlog := by
  unfold State.mergeSlotWord
  try dsimp only
  simp

@[simp] theorem State.mergeConsumer_keeps (s : State) (data : Word) (enables : BitVec 4) :
    (s.mergeConsumer data enables).roster = s.roster ∧
    (s.mergeConsumer data enables).book = s.book ∧
    (s.mergeConsumer data enables).bays = s.bays ∧
    (s.mergeConsumer data enables).lanes = s.lanes ∧
    (s.mergeConsumer data enables).meter = s.meter ∧
    (s.mergeConsumer data enables).allocator = s.allocator ∧
    (s.mergeConsumer data enables).clock = s.clock ∧
    (s.mergeConsumer data enables).mirror = s.mirror ∧
    (s.mergeConsumer data enables).path = s.path ∧
    (s.mergeConsumer data enables).config = s.config ∧
    (s.mergeConsumer data enables).memory = s.memory ∧
    (s.mergeConsumer data enables).draws = s.draws ∧
    (s.mergeConsumer data enables).pending = s.pending ∧
    (s.mergeConsumer data enables).mirror.backlog = s.mirror.backlog := by
  simp [State.mergeConsumer]

@[simp] theorem State.captureHeartbeat_keeps (s : State) (enables : BitVec 4) :
    (s.captureHeartbeat enables).roster = s.roster ∧
    (s.captureHeartbeat enables).book = s.book ∧
    (s.captureHeartbeat enables).bays = s.bays ∧
    (s.captureHeartbeat enables).lanes = s.lanes ∧
    (s.captureHeartbeat enables).meter = s.meter ∧
    (s.captureHeartbeat enables).allocator = s.allocator ∧
    (s.captureHeartbeat enables).path = s.path ∧
    (s.captureHeartbeat enables).intake = s.intake ∧
    (s.captureHeartbeat enables).config = s.config ∧
    (s.captureHeartbeat enables).memory = s.memory ∧
    (s.captureHeartbeat enables).draws = s.draws ∧
    (s.captureHeartbeat enables).pending = s.pending ∧
    (s.captureHeartbeat enables).mirror.backlog = s.mirror.backlog := by
  unfold State.captureHeartbeat
  try dsimp only
  (repeat' split) <;> simp

@[simp] theorem State.captureConsumer_keeps (s : State) (data : Word) (enables : BitVec 4) :
    (s.captureConsumer data enables).roster = s.roster ∧
    (s.captureConsumer data enables).book = s.book ∧
    (s.captureConsumer data enables).bays = s.bays ∧
    (s.captureConsumer data enables).lanes = s.lanes ∧
    (s.captureConsumer data enables).meter = s.meter ∧
    (s.captureConsumer data enables).allocator = s.allocator ∧
    (s.captureConsumer data enables).clock = s.clock ∧
    (s.captureConsumer data enables).path = s.path ∧
    (s.captureConsumer data enables).config = s.config ∧
    (s.captureConsumer data enables).memory = s.memory ∧
    (s.captureConsumer data enables).draws = s.draws ∧
    (s.captureConsumer data enables).pending = s.pending ∧
    (s.captureConsumer data enables).mirror.backlog = s.mirror.backlog := by
  unfold State.captureConsumer
  try dsimp only
  simp

@[simp] theorem State.captureSlotWord_keeps (s : State) (n : SlotNo) (w : Fin 8) (data : Word) (enables : BitVec 4) :
    (s.captureSlotWord n w data enables).roster = s.roster ∧
    (s.captureSlotWord n w data enables).book = s.book ∧
    (s.captureSlotWord n w data enables).bays = s.bays ∧
    (s.captureSlotWord n w data enables).lanes = s.lanes ∧
    (s.captureSlotWord n w data enables).meter = s.meter ∧
    (s.captureSlotWord n w data enables).allocator = s.allocator ∧
    (s.captureSlotWord n w data enables).path = s.path ∧
    (s.captureSlotWord n w data enables).config = s.config ∧
    (s.captureSlotWord n w data enables).memory = s.memory ∧
    (s.captureSlotWord n w data enables).draws = s.draws ∧
    (s.captureSlotWord n w data enables).pending = s.pending ∧
    (s.captureSlotWord n w data enables).mirror.backlog = s.mirror.backlog := by
  unfold State.captureSlotWord
  try dsimp only
  (repeat' split) <;> simp

@[simp] theorem State.captureWord_keeps (s : State) (p : PlanWord) (data : Word) (enables : BitVec 4) :
    (s.captureWord p data enables).roster = s.roster ∧
    (s.captureWord p data enables).book = s.book ∧
    (s.captureWord p data enables).bays = s.bays ∧
    (s.captureWord p data enables).lanes = s.lanes ∧
    (s.captureWord p data enables).meter = s.meter ∧
    (s.captureWord p data enables).allocator = s.allocator ∧
    (s.captureWord p data enables).path = s.path ∧
    (s.captureWord p data enables).config = s.config ∧
    (s.captureWord p data enables).memory = s.memory ∧
    (s.captureWord p data enables).draws = s.draws ∧
    (s.captureWord p data enables).pending = s.pending ∧
    (s.captureWord p data enables).mirror.backlog = s.mirror.backlog := by
  unfold State.captureWord
  (repeat' split) <;> simp

@[simp] theorem State.capture_keeps (s : State) (a : HostAccess) :
    (s.capture a).roster = s.roster ∧
    (s.capture a).book = s.book ∧
    (s.capture a).bays = s.bays ∧
    (s.capture a).lanes = s.lanes ∧
    (s.capture a).meter = s.meter ∧
    (s.capture a).allocator = s.allocator ∧
    (s.capture a).path = s.path ∧
    (s.capture a).config = s.config ∧
    (s.capture a).memory = s.memory ∧
    (s.capture a).draws = s.draws ∧
    (s.capture a).pending = s.pending ∧
    (s.capture a).mirror.backlog = s.mirror.backlog := by
  unfold State.capture
  (repeat' split) <;> simp

@[simp] theorem State.grantHost_keeps (s : State) (a : HostAccess) :
    (s.grantHost a).roster = s.roster ∧
    (s.grantHost a).book = s.book ∧
    (s.grantHost a).bays = s.bays ∧
    (s.grantHost a).lanes = s.lanes ∧
    (s.grantHost a).meter = s.meter ∧
    (s.grantHost a).allocator = s.allocator ∧
    (s.grantHost a).config = s.config ∧
    (s.grantHost a).memory = s.memory ∧
    (s.grantHost a).draws = s.draws ∧
    (s.grantHost a).pending = s.pending ∧
    (s.grantHost a).mirror.backlog = s.mirror.backlog := by
  simp [State.grantHost]

@[simp] theorem State.grantBacklog_keeps (s : State) (w : BacklogWord) (rest : List BacklogWord) :
    (s.grantBacklog w rest).roster = s.roster ∧
    (s.grantBacklog w rest).book = s.book ∧
    (s.grantBacklog w rest).bays = s.bays ∧
    (s.grantBacklog w rest).lanes = s.lanes ∧
    (s.grantBacklog w rest).meter = s.meter ∧
    (s.grantBacklog w rest).allocator = s.allocator ∧
    (s.grantBacklog w rest).clock = s.clock ∧
    (s.grantBacklog w rest).intake = s.intake ∧
    (s.grantBacklog w rest).config = s.config ∧
    (s.grantBacklog w rest).memory = s.memory ∧
    (s.grantBacklog w rest).draws = s.draws ∧
    (s.grantBacklog w rest).pending = s.pending := by
  simp [State.grantBacklog]

@[simp] theorem State.arbitrate_keeps (s : State) :
    (s.arbitrate).roster = s.roster ∧
    (s.arbitrate).book = s.book ∧
    (s.arbitrate).bays = s.bays ∧
    (s.arbitrate).lanes = s.lanes ∧
    (s.arbitrate).meter = s.meter ∧
    (s.arbitrate).allocator = s.allocator ∧
    (s.arbitrate).config = s.config ∧
    (s.arbitrate).memory = s.memory ∧
    (s.arbitrate).draws = s.draws ∧
    (s.arbitrate).pending = s.pending := by
  unfold State.arbitrate
  (repeat' split) <;> simp

@[simp] theorem State.claimPort_keeps (s : State) (a : HostAccess) :
    (s.claimPort a).roster = s.roster ∧
    (s.claimPort a).book = s.book ∧
    (s.claimPort a).bays = s.bays ∧
    (s.claimPort a).lanes = s.lanes ∧
    (s.claimPort a).meter = s.meter ∧
    (s.claimPort a).allocator = s.allocator ∧
    (s.claimPort a).config = s.config ∧
    (s.claimPort a).memory = s.memory ∧
    (s.claimPort a).draws = s.draws ∧
    (s.claimPort a).pending = s.pending := by
  simp [State.claimPort]

@[simp] theorem State.complete_keeps (s : State) (a : HostAccess) (data : Word) :
    (s.complete a data).roster = s.roster ∧
    (s.complete a data).book = s.book ∧
    (s.complete a data).bays = s.bays ∧
    (s.complete a data).lanes = s.lanes ∧
    (s.complete a data).meter = s.meter ∧
    (s.complete a data).allocator = s.allocator ∧
    (s.complete a data).clock = s.clock ∧
    (s.complete a data).mirror = s.mirror ∧
    (s.complete a data).intake = s.intake ∧
    (s.complete a data).config = s.config ∧
    (s.complete a data).memory = s.memory ∧
    (s.complete a data).draws = s.draws ∧
    (s.complete a data).pending = s.pending ∧
    (s.complete a data).mirror.backlog = s.mirror.backlog := by
  simp [State.complete]

@[simp] theorem State.stopWrite_keeps (s : State) (a : HostAccess) :
    (s.stopWrite a).roster = s.roster ∧
    (s.stopWrite a).book = s.book ∧
    (s.stopWrite a).bays = s.bays ∧
    (s.stopWrite a).lanes = s.lanes ∧
    (s.stopWrite a).meter = s.meter ∧
    (s.stopWrite a).allocator = s.allocator ∧
    (s.stopWrite a).clock = s.clock ∧
    (s.stopWrite a).intake = s.intake ∧
    (s.stopWrite a).config = s.config ∧
    (s.stopWrite a).memory = s.memory ∧
    (s.stopWrite a).draws = s.draws ∧
    (s.stopWrite a).pending = s.pending ∧
    (s.stopWrite a).mirror.backlog = s.mirror.backlog := by
  unfold State.stopWrite
  dsimp only
  (repeat' split) <;> simp <;> simp [State.updMirror]

@[simp] theorem State.watchedAccess_keeps (s : State) (a : HostAccess) :
    (s.watchedAccess a).roster = s.roster ∧
    (s.watchedAccess a).book = s.book ∧
    (s.watchedAccess a).bays = s.bays ∧
    (s.watchedAccess a).lanes = s.lanes ∧
    (s.watchedAccess a).meter = s.meter ∧
    (s.watchedAccess a).allocator = s.allocator ∧
    (s.watchedAccess a).config = s.config ∧
    (s.watchedAccess a).memory = s.memory ∧
    (s.watchedAccess a).draws = s.draws ∧
    (s.watchedAccess a).pending = s.pending := by
  unfold State.watchedAccess
  (repeat' split) <;> simp

@[simp] theorem State.arrive_keeps (s : State) (write : Bool) (addr : Addr) (data : Word) (enables : BitVec 4) :
    (s.arrive write addr data enables).roster = s.roster ∧
    (s.arrive write addr data enables).book = s.book ∧
    (s.arrive write addr data enables).bays = s.bays ∧
    (s.arrive write addr data enables).lanes = s.lanes ∧
    (s.arrive write addr data enables).meter = s.meter ∧
    (s.arrive write addr data enables).allocator = s.allocator ∧
    (s.arrive write addr data enables).config = s.config ∧
    (s.arrive write addr data enables).memory = s.memory ∧
    (s.arrive write addr data enables).draws = s.draws ∧
    (s.arrive write addr data enables).pending = s.pending := by
  unfold State.arrive
  try dsimp only
  (repeat' split) <;> simp

@[simp] theorem State.completeHost_keeps (s : State) (a : HostAccess) :
    (s.completeHost a).roster = s.roster ∧
    (s.completeHost a).book = s.book ∧
    (s.completeHost a).bays = s.bays ∧
    (s.completeHost a).lanes = s.lanes ∧
    (s.completeHost a).meter = s.meter ∧
    (s.completeHost a).allocator = s.allocator ∧
    (s.completeHost a).clock = s.clock ∧
    (s.completeHost a).mirror = s.mirror ∧
    (s.completeHost a).intake = s.intake ∧
    (s.completeHost a).config = s.config ∧
    (s.completeHost a).draws = s.draws ∧
    (s.completeHost a).pending = s.pending ∧
    (s.completeHost a).mirror.backlog = s.mirror.backlog := by
  unfold State.completeHost
  (repeat' split) <;> simp

@[simp] theorem State.freeSlotOf_keeps (s : State) (n : Option SlotNo) :
    (s.freeSlotOf n).roster = s.roster ∧
    (s.freeSlotOf n).book = s.book ∧
    (s.freeSlotOf n).bays = s.bays ∧
    (s.freeSlotOf n).lanes = s.lanes ∧
    (s.freeSlotOf n).meter = s.meter ∧
    (s.freeSlotOf n).allocator = s.allocator ∧
    (s.freeSlotOf n).clock = s.clock ∧
    (s.freeSlotOf n).mirror = s.mirror ∧
    (s.freeSlotOf n).path = s.path ∧
    (s.freeSlotOf n).config = s.config ∧
    (s.freeSlotOf n).memory = s.memory ∧
    (s.freeSlotOf n).draws = s.draws ∧
    (s.freeSlotOf n).pending = s.pending ∧
    (s.freeSlotOf n).mirror.backlog = s.mirror.backlog := by
  unfold State.freeSlotOf
  (repeat' split) <;> simp

@[simp] theorem State.completeBacklog_keeps (s : State) (w : BacklogWord) :
    (s.completeBacklog w).roster = s.roster ∧
    (s.completeBacklog w).book = s.book ∧
    (s.completeBacklog w).bays = s.bays ∧
    (s.completeBacklog w).lanes = s.lanes ∧
    (s.completeBacklog w).meter = s.meter ∧
    (s.completeBacklog w).allocator = s.allocator ∧
    (s.completeBacklog w).clock = s.clock ∧
    (s.completeBacklog w).mirror = s.mirror ∧
    (s.completeBacklog w).config = s.config ∧
    (s.completeBacklog w).draws = s.draws ∧
    (s.completeBacklog w).pending = s.pending ∧
    (s.completeBacklog w).mirror.backlog = s.mirror.backlog := by
  unfold State.completeBacklog
  try dsimp only
  (repeat' split) <;> simp

@[simp] theorem State.freePort_keeps (s : State) :
    (s.freePort).roster = s.roster ∧
    (s.freePort).book = s.book ∧
    (s.freePort).bays = s.bays ∧
    (s.freePort).lanes = s.lanes ∧
    (s.freePort).meter = s.meter ∧
    (s.freePort).allocator = s.allocator ∧
    (s.freePort).clock = s.clock ∧
    (s.freePort).mirror = s.mirror ∧
    (s.freePort).intake = s.intake ∧
    (s.freePort).config = s.config ∧
    (s.freePort).memory = s.memory ∧
    (s.freePort).draws = s.draws ∧
    (s.freePort).pending = s.pending ∧
    (s.freePort).mirror.backlog = s.mirror.backlog := by
  simp [State.freePort]

@[simp] theorem State.pushRecord_keeps (s : State) (r : RecordId) :
    (s.pushRecord r).roster = s.roster ∧
    (s.pushRecord r).book = s.book ∧
    (s.pushRecord r).bays = s.bays ∧
    (s.pushRecord r).lanes = s.lanes ∧
    (s.pushRecord r).meter = s.meter ∧
    (s.pushRecord r).allocator = s.allocator ∧
    (s.pushRecord r).clock = s.clock ∧
    (s.pushRecord r).intake = s.intake ∧
    (s.pushRecord r).config = s.config ∧
    (s.pushRecord r).memory = s.memory ∧
    (s.pushRecord r).draws = s.draws ∧
    (s.pushRecord r).pending = s.pending := by
  unfold State.pushRecord
  try dsimp only
  simp

end Sys2Proof.Machine
end

