-- ==== Sys2Proof/Laws/Reset.lean ====
section
/-!
SUPPORT. The blocks of the part that each operation of Machine/Reset.lean leaves as they were: one lemma for each operation.
-/

namespace Sys2Proof.Machine

open Sys2Proof

@[simp] theorem State.depotRestart_keeps (s : State) :
    (s.depotRestart).config = s.config ∧
    (s.depotRestart).memory = s.memory ∧
    (s.depotRestart).draws = s.draws ∧
    (s.depotRestart).pending = s.pending ∧
    (s.depotRestart).mirror.backlog = s.mirror.backlog := by
  simp [State.depotRestart, resetMirror]

@[simp] theorem State.handOverParams_keeps (s : State) (p : Params) (src : ConfigSource) :
    (s.handOverParams p src).roster = s.roster ∧
    (s.handOverParams p src).book = s.book ∧
    (s.handOverParams p src).lanes = s.lanes ∧
    (s.handOverParams p src).allocator = s.allocator ∧
    (s.handOverParams p src).clock = s.clock ∧
    (s.handOverParams p src).mirror = s.mirror ∧
    (s.handOverParams p src).intake = s.intake ∧
    (s.handOverParams p src).memory = s.memory ∧
    (s.handOverParams p src).draws = s.draws ∧
    (s.handOverParams p src).pending = s.pending ∧
    (s.handOverParams p src).mirror.backlog = s.mirror.backlog := by
  simp [State.handOverParams]

@[simp] theorem State.beginStartUpCalibration_keeps (s : State) :
    (s.beginStartUpCalibration).roster = s.roster ∧
    (s.beginStartUpCalibration).book = s.book ∧
    (s.beginStartUpCalibration).bays = s.bays ∧
    (s.beginStartUpCalibration).lanes = s.lanes ∧
    (s.beginStartUpCalibration).allocator = s.allocator ∧
    (s.beginStartUpCalibration).clock = s.clock ∧
    (s.beginStartUpCalibration).mirror = s.mirror ∧
    (s.beginStartUpCalibration).path = s.path ∧
    (s.beginStartUpCalibration).intake = s.intake ∧
    (s.beginStartUpCalibration).memory = s.memory ∧
    (s.beginStartUpCalibration).draws = s.draws ∧
    (s.beginStartUpCalibration).pending = s.pending ∧
    (s.beginStartUpCalibration).mirror.backlog = s.mirror.backlog := by
  unfold State.beginStartUpCalibration
  (repeat' split) <;> simp

@[simp] theorem State.takeParams_keeps (s : State) (p : Params) (src : ConfigSource) :
    (s.takeParams p src).roster = s.roster ∧
    (s.takeParams p src).book = s.book ∧
    (s.takeParams p src).lanes = s.lanes ∧
    (s.takeParams p src).allocator = s.allocator ∧
    (s.takeParams p src).clock = s.clock ∧
    (s.takeParams p src).mirror = s.mirror ∧
    (s.takeParams p src).intake = s.intake ∧
    (s.takeParams p src).memory = s.memory ∧
    (s.takeParams p src).draws = s.draws ∧
    (s.takeParams p src).pending = s.pending ∧
    (s.takeParams p src).mirror.backlog = s.mirror.backlog := by
  simp [State.takeParams]

@[simp] theorem State.configFailed_keeps (s : State) (reason : ConfigReason) :
    (s.configFailed reason).roster = s.roster ∧
    (s.configFailed reason).book = s.book ∧
    (s.configFailed reason).lanes = s.lanes ∧
    (s.configFailed reason).allocator = s.allocator ∧
    (s.configFailed reason).clock = s.clock ∧
    (s.configFailed reason).intake = s.intake ∧
    (s.configFailed reason).memory = s.memory ∧
    (s.configFailed reason).draws = s.draws ∧
    (s.configFailed reason).pending = s.pending ∧
    (s.configFailed reason).mirror.backlog = s.mirror.backlog := by
  simp [State.configFailed]

@[simp] theorem State.coldReset_keeps (s : State) (straps : Straps) (level : Level) (offsets : Option Offsets) (g : Generations) :
    (s.coldReset straps level offsets g).memory = s.memory ∧
    (s.coldReset straps level offsets g).draws = s.draws ∧
    (s.coldReset straps level offsets g).pending = s.pending := by
  simp [State.coldReset]

@[simp] theorem State.startUp_keeps (s : State) (straps : Straps) (level : Level) (offsets : Option Offsets) (g : Generations) :
    (s.startUp straps level offsets g).memory = s.memory ∧
    (s.startUp straps level offsets g).draws = s.draws ∧
    (s.startUp straps level offsets g).pending = s.pending := by
  unfold State.startUp
  try dsimp only
  (repeat' split) <;> simp

end Sys2Proof.Machine
end

