-- ==== Sys2Proof/Laws/Exec.lean ====
section
/-!
SUPPORT. What every command leaves as it was: the queue of waiting commands, and static memory but for a downstream
completion.
-/

namespace Sys2Proof.Machine

open Sys2Proof

/-- Taking a request keeps what its owner keeps. -/
theorem State.takeRequest_keeps {β : Type} (f : State → β) (s : State) (is : Request → Bool)
    (owner : SlotNo → Request → State → State) (hd : f s.dequeue = f s)
    (ho : ∀ n req, f (owner n req s.dequeue) = f s.dequeue) : f (s.takeRequest is owner) = f s := by
  unfold State.takeRequest
  split
  · rfl
  · split
    · rw [ho, hd]
    · rfl

/-- Answering a request keeps what its owner and the storing of a result keep. -/
theorem State.answerRequest_keeps {β : Type} (f : State → β) (s : State) (is : Request → Bool) (owner : Request → State → Answer)
    (hd : f s.dequeue = f s) (hr : ∀ (x : State) n c d, f (x.storeResult n c d) = f x)
    (ho : ∀ req, f (owner req s.dequeue).state = f s.dequeue) : f (s.answerRequest is owner) = f s :=
  State.takeRequest_keeps f s is _ hd fun n req => by rw [Answer.store, hr, ho]

/-- The two fields that only the step and a downstream completion change. -/
def State.outside (s : State) : List Instr × List Host.Cell := (s.pending, s.memory)

/-- A conclusion about both fields, from one about each. -/
theorem State.outside_eq {s t : State} (hp : t.pending = s.pending) (hm : t.memory = s.memory) : t.outside = s.outside := by
  rw [State.outside, State.outside, hp, hm]

/-- Taking a request leaves both. -/
theorem State.dequeue_outside (s : State) : s.dequeue.outside = s.outside := rfl

/-- Storing a result leaves both. -/
theorem State.storeResult_outside (s : State) (n : SlotNo) (code : ResultCode) (detail : Nat) :
    (s.storeResult n code detail).outside = s.outside := State.outside_eq (by simp) (by simp)

/-- An answered request leaves both when its owner does. -/
theorem State.answerRequest_outside (s : State) (is : Request → Bool) (owner : Request → State → Answer)
    (ho : ∀ req, (owner req s.dequeue).state.outside = s.dequeue.outside) : (s.answerRequest is owner).outside = s.outside :=
  State.answerRequest_keeps State.outside s is owner (State.dequeue_outside s) State.storeResult_outside ho

/-- The Book's answers leave both. -/
theorem State.answerBook_outside (s : State) (r : Request) : (s.answerBook r).state.outside = s.outside := by
  unfold State.answerBook State.takeBook
  (repeat' split) <;> exact State.outside_eq (by simp) (by simp)

/-- The Book's answers to CANCEL leave both. -/
theorem State.answerCancel_outside (s : State) (r : Request) : (s.answerCancel r).state.outside = s.outside := by
  unfold State.answerCancel
  split <;> exact State.outside_eq (by simp) (by simp)

/-- The roster's answers leave both. -/
theorem State.answerForget_outside (s : State) (r : Request) : (s.answerForget r).state.outside = s.outside := by
  unfold State.answerForget
  (repeat' split) <;> exact State.outside_eq (by simp) (by simp)

/-- The Bay Manager's answers leave both when the action does. -/
theorem State.answerSetBay_outside (s : State) (r : Request) (action : State → BayNo → State)
    (h : ∀ b, (action s b).outside = s.outside) : (s.answerSetBay r action).state.outside = s.outside := by
  unfold State.answerSetBay
  (repeat' split)
  · rfl
  · rfl
  · exact h _

/-- The Meter's answers leave both. -/
theorem State.answerSetLimits_outside (s : State) (r : Request) : (s.answerSetLimits r).state.outside = s.outside := by
  unfold State.answerSetLimits
  (repeat' split) <;> exact State.outside_eq (by simp) (by simp)

/-- A host access that is taken leaves both. -/
theorem State.hostAccess_outside (s t : State) (write : Bool) (addr : Addr) (data : Word) (enables : BitVec 4)
    (h : s.hostAccess write addr data enables = .next t) : t.outside = s.outside := by
  unfold State.hostAccess at h
  split at h
  · cases h
  · split at h
    · cases h
    · cases h
      exact State.outside_eq (by simp) (by simp)

/-- No command but a downstream completion changes memory, and none the queue of waiting commands. -/
theorem exec_outside (i : Instr) (s t : State) (h : exec i s = .next t) (hi : i ≠ .downstreamCompletion) :
    t.outside = s.outside := by
  cases i <;> first | exact absurd rfl hi | exact State.hostAccess_outside _ _ _ _ _ _ h | cases h
  case book => exact State.answerRequest_outside s _ _ fun r => State.answerBook_outside _ r
  case cancel => exact State.answerRequest_outside s _ _ fun r => State.answerCancel_outside _ r
  case forget => exact State.answerRequest_outside s _ _ fun r => State.answerForget_outside _ r
  case setClock =>
    exact State.answerRequest_outside s _ _ fun r =>
      State.outside_eq (by simp [State.answerSetClock]) (by simp [State.answerSetClock])
  case setBayEnable =>
    exact State.answerRequest_outside s _ _ fun r =>
      State.answerSetBay_outside _ r _ fun b => State.outside_eq (by simp) (by simp)
  case setBayDisable =>
    exact State.answerRequest_outside s _ _ fun r =>
      State.answerSetBay_outside _ r _ fun b => State.outside_eq (by simp) (by simp)
  case setBaySetCap =>
    exact State.answerRequest_outside s _ _ fun r =>
      State.answerSetBay_outside _ r _ fun b => State.outside_eq (by simp) (by simp)
  case setBaySetPermittedModes =>
    exact State.answerRequest_outside s _ _ fun r =>
      State.answerSetBay_outside _ r _ fun b => State.outside_eq (by simp) (by simp)
  case setLimits => exact State.answerRequest_outside s _ _ fun r => State.answerSetLimits_outside _ r
  case calibrate =>
    exact State.takeRequest_keeps State.outside s _ _ rfl fun n r => State.outside_eq (by simp) (by simp)
  case restart => exact State.answerRequest_outside s _ _ fun r => State.outside_eq (by simp) (by simp)
  case unknownRequest => exact State.answerRequest_outside s _ _ fun r => rfl
  all_goals
    (repeat' split) <;> exact State.outside_eq (by simp) (by simp)

/-- No command changes the queue of waiting commands. -/
theorem exec_pending (i : Instr) (s t : State) (h : exec i s = .next t) : t.pending = s.pending := by
  by_cases hi : i = .downstreamCompletion
  · subst hi
    cases h
    (repeat' split) <;> simp
  · exact congrArg Prod.fst (exec_outside i s t h hi)

/-- No command but a downstream completion changes static memory. -/
theorem exec_memory (i : Instr) (s t : State) (h : exec i s = .next t) (hi : i ≠ .downstreamCompletion) :
    t.memory = s.memory :=
  congrArg Prod.snd (exec_outside i s t h hi)

end Sys2Proof.Machine
end

