-- ==== Sys2Proof/Laws/Memory.lean ====
section
/-!
SUPPORT. What a write of static memory does: it keeps the canonical form, and each byte reads as what was stored last.
-/

namespace Sys2Proof.Machine

open Sys2Proof

/-- Cells that rise from an address rise from any lower one. -/
theorem cellsFrom_lower {low low' : Nat} (h : low' ≤ low) : ∀ m, cellsFrom low m = true → cellsFrom low' m = true
  | [], _ => rfl
  | (k, v) :: rest, hm => by
    simp only [cellsFrom, Bool.and_eq_true, decide_eq_true_eq] at hm ⊢
    exact ⟨⟨⟨by omega, hm.1.1.2⟩, hm.1.2⟩, hm.2⟩

/-- Below the first address that cells may list, memory reads as unlisted. -/
theorem memByte_below {a : Nat} : ∀ {low : Nat} (m : List Host.Cell), cellsFrom low m = true → a < low → memByte m a = memUnlisted
  | _, [], _, _ => rfl
  | low, (k, v) :: rest, hm, h => by
    simp only [cellsFrom, Bool.and_eq_true, decide_eq_true_eq] at hm
    have hk : k ≠ a := by omega
    simp only [memByte, hk, if_false]
    exact memByte_below (low := k + 1) rest hm.2 (by omega)

/-- A write of one byte keeps the cells in order. -/
theorem memPut_cellsFrom {a : Nat} (v : Byte) (ha : a < 2 ^ 24) :
    ∀ {low : Nat} (m : List Host.Cell), low ≤ a → cellsFrom low m = true → cellsFrom low (memPut m a v) = true
  | low, [], h, _ => by
    unfold memPut
    split <;> simp_all [cellsFrom]
  | low, (k, w) :: rest, h, hm => by
    have hm' := hm
    simp only [cellsFrom, Bool.and_eq_true, decide_eq_true_eq] at hm
    unfold memPut
    split
    · split
      · exact hm'
      · simp only [cellsFrom, Bool.and_eq_true, decide_eq_true_eq]
        exact ⟨⟨⟨h, ha⟩, by assumption⟩, ⟨⟨by omega, hm.1.1.2⟩, hm.1.2⟩, hm.2⟩
    · split
      · split
        · exact cellsFrom_lower (by omega) rest hm.2
        · subst_vars
          simp only [cellsFrom, Bool.and_eq_true, decide_eq_true_eq]
          exact ⟨⟨⟨h, ha⟩, by assumption⟩, hm.2⟩
      · simp only [cellsFrom, Bool.and_eq_true, decide_eq_true_eq]
        exact ⟨hm.1, memPut_cellsFrom v ha rest (by omega) hm.2⟩

/-- After a write of one byte, that byte reads as written and every other as before. -/
theorem memByte_memPut {a k : Nat} (v : Byte) :
    ∀ {low : Nat} (m : List Host.Cell), cellsFrom low m = true →
      memByte (memPut m a v) k = if k = a then v else memByte m k
  | _, [], _ => by
    unfold memPut
    by_cases hk : k = a
    · by_cases hv : v = memUnlisted <;> simp [hv, hk, memByte]
    · by_cases hv : v = memUnlisted <;> simp [hv, hk, Ne.symm hk, memByte]
  | low, (j, w) :: rest, hm => by
    simp only [cellsFrom, Bool.and_eq_true, decide_eq_true_eq] at hm
    unfold memPut
    by_cases h1 : a < j
    · simp only [h1, if_true]
      by_cases hk : k = a
      · subst hk
        have hj : j ≠ k := by omega
        by_cases hv : v = memUnlisted
        · simp [hv, memByte, hj, memByte_below rest hm.2 (show k < j + 1 by omega)]
        · simp [hv, memByte]
      · by_cases hv : v = memUnlisted <;> simp [hv, memByte, hk, Ne.symm hk]
    · simp only [h1, if_false]
      by_cases h2 : a = j
      · subst h2
        by_cases hk : k = a
        · subst hk
          by_cases hv : v = memUnlisted
          · simp [hv, memByte_below rest hm.2 (Nat.lt_succ_self k)]
          · simp [hv, memByte]
        · by_cases hv : v = memUnlisted <;> simp [hv, memByte, hk, Ne.symm hk]
      · simp only [h2, if_false, memByte]
        rw [memByte_memPut v rest hm.2]
        by_cases hj : j = k
        · subst hj
          simp [Ne.symm h2]
        · simp [hj]

/-- A byte address lies in the 24-bit space. -/
theorem byteAddr_lt (a : Addr) (i : Nat) : byteAddr a i < 2 ^ 24 := (a + BitVec.ofNat 24 i).isLt

/-- Writing an enabled byte of a word keeps memory canonical. -/
theorem memPutEnabled_wf (a : Addr) (data : Word) (enables : BitVec 4) (i : Nat) {m : List Host.Cell} (h : Memory.wf m = true) :
    Memory.wf (memPutEnabled a data enables i m) = true := by
  unfold memPutEnabled
  split
  · exact memPut_cellsFrom _ (byteAddr_lt a i) m (Nat.zero_le _) h
  · exact h

/-- What a byte reads as after an enabled byte of a word is written. -/
theorem memByte_memPutEnabled (a : Addr) (data : Word) (enables : BitVec 4) (i k : Nat) {m : List Host.Cell}
    (h : Memory.wf m = true) :
    memByte (memPutEnabled a data enables i m) k =
      if enables.getLsbD i = true ∧ k = byteAddr a i then wordByte data i else memByte m k := by
  unfold memPutEnabled
  by_cases he : enables.getLsbD i = true
  · simp only [he, if_true, true_and]
    exact memByte_memPut _ m h
  · simp [he]

/-- The writes of a word keep memory canonical. -/
theorem memWrite_wf (a : Addr) (data : Word) (enables : BitVec 4) {m : List Host.Cell} (h : Memory.wf m = true) :
    Memory.wf (memWrite m a data enables) = true :=
  memPutEnabled_wf _ _ _ _ (memPutEnabled_wf _ _ _ _ (memPutEnabled_wf _ _ _ _ (memPutEnabled_wf _ _ _ _ h)))

/-- Everything a write of a word does: of its four bytes, those enabled read as written, and every other byte as before. -/
theorem memByte_memWrite (a : Addr) (data : Word) (enables : BitVec 4) (k : Nat) {m : List Host.Cell} (h : Memory.wf m = true) :
    memByte (memWrite m a data enables) k =
      if enables.getLsbD 3 = true ∧ k = byteAddr a 3 then wordByte data 3
      else if enables.getLsbD 2 = true ∧ k = byteAddr a 2 then wordByte data 2
      else if enables.getLsbD 1 = true ∧ k = byteAddr a 1 then wordByte data 1
      else if enables.getLsbD 0 = true ∧ k = byteAddr a 0 then wordByte data 0
      else memByte m k := by
  have h0 := memPutEnabled_wf a data enables 0 h
  have h1 := memPutEnabled_wf a data enables 1 h0
  have h2 := memPutEnabled_wf a data enables 2 h1
  unfold memWrite
  rw [memByte_memPutEnabled _ _ _ _ _ h2, memByte_memPutEnabled _ _ _ _ _ h1, memByte_memPutEnabled _ _ _ _ _ h0,
    memByte_memPutEnabled _ _ _ _ _ h]

end Sys2Proof.Machine
end

