-- ==== Sys2Proof/Tests/Slice0.lean ====
section
/-!
SUPPORT. The model's own tests: ill-formed commands refused, small steps from the manual's worked examples, and for each
statement a state and operands that meet its hypotheses together.
-/

namespace Sys2Proof.Tests

open Sys2Proof Sys2Proof.Machine

set_option Elab.async false

/-! ### Well-formedness -/

theorem test_wf_refuses_misaligned_access : (Instr.hostAccess true 0x000102 0 0xF).wellFormed = false := by decide
theorem test_wf_refuses_misaligned_mirror_write : (Instr.mirrorWriteStopped 0xFF8001 0 0xF).wellFormed = false := by decide
theorem test_wf_refuses_misaligned_mirror_read : (Instr.fencedRead 0xFF8003).wellFormed = false := by decide
theorem test_wf_refuses_short_image : (Instr.configImageLoaded true [0x7E, 0x43]).wellFormed = false := by decide
theorem test_wf_refuses_long_image :
    (Instr.configImageLoaded false [0x7E, 0x43, 0xD4, 0x48, 0, 6, 0]).wellFormed = false := by decide
theorem test_wf_takes_aligned_access : (Instr.hostAccess false 0xFFFFFC 0 0xF).wellFormed = true := by decide

/-! ### Small states -/

/-- The part in service: offsets of the worked budget, the clock valid at depot time 10 days and 03:30:00, interval 6,301. -/
def live : State :=
  { State.reset with
    meter := { State.reset.meter with offsets := some { l1 := 2050, l2 := 2046, l3 := 2052 }, calibration := .idle }
    clock :=
      { timerRunning := true, depotSeconds := 876600, valid := true, limitReached := false, interval := 6301, plan := .planned,
        staleTimer := 116 }
    path := { State.reset.path with watching := true }
    config := { State.reset.config with step := .inService, driversReleased := true } }

/-- A request. -/
def request (code : Byte) (words : List Word) : Request :=
  { code := code, tag := 0x1234, words := Vector.ofFn fun i => words.getD i.val 0 }

/-- A state with a request QUEUED in slot 3, at the head of the queue. -/
def asked (s : State) (req : Request) : State :=
  { s with
    intake :=
      { s.intake with slots := vput s.intake.slots 3 { s.slot 3 with busy := some (.queued, req) }, queue := [3] } }

/-- A state with one bay's record changed. -/
def withBay (s : State) (b : BayNo) (f : BayRecord → BayRecord) : State := { s with bays := vput s.bays b (f (s.bay b)) }

/-- A state with a roster entry at an index. -/
def withEntry (s : State) (i : RosterIx) (e : RosterEntry) : State :=
  { s with roster := { s.roster with entries := vput s.roster.entries i (some e) } }

/-- A roster entry. -/
def entry (tag : Tag) (bay : Option BayNo) (plugIn lastSeen : Word) (lastEnergy : Nat) : RosterEntry :=
  { tag := tag, bay := bay, plugIn := plugIn, lastSeen := lastSeen, lastEnergy := lastEnergy }

/-- A booking of the host. -/
def booking (index : BookIx) (tag : Tag) (departure : Word) (target : Nat) (st : BookingState) : Booking :=
  { index := index, tag := tag, departure := departure, target := target, precondition := none, origin := .byHost, state := st,
    delivered := 0 }

/-- The state a command leaves, when it answers one. -/
def after (i : Instr) (s : State) : Option State :=
  match exec i s with
  | .next t => some t
  | .fault _ => none
  | .refused _ => none

/-- A figure of the state that a command leaves. -/
def see {α : Type} (i : Instr) (s : State) (f : State → α) : Option α := (after i s).map f

/-- The kinds of the alerts in the first entries of the ring. -/
def alertsOf (s : State) (n : Nat) : List (Option AlertKind) :=
  ((List.finRange 64).take n).map fun i => (s.mirror.alerts.get i).map Alert.kind

/-! ### Reset and start-up -/

theorem test_power_on_gives_reset : exec (.powerOn { lanes := 0, cfgSrcHigh := false } .released) State.reset =
    .next State.reset := by
  rfl

theorem test_reset_line_keeps_offsets :
    see (.resetLine { lanes := 2, cfgSrcHigh := false } .asserted) live
      (fun t => (t.meter.offsets, t.config.step, (t.bay 15).state, (t.bay 16).state, t.meter.filteredLevel)) =
      some (live.meter.offsets, .ending, .empty, .disabled, .asserted) := by decide +kernel

theorem test_power_on_waits_for_the_image :
    see (.powerOn { lanes := 1, cfgSrcHigh := true } .released) live (fun t => (t.config.step, t.clock.timerRunning)) =
      some (.loading, false) := by decide +kernel

/-- The part while the image is read. -/
def loading : State := { State.reset with config := { State.reset.config with step := .loading } }

/-- The bytes of the default parameters up to the mode table, with the aging time and the mirror base given. -/
def imageHead (aging : Byte) (mirrorHigh mirrorMid : Byte) : List Byte :=
  [0x7E, 0x43, 0xD4, 0x48, 0x00, 0x98] ++ [0x02] ++ [0x00, 0x78] ++ [0xFF, 0xF0, 0x00] ++ [mirrorHigh, mirrorMid, 0x00] ++
  [aging] ++ [0x00, 0x64] ++ [0x2D] ++ [0x01, 0x68] ++ [0x00, 0x00, 0x46, 0x50] ++ [0x17, 0x70] ++ [0x04, 0x1E, 0x02, 0x04] ++
  [0x00, 0xE6, 0x00, 0xC8, 0x09, 0xC4, 0x00, 0x64, 0x04, 0xB0] ++ [0x05, 0x0A, 0x05, 0x03, 0x3C] ++
  [37, 14, 74, 14, 110, 42, 220, 42]

/-- The bay table's first 24 bays. -/
def imageBaysLow : List Byte := (List.replicate 24 [0x8F, 220]).flatten

/-- The bay table's last 24 bays, the last bay's cap given. -/
def imageBaysHigh (lastCap : Byte) : List Byte := (List.replicate 23 [0x8F, 220]).flatten ++ [0x8F, lastCap]

/-- An image. -/
def image (aging mirrorHigh mirrorMid lastCap crcHigh crcLow : Byte) : List Byte :=
  imageHead aging mirrorHigh mirrorMid ++ (imageBaysLow ++ (imageBaysHigh lastCap ++ [crcHigh, crcLow]))

/-- The image of the default parameters. -/
def defaultImage : List Byte := image 18 0xFF 0x80 220 0x73 0x0D

/-- The CRC of an image's first 150 bytes, by thirds. -/
theorem crc_by_thirds (a h m l x y : Byte) (c1 c2 c3 : BitVec 16) (h1 : crc16 (imageHead a h m) = c1)
    (h2 : imageBaysLow.foldl crcOctet c1 = c2) (h3 : (imageBaysHigh l).foldl crcOctet c2 = c3) :
    crc16 ((image a h m l x y).take 150) = c3 := by
  have e : (image a h m l x y).take 150 = imageHead a h m ++ (imageBaysLow ++ imageBaysHigh l) := by
    have n : (imageHead a h m ++ (imageBaysLow ++ imageBaysHigh l)).length = 150 := by
      simp [imageHead, imageBaysLow, imageBaysHigh]
    have i : image a h m l x y = (imageHead a h m ++ (imageBaysLow ++ imageBaysHigh l)) ++ [x, y] := by simp [image]
    rw [i, List.take_left' n]
  rw [e, crc16, List.foldl_append, List.foldl_append]
  unfold crc16 at h1
  rw [h1, h2, h3]

theorem test_crc_check_value :
    crc16 [0x31, 0x32, 0x33, 0x34, 0x35, 0x36, 0x37, 0x38, 0x39] = 0x29B1 := by decide +kernel

theorem test_crc_of_the_default_image (x y : Byte) : crc16 ((image 18 0xFF 0x80 220 x y).take 150) = 0x730D :=
  crc_by_thirds 18 0xFF 0x80 220 x y 0xef9b 0x3bcd 0x730D (by decide +kernel) (by decide +kernel) (by decide +kernel)

theorem test_default_image_is_used : imageReason true defaultImage = none := by
  unfold imageReason defaultImage
  rw [test_crc_of_the_default_image]
  decide +kernel

theorem test_default_image_holds_the_defaults :
    readParams defaultImage = Params.defaults ∧ imageParams defaultImage = defaultParams := by decide +kernel

theorem test_image_reasons_before_the_crc :
    imageReason false defaultImage = some .noAck ∧
    imageReason true (0 :: defaultImage.tail) = some .marker ∧
    imageReason true [0x7E, 0x43, 0xD4, 0x48, 0x02, 0x01] = some .length := by decide +kernel

theorem test_image_reason_crc : imageReason true (image 18 0xFF 0x80 220 0x73 0x0E) = some .crc := by
  unfold imageReason
  rw [test_crc_of_the_default_image]
  decide +kernel

theorem test_image_reason_range : imageReason true (image 169 0xFF 0x80 220 0xBF 0xB0) = some (.range 5) := by
  unfold imageReason
  rw [crc_by_thirds 169 0xFF 0x80 220 0xBF 0xB0 0x960 0x616b 0xBFB0 (by decide +kernel) (by decide +kernel) (by decide +kernel)]
  decide +kernel

theorem test_image_reason_windows : imageReason true (image 18 0xFF 0xC0 220 0x7E 0x67) = some .windows := by
  unfold imageReason
  rw [crc_by_thirds 18 0xFF 0xC0 220 0x7E 0x67 0x1237 0x6a8 0x7E67 (by decide +kernel) (by decide +kernel) (by decide +kernel)]
  decide +kernel

theorem test_image_loaded :
    (after (.configImageLoaded true [0x7E, 0x43, 0xD4, 0x48, 0x02, 0x01]) loading).map
      (fun t => (t.config.source, t.config.step, alertsOf t 1)) =
      some (.defaults, .calibrating, [some (.configDefaulted .length)]) := by decide +kernel

theorem test_image_timeout :
    see .configReadTimeout loading (fun t => (t.config.source, t.config.step, alertsOf t 1)) =
      some (.defaults, .calibrating, [some (.configDefaulted .noAck)]) := by decide +kernel

theorem test_start_up_end :
    see .startUpEnd { live with config := { live.config with step := .ending } }
      (fun t => (t.config.step, t.path.watching, t.clock.depotSeconds)) = some (.inService, true, 0) := by decide +kernel

/-! ### The clock -/

theorem test_tick_order_free :
    ∀ o, (fun t : State => (t.clock.depotSeconds, t.clock.interval, t.meter.conversion, t.clock.staleTimer))
      (live.tickIn o) = (876602, 6302, .converting 6302 false, 118) := by
  intro o
  cases o <;> decide +kernel

theorem test_plan_stale :
    see .planStale { live with clock := { live.clock with staleTimer := 120 } } (fun t => (t.clock.plan, alertsOf t 1)) =
      some (.autonomous, [some (.planStale 120)]) := by decide +kernel

theorem test_set_clock :
    see .setClock (asked live (request 0x10 [0xFFFFFFFF]))
      (fun t => (t.clock.depotSeconds, t.clock.limitReached, (t.slot 3).result, alertsOf t 1)) =
      some (0xFFFFFFFF, true, { tag := 0x1234, code := .done, detail := 876600 }, [some .clockLimit]) := by decide +kernel

/-! ### The memory path -/

theorem test_host_write_reaches_memory :
    ((after (.hostAccess true 0x000100 0x11223344 0x5) live).bind fun t => see .downstreamCompletion t State.memory) =
      some [(0x000100, 0x44), (0x000102, 0x22)] := by decide +kernel

theorem test_host_access_faults :
    exec (.hostAccess false 0x000101 0 0xF) live = .fault .misalignedAddress := by rfl

theorem test_plan_word_write_merges :
    see (.planWordWrite 3 6 0xAABBCCDD 0x6) live (fun t => (t.slot 3).shadow.get 6) = some 0x00BBCC00 := by decide +kernel

theorem test_heartbeat_restarts_the_timer :
    see (.heartbeatWrite 0 1) live (fun t => t.clock.staleTimer) = some 0 := by decide +kernel

theorem test_trigger_makes_a_request :
    see (.triggerWrite 15 0x00020001 0xF) live (fun t => (t.intake.queue, (t.slot 15).busy.map fun p => (p.1, p.2.code, p.2.tag))) =
      some ([15], some (.queued, 1, 2)) := by decide +kernel

theorem test_trigger_on_a_busy_slot_collides :
    see (.triggerWrite 3 0x00020001 0xF) (asked live (request 0x02 [])) (fun t => (t.intake.queue, alertsOf t 1)) =
      some ([3], [some (.slotCollision 3 1 2)]) := by decide +kernel

/-- One alert stored, none consumed. -/
def oneAlert : State := live.raise .clockLimit none none

theorem test_consumer_index_moves :
    see (.alertConsumerIndexWrite 1 0xF) oneAlert (fun t => t.mirror.consumer) = some 1 ∧
    see (.alertConsumerIndexWrite 2 0xF) oneAlert (fun t => t.mirror.consumer) = some 0 := by decide +kernel

theorem test_mirror_write_is_stopped :
    see (.mirrorWriteStopped 0xFF8000 5 0xF) live (fun t => (t.mirror.guardCount, t.path.outstanding, alertsOf t 1)) =
      some (1, false, [some (.guard 0xFF8000 1)]) := by decide +kernel

theorem test_fenced_read_is_held :
    see (.fencedRead 0xFF8000) { live with path := { live.path with fence := some .header } }
      (fun t => (t.path.heldRead.isSome, t.path.port)) = some (true, .free) := by decide +kernel

theorem test_record_push_takes_slot_0_first :
    see .recordPush live (fun t => (t.path.fence, t.mirror.backlog.length, t.mirror.dirty.has (.slot 0))) =
      some (some (.slot 0), 1, false) := by decide +kernel

/-! ### The meter: the worked budget of chapter 5 -/

/-- A conversion set in progress for the present interval. -/
def converting (s : State) : State := { s with meter := { s.meter with conversion := .converting 6301 false } }

theorem test_worked_feeder_power :
    feederPower live.config.loaded { l1 := 2050, l2 := 2046, l3 := 2052 } { l1 := 2948, l2 := 2900, l3 := 3010 } = 1246 := by
  decide +kernel

theorem test_worked_budget :
    budgetOf Params.defaults.limits (1246 - 1147) (trimOf Params.defaults.limits 10) false .inactive = 2301 ∧
    budgetOf Params.defaults.limits (1246 - 1147) (trimOf Params.defaults.limits 10) true .inactive = 2051 ∧
    budgetOf Params.defaults.limits (1246 - 1147) (trimOf Params.defaults.limits 10) true .tail = 1200 := by decide +kernel

theorem test_sample_completion_begins_a_pass :
    see (.sampleCompletion 2948 2900 3010) (converting live) (fun t => (t.meter.latest, t.allocator.pass.map Snapshot.pFeed)) =
      some (some { pFeed := 1246, interval := 6301 }, some 1246) := by decide +kernel

theorem test_unusable_sample_skips :
    see (.sampleCompletion 0 2900 3010) (converting live) (fun t => (t.allocator.skipCount, t.allocator.pass.isSome)) =
      some (1, false) := by decide +kernel

theorem test_set_limits_refuses_99 :
    see .setLimits (asked live (request 0x12 [99, 0, 0])) (fun t => ((t.slot 3).result, t.meter.limits)) =
      some ({ tag := 0x1234, code := .badField, detail := 1 }, live.meter.limits) := by decide +kernel

theorem test_set_limits_takes_100 :
    see .setLimits (asked live (request 0x12 [100, 10000, 65535])) (fun t => ((t.slot 3).result.code, t.meter.limits)) =
      some (.done, { feederLimit := 100, margin := 10000, curtailCeiling := 65535 }) := by decide +kernel

theorem test_calibrate_holds_its_slot :
    see .calibrate (asked live (request 0x13 [])) (fun t => ((t.slot 3).busy.map Prod.fst, t.meter.calibration, t.intake.queue)) =
      some (some .inHand, .inFlight (.request 3), []) := by decide +kernel

theorem test_calibration_completes :
    see (.calibrationCompletion (Vector.replicate 16 1984) (Vector.replicate 16 2112) (Vector.replicate 16 2048)) State.reset
      (fun t => (t.meter.offsets, t.config.step)) =
      some (some { l1 := 1984, l2 := 2112, l3 := 2048 }, .ending) := by decide +kernel

theorem test_calibration_fails_outside :
    see (.calibrationCompletion (Vector.replicate 16 1983) (Vector.replicate 16 2113) (Vector.replicate 16 2048)) State.reset
      (fun t => (t.meter.offsets, t.config.step, alertsOf t 1)) =
      some (none, .ending, [some (.calFail (some 1983) (some 2113) none)]) := by decide +kernel

/-- The filter waits out a change of level. -/
def changing (s : State) : State := { s with meter := { s.meter with changePending := true } }

theorem test_curtail_input_change :
    see .curtailInputChange live (fun t => t.meter.changePending) = some true := by decide +kernel

theorem test_curtail_assertion :
    see .curtailAssertionEdge (changing live) (fun t => (t.meter.curtail, alertsOf t 1)) =
      some (.asserted, [some (.curtailOn 1200)]) := by decide +kernel

/-- Curtail ASSERTED. -/
def curtailed (s : State) : State := { s with meter := { s.meter with filteredLevel := .asserted, curtail := .asserted } }

theorem test_curtail_release :
    see .curtailReleaseEdge (changing (curtailed live)) (fun t => (t.meter.curtail, alertsOf t 1)) =
      some (.tail, [none]) := by decide +kernel

/-- The tail with a time elapsed. -/
def tailing (elapsed : Nat) : State := { live with meter := { live.meter with curtail := .tail, tailElapsed := elapsed } }

theorem test_curtail_tail_end :
    see .curtailTailEnd (tailing 300) (fun t => (t.meter.curtail, alertsOf t 1)) = some (.inactive, [some .curtailOff]) := by
  decide +kernel

/-! ### The allocator: the worked example of chapter 6 -/

/-- A PLUGGED bay of the worked example. -/
def pluggedBay (tag : Tag) (mode : ChargeMode) (energy : Nat) (c : Nat) (power : Nat) (r : BayRecord) : BayRecord :=
  { r with
    state := .plugged, boundTag := some tag, agreedMode := some mode, confirmed := c, unknown := false, postCeiling := 220,
    measuredPower := power, lastEnergy := energy, lastGoodInterval := 6300 }

/-- One lane, bays 0, 1 and 2 with vans A, B and C, SET LIMITS of 900, 50 and 300 in force; committed setpoints and measured
powers given. -/
def depot (c0 c1 c2 p0 p1 p2 : Nat) : State :=
  { live with
    bays := Vector.ofFn fun b =>
      if b = 0 then pluggedBay 0xA .m3 6000 c0 p0 BayRecord.atReset
      else if b = 1 then pluggedBay 0xB .m4 6000 c1 p1 BayRecord.atReset
      else if b = 2 then pluggedBay 0xC .m2 4300 c2 p2 BayRecord.atReset
      else { BayRecord.atReset with state := .disabled }
    roster :=
      { live.roster with
        entries := Vector.ofFn fun i =>
          if i = 0 then some (entry 0xA (some 0) 800000 876598 6000)
          else if i = 1 then some (entry 0xB (some 1) 800000 876598 6000)
          else if i = 2 then some (entry 0xC (some 2) 875560 876598 4300)
          else none }
    book := [booking 0 0xA 880200 8000 .charging, booking 1 0xB 883800 9000 .charging]
    meter := { live.meter with limits := { feederLimit := 900, margin := 50, curtailCeiling := 300 } }
    config := { live.config with straps := { lanes := 1, cfgSrcHigh := false } } }

/-- The interval of the worked example without curtailment: a pass on P_feed 450. -/
def passOne : State := (depot 0 0 0 0 0 0).beginPass 450

theorem test_worked_pass_one :
    see .publication passOne (fun t =>
      ((t.allocator.front.get 0).value, (t.allocator.front.get 1).value, (t.allocator.front.get 2).value, t.allocator.lastB,
        (t.lane 0).onPair.take 5)) =
      some (110, 220, 70, 400, [0xC3, 0x10, 0x00, 110, 3]) := by decide +kernel

/-- The curtailed interval: committed setpoints 110, 220 and 70, depot time 2 s later. -/
def passTwo : State :=
  let s := depot 110 220 70 108 216 69
  { s with
    meter := { s.meter with curtail := .asserted }
    clock := { s.clock with depotSeconds := 876602 } }.beginPass 843

theorem test_worked_pass_two :
    see .publication passTwo (fun t =>
      ((t.allocator.front.get 0).value, (t.allocator.front.get 1).value, (t.allocator.front.get 2).value,
        (t.mirror.logA.get 0).map fun r => [r.budget, r.sumG, r.sumK, r.siteLoad, bit r.curtail])) =
      some (110, 190, 0, some [300, 300, 400, 450, 1]) := by decide +kernel

/-! ### Lanes and bays -/

/-- Lane 0 in a phase, its exchange a POLL of drop 0, its receiver holding octets. -/
def onLane (s : State) (phase : LanePhase) (octets : List Byte) (implied : Option Nat) : State :=
  { s with
    lanes := vput s.lanes 0
      { Lane.atReset with
        phase := phase, roundRunning := true
        exchange := some { drop := 0, kind := .poll, capabilityRequest := true, toggle := false, value := 0 }
        receiver := some { octets := octets, stopMissing := false, impliedLength := implied, trailing := false } } }

/-- A report with van tag 7, van energy 100 and all four modes from both sides. -/
def pluggedReport : List Byte :=
  [0x3C, 0x10, 0x06, 0x0F, 0x00, 0xDC, 0x00, 0x00, 0x00, 0x00, 0x05, 0x00, 0x00, 0x00, 0x00, 0x00, 0x07, 0x00, 0x64, 0x0F, 0xCC,
    0x05]

theorem test_frame_sent :
    see (.frameSent 0) (onLane live .sending [] none) (fun t => ((t.lane 0).phase, (t.lane 0).receiver)) =
      some (.listening, some Receiver.start) := by decide +kernel

theorem test_character_fixes_the_length :
    see (.characterArrival 0 0x02 true) (onLane live .listening [0x3C, 0x10] none)
      (fun t => (t.lane 0).receiver.bind Receiver.impliedLength) = some (some 21) := by decide +kernel

theorem test_report_complete_learns_the_van :
    see (.reportComplete 0) (onLane live .listening pluggedReport (some 22))
      (fun t => ((t.bay 0).state, (t.bay 0).boundTag, (t.roster.entries.get 0).map RosterEntry.tag, (t.lane 0).position)) =
      some (.agreeing, some 7, some 7, 1) := by decide +kernel

theorem test_window_expiry_counts_a_failure :
    see (.responseWindowExpiry 0) (onLane live .listening [] none)
      (fun t => ((t.bay 0).failureCount, (t.bay 0).lastFailure, (t.lane 0).phase)) = some (1, .timeout, .sending) := by
  decide +kernel

theorem test_set_bay_enable :
    see .setBayEnable (asked (withBay live 47 fun b => { b with state := .disabled }) (request 0x11 [47, 1, 0]))
      (fun t => ((t.bay 47).state, (t.slot 3).result.code, (t.slot 3).result.detail)) = some (.empty, .done, 2) := by
  decide +kernel

theorem test_set_bay_disable_closes :
    see .setBayDisable (asked live (request 0x11 [0, 2, 0])) (fun t => ((t.bay 0).state, (t.slot 3).result.detail)) =
      some (.closing, 1) := by decide +kernel

theorem test_set_bay_cap_of_220_and_221 :
    see .setBaySetCap (asked live (request 0x11 [0, 3, 100])) (fun t => ((t.bay 0).cap, (t.slot 3).result.code)) =
      some (100, .done) ∧
    see .setBaySetCap (asked live (request 0x11 [0, 3, 221])) (fun t => ((t.bay 0).cap, (t.slot 3).result.detail)) =
      some (220, 4) := by decide +kernel

theorem test_set_bay_permitted_modes :
    see .setBaySetPermittedModes (asked (depot 0 0 0 0 0 0) (request 0x11 [1, 4, 3]))
      (fun t => ((t.bay 1).permitted, (t.bay 1).state, (t.bay 1).agreedMode)) = some (3, .agreeing, none) := by decide +kernel

/-! ### Book and roster: the evening plan of chapter 2 -/

/-- The book after R, P and S of the worked example were taken. -/
def evening : State :=
  { live with
    book :=
      [booking 1 0x00B20E400117 885000 9000 .waiting, booking 0 0x00B20E400341 886000 12000 .waiting,
        booking 2 0x00B20E400456 887000 8000 .waiting] }

theorem test_worked_booking_of_q :
    see .book (asked evening (request 0x01 [0x0E40022C, 0x00B2, 885000, 8800, 0]))
      (fun t => (t.book.map fun b => b.index.val, (t.slot 3).result.code, (t.slot 3).result.detail)) =
      some ([1, 3, 0, 2], .done, 3 + 256 * 2) := by decide +kernel

theorem test_cancel :
    see .cancel (asked evening (request 0x02 [0x0E400341, 0x00B2])) (fun t => (t.book.length, (t.slot 3).result.code)) =
      some (2, .done) := by decide +kernel

theorem test_forget_refuses_a_bound_van :
    see .forget (asked (depot 0 0 0 0 0 0) (request 0x03 [0xB, 0])) (fun t => ((t.slot 3).result.code, (t.slot 3).result.detail)) =
      some (.inUse, 1) := by decide +kernel

theorem test_default_departure_is_the_next_0500 :
    nextDeparture 15000 18000 = 18000 ∧ nextDeparture 18000 18000 = 104400 ∧ nextDeparture 13812 18000 = 18000 := by decide +kernel

theorem test_restart :
    see .restart (asked (curtailed (depot 0 0 0 0 0 0)) (request 0x1F []))
      (fun t => (t.book.length, t.clock.valid, alertsOf t 2)) = some (0, true, [some (.curtailOn 1200), none]) := by decide +kernel

theorem test_unknown_request :
    see .unknownRequest (asked live (request 0x77 [])) (fun t => ((t.slot 3).result.code, (t.slot 3).result.detail)) =
      some (.unknownRequest, 0x77) := by decide +kernel

/-! ### For each statement, states and operands that meet its hypotheses: one step and the requests -/

/-- Every request can stand at the head of the queue. -/
theorem asked_requested (s : State) (req : Request) : Requested (asked s req) 3 req [] :=
  ⟨rfl, by simp [asked, State.slot]⟩

theorem test_hyp_StepRunsTheFrontCommand :
    ({ live with pending := [.recordPush, .tick] } : State).pending = .recordPush :: [.tick] ∧ live.pending = [] := ⟨rfl, rfl⟩

/-- A RESTART with an exchange and a conversion set in flight, CURTAIL asserted. -/
def restarting : State :=
  asked (curtailed (converting (onLane live .listening [] none))) (request 0x1F [])

theorem test_hyp_of_restart :
    Requested restarting 3 (request 0x1F []) [] ∧ (request 0x1F []).code = 0x1F ∧
    (restarting.lane 0).exchange.isSome = true ∧ restarting.meter.filteredLevel = .asserted ∧
    Requested (asked live (request 0x1F [])) 3 (request 0x1F []) [] ∧ live.meter.filteredLevel = .released :=
  ⟨asked_requested _ _, by decide, by decide +kernel, rfl, asked_requested _ _, rfl⟩

theorem test_hyp_EveryResetSetsTheBays :
    loading.config.step = .loading ∧ live.meter.offsets ≠ none ∧ State.reset.meter.offsets = none := by decide +kernel

/-- Start-up about to end, with the filtered level given. -/
def ending (level : Level) : State :=
  { State.reset with
    meter := { State.reset.meter with filteredLevel := level, calibration := .idle }
    config := { State.reset.config with step := .ending } }

theorem test_hyp_of_start_up_end :
    (ending .released).config.step = .ending ∧ (ending .asserted).meter.filteredLevel = .asserted := ⟨rfl, rfl⟩

theorem test_hyp_ResetsSetTheMeter :
    live.meter.offsets ≠ none ∧ State.reset.meter.offsets = none ∧
    ({ live with meter := { live.meter with conversion := .converting 6301 true } } : State).meter.conversion =
      .converting 6301 true := by decide +kernel

/-! #### The memory path -/

/-- A host access judged WATCHING. -/
def access (write : Bool) (addr : Addr) (data : Word) (enables : BitVec 4) : HostAccess :=
  { write := write, addr := addr, data := data, enables := enables, watched := true }

/-- A word of the backlog. -/
def aWord (last freesSlot : Bool) (r : RecordId) : BacklogWord :=
  { addr := 0xFF8000, data := 0x01020304, record := r, last := last, freesSlot := freesSlot }

/-- A state with a port, a held read and a waiting access. -/
def onPort (s : State) (port : Port) (held waiting : Option HostAccess) : State :=
  { s with path := { s.path with port := port, heldRead := held, waiting := waiting } }

/-- A state with a backlog and the arbiter's flags. -/
def withBacklog (s : State) (n : Nat) (alternation owed : Bool) : State :=
  { s with
    mirror := { s.mirror with backlog := List.replicate n (aWord false false .header) }
    path := { s.path with alternation := alternation, backlogOwed := owed } }

theorem test_hyp_ResetsSetThePathUnit :
    (onPort live (.host (access true 0 0 0xF)) none none).path.port = .host (access true 0 0 0xF) ∧
    (onPort live (.backlog (aWord true true (.slot 0))) none none).path.port = .backlog (aWord true true (.slot 0)) ∧
    ((onPort live .free (some (access false 0xFF8000 0 0xF)) none).path.port = .free ∧
      (onPort live .free (some (access false 0xFF8000 0 0xF)) none).path.heldRead = some (access false 0xFF8000 0 0xF)) ∧
    ((onPort live (.backlog (aWord true true .header)) (some (access false 0xFF8000 0 0xF)) none).path.port ≠ .free ∧
      (onPort live (.backlog (aWord true true .header)) (some (access false 0xFF8000 0 0xF)) none).path.heldRead =
        some (access false 0xFF8000 0 0xF)) ∧
    ((onPort live (.backlog (aWord true true .header)) none (some (access true 0 0 0xF))).path.port ≠ .free ∧
      (onPort live (.backlog (aWord true true .header)) none (some (access true 0 0 0xF))).path.heldRead = none ∧
      (onPort live (.backlog (aWord true true .header)) none (some (access true 0 0 0xF))).path.waiting =
        some (access true 0 0 0xF)) := by decide +kernel

theorem test_hyp_ImageReadEnds :
    loading.config.step = .loading ∧ imageReason true defaultImage = none ∧ imageReason false defaultImage = some .noAck :=
  ⟨rfl, test_default_image_is_used, test_image_reasons_before_the_crc.1⟩

theorem test_hyp_HostAccessIsPassedDown_watching_write :
    (0xFF7FFC : Addr).toNat % 4 = 0 ∧ live.path.outstanding = false ∧ live.path.watching = true ∧
    16384 ≤ ((0xFF7FFC : Addr) - live.path.mirrorBase).toNat ∧ 16384 ≤ ((0xFFC000 : Addr) - live.path.mirrorBase).toNat ∧
    (((0xFFF008 : Addr) - live.path.planBase).toNat < 4096 ∧ 8 ≤ ((0xFFF008 : Addr) - live.path.planBase).toNat ∧
      ((0xFFF008 : Addr) - live.path.planBase).toNat < 64) ∧
    (((0xFFF240 : Addr) - live.path.planBase).toNat < 4096 ∧ 576 ≤ ((0xFFF240 : Addr) - live.path.planBase).toNat) := by
  decide +kernel

theorem test_hyp_HostAccessIsPassedDown_read_and_faults :
    live.path.fenceCovers 0xFF8000 = false ∧ HostFirst live ∧ (0xFF8001 : Addr).toNat % 4 ≠ 0 ∧
    (onPort live (.backlog (aWord false false .header)) none none).path.port ≠ .free ∧
    (onPort live (.backlog (aWord false false .header)) none none).path.outstanding = false ∧
    (onPort live .free none (some (access false 0 0 0xF))).path.outstanding = true ∧
    WindowLaw (onPort live .free none (some (access false 0 0 0xF))) := by
  unfold HostFirst WindowLaw
  decide +kernel

theorem test_hyp_of_plan_writes :
    live.path.watching = true ∧ WindowLaw live ∧ live.path.outstanding = false ∧ HostFirst live ∧ (8 : BitVec 4) ≠ 0 ∧
    (onPort live (.backlog (aWord false false .header)) none none).path.port ≠ .free := by
  unfold HostFirst WindowLaw
  decide +kernel

/-- The ring with a producer, a consumer and the overflow flag. -/
def ring (producer consumer : RingIx) (overflow : Bool) : State :=
  { live with mirror := { live.mirror with producer := producer, consumer := consumer, overflow := overflow } }

theorem test_hyp_HeartbeatAndConsumerIndexAreCaptured_legal :
    (let s := ring 5 62 true
     let v := 5
     v < 64 ∧ (v + 64 - s.mirror.consumer.val) % 64 ≤ (s.mirror.producer.val + 64 - s.mirror.consumer.val) % 64 ∧
       v ≠ s.mirror.consumer.val ∧ s.mirror.overflow = true ∧ (s.mirror.producer.val + 64 - v) % 64 < 63) ∧
    (let s := ring 61 62 true
     let v := 62
     v < 64 ∧ (v + 64 - s.mirror.consumer.val) % 64 ≤ (s.mirror.producer.val + 64 - s.mirror.consumer.val) % 64 ∧
       v = s.mirror.consumer.val) := by decide +kernel

theorem test_hyp_HeartbeatAndConsumerIndexAreCaptured_illegal :
    (let s := ring 5 62 false
     ¬((6 + 64 - s.mirror.consumer.val) % 64 ≤ (s.mirror.producer.val + 64 - s.mirror.consumer.val) % 64)) ∧
    ¬(64 < 64) := by decide +kernel

theorem test_hyp_TriggerWriteMakesARequest_cases :
    (mergeWord ((live.slot 3).shadow.get 7) 0x00050000 0xF).extractLsb' 0 8 = 0 ∧
    (mergeWord ((live.slot 3).shadow.get 7) 0x00050001 0xF).extractLsb' 0 8 ≠ 0 ∧ (live.slot 3).busy = none ∧
    ((asked live (request 0x02 [])).slot 3).busy ≠ none := by decide +kernel

theorem test_hyp_MirrorWindowIsGuarded :
    (0xFFBFFC : Addr).toNat % 4 = 0 ∧ live.path.outstanding = false ∧
    ((0xFFBFFC : Addr) - live.path.mirrorBase).toNat < 16384 ∧ ((0xFF8000 : Addr) - live.path.mirrorBase).toNat = 0 ∧
    live.path.guardInterval ≠ some live.clock.interval ∧ live.path.fence = none ∧
    RecordId.header.offset ≤ ((0xFF8000 : Addr) - live.path.mirrorBase).toNat ∧
    ((0xFF8000 : Addr) - live.path.mirrorBase).toNat < RecordId.header.offset + 4 * RecordId.header.words := by decide +kernel

theorem test_hyp_HostAccessCompletes :
    (onPort live (.host (access true 0x100 1 0xF)) none none).path.port = .host (access true 0x100 1 0xF) ∧
    (onPort live (.host (access false 0x100 0 0xF)) none none).path.port = .host (access false 0x100 0 0xF) ∧
    MemoryLaw live ∧ live.mirror.backlog = [] := ⟨rfl, rfl, rfl, rfl⟩

/-- Slot 3 ANSWERED, the last word of its record on the port. -/
def freeing (held : Option HostAccess) : State :=
  let s := onPort live (.backlog (aWord true true (.slot 3))) held none
  { s with
    intake :=
      { s.intake with slots := vput s.intake.slots 3 { s.slot 3 with busy := some (.answered, request 0x02 []) } } }

theorem test_hyp_BacklogWordCompletes :
    (freeing none).path.port = .backlog (aWord true true (.slot 3)) ∧ MemoryLaw (freeing none) ∧
    (freeing none).path.waiting = none ∧ (freeing none).path.backlogOwed = false ∧ (freeing none).path.heldRead = none ∧
    ((freeing none).slot 3).busy = some (.answered, request 0x02 []) ∧
    (freeing (some (access false 0xFF8000 0 0xF))).path.heldRead = some (access false 0xFF8000 0 0xF) ∧
    (onPort live (.backlog (aWord false false .header)) none none).path.port = .backlog (aWord false false .header) :=
  ⟨rfl, rfl, rfl, rfl, rfl, by decide +kernel, rfl, rfl⟩

/-- A host access on the port, a backlog behind it, and perhaps a held read or a waiting access. -/
def claimed (n : Nat) (alternation owed : Bool) (held waiting : Option HostAccess) : State :=
  onPort (withBacklog live n alternation owed) (.host (access false 0 0 0xF)) held waiting

/-- A backlog word that is not its record's last on the port, a backlog behind it, and perhaps a held read or a waiting access. -/
def wordOn (n : Nat) (alternation owed : Bool) (held waiting : Option HostAccess) : State :=
  onPort (withBacklog live n alternation owed) (.backlog (aWord false false .header)) held waiting

theorem test_hyp_ArbiterGrantsInOrder_completions :
    (OneAccessLaw (freeing (some (access false 0xFF8000 0 0xF))) ∧
      (freeing (some (access false 0xFF8000 0 0xF))).path.port = .backlog (aWord true true (.slot 3)) ∧
      (aWord true true (.slot 3)).last = true ∧
      (freeing (some (access false 0xFF8000 0 0xF))).path.heldRead = some (access false 0xFF8000 0 0xF)) ∧
    (OneAccessLaw (claimed 49 false false none none) ∧
      (claimed 49 false false none none).mirror.backlog =
        aWord false false .header :: List.replicate 48 (aWord false false .header) ∧
      (claimed 49 false false none none).path.port ≠ .free) ∧
    (OneAccessLaw (claimed 0 true true none none) ∧ (claimed 0 true true none none).mirror.backlog = []) ∧
    live.path.port = .free :=
  ⟨⟨⟨Or.inr rfl, fun _ h => nomatch h⟩, rfl, rfl, rfl⟩, ⟨⟨Or.inl rfl, fun _ _ => ⟨rfl, rfl⟩⟩, rfl, by decide⟩,
    ⟨⟨Or.inl rfl, fun _ _ => ⟨rfl, rfl⟩⟩, rfl⟩, rfl⟩

theorem test_hyp_ArbiterGrantsInOrder_claimants :
    (OneAccessLaw (wordOn 17 true false none (some (access true 0xFFF000 0 1))) ∧
      (wordOn 17 true false none (some (access true 0xFFF000 0 1))).path.heldRead = none ∧
      (wordOn 17 true false none (some (access true 0xFFF000 0 1))).path.waiting = some (access true 0xFFF000 0 1) ∧
      (wordOn 17 true false none (some (access true 0xFFF000 0 1))).path.backlogOwed = false) ∧
    (OneAccessLaw (wordOn 1 true true none (some (access false 0xFF8000 0 0xF))) ∧
      (wordOn 1 true true none (some (access false 0xFF8000 0 0xF))).path.alternation = true ∧
      (wordOn 1 true true none (some (access false 0xFF8000 0 0xF))).path.backlogOwed = true ∧
      (wordOn 1 true true none (some (access false 0xFF8000 0 0xF))).mirror.backlog ≠ []) ∧
    (OneAccessLaw (wordOn 1 false false (some (access false 0xFF8000 0 0xF)) none) ∧
      (wordOn 1 false false (some (access false 0xFF8000 0 0xF)) none).path.heldRead ≠ none) :=
  ⟨⟨⟨Or.inl rfl, fun _ h => nomatch h⟩, rfl, rfl, rfl⟩, ⟨⟨Or.inl rfl, fun _ h => nomatch h⟩, rfl, rfl, by decide⟩,
    ⟨⟨Or.inr rfl, fun _ h => nomatch h⟩, by decide⟩⟩

/-- No slot, no alert and nothing but bay 0 is dirty, and the port is BUSY. -/
def bayDirty (n : Nat) : State :=
  let s := claimed n false false none none
  { s with
    mirror :=
      { s.mirror with
        dirty :=
          { header := false, slots := Vector.replicate 16 false, bays := vput (Vector.replicate 48 false) 0 true
            roster := Vector.replicate 128 false, bookings := Vector.replicate 160 false, alerts := Vector.replicate 64 false
            logA := Vector.replicate 120 false, logB := Vector.replicate 120 false } } }

/-- Bay 0 alone is dirty there. -/
theorem bayDirty_first (n : Nat) : FirstInScan (bayDirty n).mirror (.bay 0) := by
  refine ⟨by simp [bayDirty, DirtySet.has], fun q hq => ?_⟩
  cases q with
  | bay b => exact Nat.add_le_add_left (Nat.zero_le b.val) 2000
  | log area i => cases area <;> simp [bayDirty, DirtySet.has] at hq
  | _ => simp [bayDirty, DirtySet.has] at hq

theorem test_hyp_RecordIsPushedWhole :
    (PortLaw (bayDirty 56) ∧ (bayDirty 56).path.watching = true ∧ FirstInScan (bayDirty 56).mirror (.bay 0) ∧
      (bayDirty 56).mirror.backlog.length + (RecordId.bay 0).words = 64 ∧ (bayDirty 56).path.port ≠ .free) ∧
    (PortLaw live ∧ live.path.port = .free ∧ FirstInScan live.mirror (.slot 0)) ∧
    (FirstInScan (bayDirty 57).mirror (.bay 0) ∧ (bayDirty 57).mirror.backlog.length + (RecordId.bay 0).words = 65) ∧
    (∀ r, ((bayDirty 0).mirror.dirty.clear (.bay 0)).has r = false) ∧ State.reset.path.watching = false := by
  refine ⟨⟨⟨⟨Or.inl rfl, fun _ _ => ⟨rfl, rfl⟩⟩, fun _ h => (nomatch h), fun h => nomatch h⟩, rfl, bayDirty_first 56, by
    decide +kernel, by decide⟩,
    ⟨⟨⟨Or.inl rfl, fun _ h => (nomatch h)⟩, fun _ h => (nomatch h), fun _ => ⟨rfl, rfl⟩⟩, rfl, by decide +kernel, fun q _ =>
      Nat.zero_le (scanRank _ q)⟩,
    ⟨bayDirty_first 57, by decide +kernel⟩, fun r => ?_, rfl⟩
  cases r with
  | bay b =>
    by_cases h : b = 0
    · subst h
      simp [DirtySet.clear, DirtySet.has]
    · simp [bayDirty, DirtySet.clear, DirtySet.has]
  | log area i => cases area <;> simp [bayDirty, DirtySet.clear, DirtySet.has]
  | _ => simp [bayDirty, DirtySet.clear, DirtySet.has]

theorem test_hyp_RecordWordsFollowTheLayouts :
    live.roster.entries.get 0 = none ∧ (oneAlert.mirror.alerts.get 0).isSome = true ∧ live.mirror.alerts.get 0 = none ∧
    live.mirror.logEntry .areaA 0 = none := by decide +kernel

/-! #### Clock and meter -/

theorem test_hyp_of_tick : live.clock.timerRunning = true ∧ State.reset.clock.timerRunning = false := ⟨rfl, rfl⟩

/-- The aging position at an entry last seen so many seconds before the tick's depot time, with bookings at the edges. -/
def aging (ago : Word) (b : List Booking) : State :=
  { withEntry live 0 (entry 7 none 0 (876602 - ago) 0) with book := b }

theorem test_hyp_TickScansBookAndRoster :
    (let s := aging 64801 [booking 0 8 (876602 - 21601) 1 .ready, booking 1 9 876602 1 .waiting]
     s.clock.timerRunning = true ∧ s.roster.entries.get s.roster.agingPosition = some (entry 7 none 0 (876602 - 64801) 0) ∧
       3600 * s.config.loaded.agingHours < 876602 - (876602 - 64801 : Word).toNat ∧ (∀ k ∈ s.book, k.tag ≠ 7) ∧
       (876602 - 21601 : Word).toNat + 60 * s.config.loaded.expiryHoldMinutes < 876602) ∧
    (let s := aging 64800 []
     ¬(3600 * s.config.loaded.agingHours < 876602 - (876602 - 64800 : Word).toNat)) ∧
    (let s := aging 64801 [booking 0 7 (876602 - 21600) 1 .waiting]
     ∃ k ∈ s.book, k.tag = 7 ∧ ¬(k.departure.toNat + 60 * s.config.loaded.expiryHoldMinutes < 876602)) := by decide +kernel

/-- The stale timer at a value, with the period given. -/
def staleAt (timer period : Nat) (plan : PlanState) : State :=
  { live with
    clock := { live.clock with staleTimer := timer, plan := plan }
    config := { live.config with loaded := { live.config.loaded with planStalePeriod := period } } }

theorem test_hyp_TickAdvancesTheClock :
    (staleAt 0 120 .autonomous).clock.plan = .autonomous ∧ (staleAt 0 0 .planned).config.loaded.planStalePeriod = 0 ∧
    ((staleAt 118 120 .planned).config.loaded.planStalePeriod ≤
      (staleAt 118 120 .planned).clock.staleTimer + (staleAt 118 120 .planned).config.loaded.intervalLength) ∧
    ¬((staleAt 117 120 .planned).config.loaded.planStalePeriod ≤
      (staleAt 117 120 .planned).clock.staleTimer + (staleAt 117 120 .planned).config.loaded.intervalLength) ∧
    (staleAt 120 120 .planned).clock.plan = .planned ∧ (staleAt 120 120 .planned).config.loaded.planStalePeriod ≠ 0 ∧
    (staleAt 120 120 .planned).config.loaded.planStalePeriod ≤ (staleAt 120 120 .planned).clock.staleTimer := by
  decide +kernel

theorem test_hyp_SetClockSetsDepotTime :
    Requested (asked live (request 0x10 [0xFFFFFFFF])) 3 (request 0x10 [0xFFFFFFFF]) [] ∧
    (request 0x10 [0xFFFFFFFF]).code = 0x10 ∧ (request 0x10 [0xFFFFFFFF]).words.get 0 = 4294967295 ∧
    live.clock.limitReached = false ∧ (request 0x10 [0xFFFFFFFE]).words.get 0 ≠ 4294967295 :=
  ⟨asked_requested _ _, by decide, by decide +kernel, rfl, by decide +kernel⟩

/-- A set of the worked budget's codes, or of the saturated codes, in progress. -/
theorem test_hyp_of_samples :
    (converting live).meter.conversion = .converting 6301 false ∧
    (converting live).meter.offsets = some { l1 := 2050, l2 := 2046, l3 := 2052 } ∧ InRange 1 4094 3010 ∧
    (converting live).allocator.pass = none ∧ ¬InRange 0 2900 3010 ∧ ¬InRange 2900 4095 3010 ∧
    (converting live).meter.latest = none := by
  unfold InRange
  decide +kernel

/-- A latest valid sample of an interval. -/
def sampled (s : State) (interval : Word) : State :=
  { s with meter := { s.meter with latest := some { pFeed := 450, interval := interval } } }

theorem test_hyp_UnusableSampleSkipsTheInterval :
    (let s := sampled (converting live) 6299
     s.meter.conversion = .converting 6301 false ∧ ¬InRange 4095 1 1 ∧ s.meter.latest = some { pFeed := 450, interval := 6299 } ∧
       (s.clock.interval - 6299).toNat ≤ 2 ∧ s.allocator.pass = none) ∧
    2 < ((sampled (converting live) 6298).clock.interval - 6298).toNat ∧ (converting live).meter.latest = none ∧
    (converting { live with allocator := { live.allocator with pass := some (live.snapshot 450) } }).allocator.pass ≠ none := by
  unfold InRange
  decide +kernel

/-- A meter with a feeder limit of 1,000 (threshold 950), overload and release run given; offsets 0 and scale such that the
feeder power is the first code. -/
def judging (overload : Bool) (run : Nat) : State :=
  let s := converting live
  { s with
    meter :=
      { s.meter with
        offsets := some { l1 := 0, l2 := 4000, l3 := 4000 }, overload := overload, releaseRun := run
        limits := { feederLimit := 1000, margin := 0, curtailCeiling := 0 } }
    config := { s.config with loaded := { s.config.loaded with phaseVoltage := 100, currentScale := 1000 } } }

theorem test_hyp_OverloadIsJudged :
    feederPowerOf (judging true 2).config.loaded { l1 := 0, l2 := 4000, l3 := 4000 } 950 1 1 = 950 ∧
    feederPowerOf (judging true 2).config.loaded { l1 := 0, l2 := 4000, l3 := 4000 } 951 1 1 = 951 ∧
    feederPowerOf (judging true 2).config.loaded { l1 := 0, l2 := 4000, l3 := 4000 } 1001 1 1 = 1001 ∧
    (judging true 2).meter.limits.feederLimit -
      (judging true 2).meter.limits.feederLimit * (judging true 2).config.loaded.releaseBand / 100 = 950 ∧
    (judging true 1).meter.releaseRun < 2 ∧ (judging true 2).meter.releaseRun = 2 ∧ (judging false 0).meter.overload = false ∧
    (judging true 2).meter.conversion = .converting 6301 false := by decide +kernel

/-- A requested calibration in flight for slot 3. -/
def calibrating : State :=
  { live with
    meter := { live.meter with calibration := .inFlight (.request 3) }
    intake :=
      { live.intake with slots := vput live.intake.slots 3 { live.slot 3 with busy := some (.inHand, request 0x13 []) } } }

theorem test_hyp_CalibrationBeginsAndCompletes_end :
    State.reset.meter.calibration = .inFlight .startUp ∧ State.reset.meter.conversion = .idle ∧
    calibrating.meter.calibration = .inFlight (.request 3) ∧ calibrating.meter.conversion = .idle ∧
    (calibrating.slot 3).busy = some (.inHand, request 0x13 []) ∧
    (((Vector.replicate 16 (1984 : Code)).toList.map BitVec.toNat).sum + 8) / 16 = 1984 ∧
    (((Vector.replicate 16 (2112 : Code)).toList.map BitVec.toNat).sum + 8) / 16 = 2112 ∧
    (((Vector.replicate 16 (1983 : Code)).toList.map BitVec.toNat).sum + 8) / 16 = 1983 ∧
    (((Vector.replicate 16 (2113 : Code)).toList.map BitVec.toNat).sum + 8) / 16 = 2113 := by decide +kernel

theorem test_hyp_CalibrationBeginsAndCompletes_begin :
    Requested (asked live (request 0x13 [])) 3 (request 0x13 []) [] ∧ (request 0x13 []).code = 0x13 ∧
    (asked live (request 0x13 [])).meter.calibration = .idle ∧
    Requested (asked State.reset (request 0x13 [])) 3 (request 0x13 []) [] ∧
    (asked State.reset (request 0x13 [])).meter.calibration ≠ .idle :=
  ⟨asked_requested _ _, by decide, rfl, asked_requested _ _, by decide +kernel⟩

theorem test_hyp_TickRaisesItsAlerts :
    (live.clock.timerRunning = true ∧ live.meter.calibration = .idle) ∧
    (calibrating.clock.timerRunning = true ∧ calibrating.meter.calibration = .inFlight (.request 3)) ∧
    ((calibrating.clock.interval + 1) - 6300 : Word).toNat = 2 ∧ ((calibrating.clock.interval + 1) - 6299 : Word).toNat = 3 := by
  decide +kernel

theorem test_hyp_SetLimitsIsChecked :
    Requested (asked live (request 0x12 [65535, 10000, 65535])) 3 (request 0x12 [65535, 10000, 65535]) [] ∧
    (request 0x12 [65535, 10000, 65535]).code = 0x12 ∧
    Requested (asked live (request 0x12 [65536, 0, 0])) 3 (request 0x12 [65536, 0, 0]) [] ∧
    Requested (asked live (request 0x12 [100, 10001, 0])) 3 (request 0x12 [100, 10001, 0]) [] ∧
    Requested (asked live (request 0x12 [100, 0, 65536])) 3 (request 0x12 [100, 0, 65536]) [] :=
  ⟨asked_requested _ _, by decide, asked_requested _ _, asked_requested _ _, asked_requested _ _⟩

/-- The curtail tail in minutes. -/
def withTail (s : State) (minutes : Nat) : State :=
  { s with config := { s.config with loaded := { s.config.loaded with curtailTailMinutes := minutes } } }

theorem test_hyp_CurtailFollowsItsInput_edges :
    ((changing live).meter.changePending = true ∧ (changing live).meter.filteredLevel = .released ∧
      (changing live).config.step = .inService ∧ (changing live).meter.curtail = .inactive) ∧
    ((changing (tailing 0)).meter.changePending = true ∧ (changing (tailing 0)).meter.curtail = .tail) ∧
    (changing State.reset).config.step ≠ .inService ∧
    ((changing (curtailed (withTail live 0))).meter.filteredLevel = .asserted ∧
      (changing (curtailed (withTail live 0))).config.loaded.curtailTailMinutes = 0) ∧
    (changing (curtailed live)).config.loaded.curtailTailMinutes ≠ 0 := by decide +kernel

theorem test_hyp_CurtailFollowsItsInput_tail :
    (tailing 298).clock.timerRunning = true ∧ (tailing 298).meter.curtail = .tail ∧
    60 * (tailing 298).config.loaded.curtailTailMinutes = (tailing 298).meter.tailElapsed + (tailing 298).config.loaded.intervalLength ∧
    ¬(60 * (tailing 297).config.loaded.curtailTailMinutes ≤
      (tailing 297).meter.tailElapsed + (tailing 297).config.loaded.intervalLength) ∧
    60 * (tailing 300).config.loaded.curtailTailMinutes ≤ (tailing 300).meter.tailElapsed := by decide +kernel

/-! #### Allocator, lanes and bays -/

theorem test_hyp_of_publication :
    passOne.allocator.pass = some ((depot 0 0 0 0 0 0).snapshot 450) ∧
    ((onLane passOne .sending [] none).lane 0).exchange.isSome = true ∧
    ((onLane passOne .sending [] none).bay (bayAt 0 2)).state ≠ .disabled := ⟨rfl, by decide +kernel, by decide +kernel⟩

theorem test_hyp_PassFollowsTheStages :
    (((depot 0 0 0 0 0 0).snapshot 450).bookings.map BookingSnap.tag).Nodup ∧
    (((depot 0 0 0 0 0 0).snapshot 450).bays.get 2).agreedMode = some .m2 ∧
    (((depot 0 0 0 0 0 0).snapshot 450).bays.get 2).state = .plugged := by decide +kernel

theorem test_hyp_LaneSendsAndListens :
    ((onLane live .sending [] none).lane 0).phase = .sending ∧ (live.lane 0).phase ≠ .sending ∧
    ((onLane live .listening [0x3C, 0x10] none).lane 0).receiver =
      some { octets := [0x3C, 0x10], stopMissing := false, impliedLength := none, trailing := false } ∧
    ((onLane live .listening pluggedReport (some 22)).lane 0).receiver =
      some { octets := pluggedReport, stopMissing := false, impliedLength := some 22, trailing := false } ∧
    ((onLane live .listening (pluggedReport.take 3) (some 22)).lane 0).receiver =
      some { octets := pluggedReport.take 3, stopMissing := false, impliedLength := some 22, trailing := false } ∧
    ((onLane live .listening (pluggedReport.take 3) none).lane 0).phase = .listening := by decide +kernel

/-- The same lane with its round ended or a round start pending. -/
def laneRound (s : State) (running pendingStart : Bool) : State :=
  { s with lanes := vput s.lanes 0 { s.lane 0 with roundRunning := running, pendingStart := pendingStart } }

theorem test_hyp_ExchangeEnds :
    (let s := onLane live .listening pluggedReport (some 22)
     (s.lane 0).phase = .listening ∧ (s.lane 0).exchange.isSome = true ∧ pluggedReport.length = 22 ∧
       (s.lane 0).pendingStart = false ∧ (s.lane 0).roundRunning = true ∧ (s.lane 0).position = 0 ∧ s.due 0 1 = true) ∧
    ((laneRound (onLane live .listening [] none) false false).lane 0).roundRunning = false ∧
    ((laneRound (onLane live .listening [] none) true true).lane 0).pendingStart = true ∧
    ((laneRound (onLane live .listening [] none) false true).lane 0).pendingStart = true ∧
    (let s := onLane (depot 0 0 0 0 0 0) .listening [] none
     ∀ d, (2 : Drop) < d → s.due 0 d = false) := by decide +kernel

/-- What a receiver holds of a report to a frame of drop 0, judged; `implied` is the implied length. -/
def judged (kind : FrameKind) (octets : List Byte) (implied : Option Nat) (trailing : Bool) : ExchangeOutcome :=
  judgeExchange { drop := 0, kind := kind, capabilityRequest := false, toggle := true, value := 0 }
    { octets := octets, stopMissing := false, impliedLength := implied, trailing := trailing }

theorem test_hyp_ExchangeIsJudgedInOrder_failures :
    judged .poll [0x3D] none false = .failed .framing ∧ judged .poll [0x3C, 0x00, 0x00] none false = .failed .flags ∧
    judged .poll [0x3C, 0x00] none false = .failed .timeout ∧ judged .poll [] none false = .failed .timeout ∧
    judged .poll pluggedReport (some 22) true = .failed .overrun ∧
    judged .poll (pluggedReport.set 8 1) (some 22) false = .failed .crc ∧
    judged .stop pluggedReport (some 22) false = .failed .downlink := by decide +kernel

theorem test_hyp_ExchangeIsJudgedInOrder_good :
    judged .poll pluggedReport (some 22) false =
      .good
        { status := .accept, toggleEcho := false, plug := some (7, 100), postSet := 0xF, vanSet := some 0xF, applied := 0,
          postCeiling := 220, measuredPower := 0, meter := 5 } := by decide +kernel

theorem test_hyp_FrameFollowsTheTable :
    (let s := { depot 0 0 0 0 0 0 with
        allocator := { live.allocator with front := ((depot 0 0 0 0 0 0).snapshot 450).plane } }
     let t := withBay s 0 fun b => { b with armed := true }
     (t.frameFor 0 0).exchange.kind = .setpoint ∧ (t.frameFor 0 0).exchange.value = 110 ∧ (t.bay 0).state = .plugged ∧
       (t.bay 0).agreedMode = some .m3 ∧ (t.bay 4).state ≠ .plugged) ∧
    (let s := depot 0 0 0 0 0 0
     ({ s with allocator := { s.allocator with standDown := true } } : State).allocator.standDown = true) := by decide +kernel

/-- A report. -/
def report (status : ReportStatus) (plug : Option (Tag × Nat)) (vanSet : Option ModeSet) (applied : Nat) : Report :=
  { status := status, toggleEcho := false, plug := plug, postSet := 0xF, vanSet := vanSet, applied := applied, postCeiling := 220,
    measuredPower := 0, meter := 5 }

/-- Bay 0 in a state with a bound tag. -/
def bayIn (st : BayState) (tag : Option Tag) : State := withBay live 0 fun b => { b with state := st, boundTag := tag }

theorem test_hyp_FailedExchangeIsCounted :
    (let s := withBay live 0 fun b => { b with failureCount := 3 }
     (s.bay 0).state ≠ .disabled ∧
       min s.config.loaded.failureLimit ((s.bay 0).failureCount + 1) = s.config.loaded.failureLimit) ∧
    (let s := withBay live 0 fun b => { b with failureCount := 2 }
     min s.config.loaded.failureLimit ((s.bay 0).failureCount + 1) ≠ s.config.loaded.failureLimit) := by decide +kernel

/-! #### Requests to bays, book and roster -/

/-- Entries that all differ in tag and name no bay pair with bays that hold no tag. -/
theorem pairing_of_parked {s : State} (tagAt : RosterIx → Tag) (hinj : ∀ i j, tagAt i = tagAt j → i = j)
    (h : ∀ i e, s.roster.entries.get i = some e → e.tag = tagAt i ∧ e.bay = none) (hb : ∀ b, (s.bay b).boundTag = none) :
    PairingLaw s :=
  ⟨fun i j e f he hf ht => hinj i j ((h i e he).1 ▸ (h j f hf).1 ▸ ht),
    fun i e _ he hbay => (nomatch (h i e he).2.symm.trans hbay),
    fun b tag ht => by
      rw [hb] at ht
      cases ht⟩

/-- Indices as tags differ. -/
theorem tag_of_index_inj (i j : RosterIx) (h : BitVec.ofNat 48 i.val = BitVec.ofNat 48 j.val) : i = j := by
  have := congrArg BitVec.toNat h
  simp only [BitVec.toNat_ofNat] at this
  exact Fin.ext (by omega)

/-- An empty roster with no bound bay. -/
theorem pairing_of_empty {s : State} (h : ∀ i, s.roster.entries.get i = none) (hb : ∀ b, (s.bay b).boundTag = none) :
    PairingLaw s :=
  pairing_of_parked (fun i => BitVec.ofNat 48 i.val) tag_of_index_inj (fun i e he => nomatch (h i).symm.trans he) hb

/-- One van, BOUND to a bay that names it. -/
def oneBound (st : BayState) : State :=
  withEntry
    (withBay live 0 fun b =>
      { b with state := st, boundTag := some 7, agreedMode := if st = .plugged then some .m1 else none })
    0 (entry 7 (some 0) 800000 876598 100)

theorem oneBound_pairing (st : BayState) : PairingLaw (oneBound st) := by
  have hr : ∀ i e, (oneBound st).roster.entries.get i = some e → i = 0 ∧ e = entry 7 (some 0) 800000 876598 100 := by
    intro i e he
    by_cases hi : i = 0
    · subst hi
      simp only [oneBound, withEntry, vput_get_self, Option.some.injEq] at he
      exact ⟨rfl, he.symm⟩
    · simp [oneBound, withEntry, withBay, live, State.reset, vput_get_of_ne _ _ hi] at he
  have hb : ∀ b, ((oneBound st).bay b).boundTag = if b = 0 then some 7 else none := by
    intro b
    by_cases h : b = 0
    · subst h
      simp [oneBound, withEntry, withBay, State.bay]
    · simp [oneBound, withEntry, withBay, State.bay, vput_get_of_ne _ _ h, h, live, State.reset, BayRecord.atReset]
  refine ⟨fun i j e f he hf _ => (hr i e he).1.trans (hr j f hf).1.symm, fun i e b he hbay => ?_, fun b tag ht => ?_⟩
  · rw [(hr i e he).2] at hbay ⊢
    simp only [entry, Option.some.injEq] at hbay
    rw [hb, if_pos hbay.symm]
    rfl
  · rw [hb] at ht
    by_cases h : b = 0
    · rw [if_pos h, Option.some.injEq] at ht
      exact ⟨0, entry 7 (some 0) 800000 876598 100, by simp [oneBound, withEntry], ht, congrArg some h.symm⟩
    · rw [if_neg h] at ht
      cases ht

/-- A full roster of parked vans, index `i` holding tag `i` last seen at `100 + i`, with the bookings given. -/
def parked (b : List Booking) : State :=
  { live with
    roster := { live.roster with entries := Vector.ofFn fun i => some (entry (BitVec.ofNat 48 i.val) none 0 (BitVec.ofNat 32 (100 + i.val)) 0) }
    book := b }

theorem parked_pairing (b : List Booking) : PairingLaw (parked b) :=
  pairing_of_parked (fun i => BitVec.ofNat 48 i.val) tag_of_index_inj
    (fun i e he => by
      simp only [parked, ofFn_get, Option.some.injEq] at he
      rw [← he]
      exact ⟨rfl, rfl⟩)
    (fun b => by simp [parked, live, State.reset, State.bay, BayRecord.atReset])

theorem asked_pairing {s : State} (req : Request) (h : PairingLaw s) : PairingLaw (asked s req) := h

theorem test_hyp_SetBayIsCheckedAndTaken_checks :
    (∀ w : Word, Requested (asked live (request 0x11 [47, w, 221])) 3 (request 0x11 [47, w, 221]) []) ∧
    (request 0x11 [47, 1]).code = 0x11 ∧
    ((request 0x11 [47, 0]).words.get 1).toNat = 0 ∧ 4 < ((request 0x11 [47, 5]).words.get 1).toNat ∧
    ((request 0x11 [48, 1]).words.get 0).toNat = 48 ∧ ((request 0x11 [47, 3, 221]).words.get 2).toNat = 221 ∧
    ((request 0x11 [47, 4, 16]).words.get 2).toNat = 16 ∧
    (lanesInService (depot 0 0 0 0 0 0).config.straps ≤ (8 : BayNo).val / 8 ∧
      (7 : BayNo).val / 8 < lanesInService (depot 0 0 0 0 0 0).config.straps) :=
  ⟨fun _ => asked_requested _ _, by decide, by decide +kernel⟩

theorem test_hyp_SetBayIsCheckedAndTaken_actions :
    (∀ ws, Requested (asked (oneBound .plugged) (request 0x11 ws)) 3 (request 0x11 ws) [] ∧
      PairingLaw (asked (oneBound .plugged) (request 0x11 ws))) ∧
    BookLaw (oneBound .plugged) ∧ ((request 0x11 [0, 2]).words.get 0).toNat = (0 : BayNo).val ∧
    (0 : BayNo).val / 8 < lanesInService (oneBound .plugged).config.straps ∧
    ((request 0x11 [0, 1]).words.get 1).toNat = 1 ∧ ((request 0x11 [0, 2]).words.get 1).toNat = 2 ∧
    ((request 0x11 [0, 3, 220]).words.get 1).toNat = 3 ∧ ((request 0x11 [0, 3, 220]).words.get 2).toNat = 220 ∧
    ((request 0x11 [0, 4, 15]).words.get 1).toNat = 4 ∧ ((request 0x11 [0, 4, 15]).words.get 2).toNat = 15 ∧
    ((oneBound .plugged).bay 0).state = .plugged ∧ ((bayIn .disabled none).bay 0).state = .disabled ∧
    ((bayIn .closing none).bay 0).state = .closing :=
  ⟨fun _ => ⟨asked_requested _ _, asked_pairing _ (oneBound_pairing _)⟩, by unfold BookLaw; decide +kernel, by decide +kernel⟩

/-! #### Good reports -/

/-- A record of a bay changed otherwise than in its bound tag keeps bays and entries paired. -/
theorem withBay_pairing {s : State} (b : BayNo) (f : BayRecord → BayRecord)
    (hf : (f (s.bay b)).boundTag = (s.bay b).boundTag) (h : PairingLaw s) : PairingLaw (withBay s b f) := by
  have hb : ∀ c, ((withBay s b f).bay c).boundTag = (s.bay c).boundTag := by
    intro c
    by_cases hc : c = b
    · subst hc
      simp only [withBay, State.bay, vput_get_self]
      exact hf
    · simp only [withBay, State.bay, vput_get_of_ne _ _ hc]
  exact ⟨h.1, fun i e c he hbay => (hb c).trans (h.2.1 i e c he hbay), fun c tag ht => h.2.2 c tag ((hb c).symm.trans ht)⟩

/-- Van 7 at bay 0 as before, and reported by bay 5 while bay 0 holds it. -/
def reportedTwice : State :=
  withBay (oneBound .plugged) 5 fun b => { b with state := .unlisted, unlistedTag := some 7 }

/-- An answer to a POLL with the capability request. -/
def polled : Exchange := { drop := 0, kind := .poll, capabilityRequest := true, toggle := false, value := 0 }

theorem test_hyp_GoodReportMovesTheBay_kept_binding :
    (∀ st, PairingLaw (oneBound st)) ∧
    (∀ st ∈ [BayState.plugged, .incompatible, .lost, .faulted, .agreeing],
      let old := ((oneBound st).reported 0 polled (report .accept (some (7, 100)) none 0)).bay 0
      old.state = st ∧ old.boundTag = some 7) ∧
    (report .accept (some (7, 100)) (some 0) 0).vanSet = some 0 ∧ highestMode ((0 : ModeSet) &&& 0xF &&& 0xF) = none ∧
    highestMode ((0xF : ModeSet) &&& 0x7 &&& 0xF) = some .m3 ∧
    (polled.kind = .poll ∧ polled.capabilityRequest = true ∧ (report .accept (some (7, 100)) none 0).status = .accept) :=
  ⟨oneBound_pairing, by decide +kernel⟩

theorem test_hyp_GoodReportMovesTheBay_no_binding :
    (∀ st, PairingLaw (bayIn st none)) ∧
    (∀ st ∈ [BayState.disabled, .closing, .empty, .dozing, .faulted, .lost],
      (((bayIn st none).reported 0 polled (report .busy none none 0)).bay 0).state = st) ∧
    (report .refuse none none 0).status = .refuse ∧ (report .busy none none 0).status = .busy ∧
    (PairingLaw reportedTwice ∧
      (let old := (reportedTwice.reported 5 polled (report .accept (some (7, 100)) none 0)).bay 5
       old.state = .unlisted ∧ old.unlistedTag = some 7) ∧
      reportedTwice.roster.entries.get 0 = some (entry 7 (some 0) 800000 876598 100)) := by
  refine ⟨fun st => pairing_of_empty (fun i => ?_) (fun b => ?_), by decide +kernel, rfl, rfl,
    withBay_pairing 5 _ rfl (oneBound_pairing _), by decide +kernel⟩
  · simp [bayIn, withBay, live, State.reset]
  · by_cases h : b = 0
    · subst h
      simp [bayIn, withBay, State.bay]
    · simp [bayIn, withBay, State.bay, vput_get_of_ne _ _ h, live, State.reset, BayRecord.atReset]

theorem oneBound_binding :
    BindingLaw (oneBound .agreeing) ∧ BindingLaw (oneBound .plugged) ∧ BindingLaw (oneBound .faulted) ∧
    BindingLaw (oneBound .lost) ∧ BindingLaw reportedTwice ∧ BindingLaw live := by
  refine ⟨?_, ?_, ?_, ?_, ?_, ?_⟩ <;> unfold BindingLaw <;> decide +kernel

theorem test_hyp_ReportReleasesAndBinds :
    (PairingLaw (oneBound .lost) ∧ BindingLaw (oneBound .lost) ∧ BookLaw (oneBound .lost) ∧
      (((oneBound .lost).reported 0 polled (report .accept none none 0)).bay 0).state = .lost ∧
      (((oneBound .lost).reported 0 polled (report .busy (some (9, 100)) none 0)).bay 0).boundTag = some 7 ∧ (7 : Tag) ≠ 9) ∧
    (PairingLaw live ∧ BindingLaw live ∧ BookLaw live ∧
      (((live).reported 0 polled (report .accept (some (9, 100)) none 0)).bay 0).state = .empty) ∧
    (PairingLaw reportedTwice ∧ BindingLaw reportedTwice ∧ BookLaw reportedTwice ∧
      ((reportedTwice.reported 5 polled (report .accept (some (9, 100)) none 0)).bay 5).unlistedTag ≠ some 9 ∧
      ((reportedTwice.reported 5 polled (report .accept (some (9, 100)) none 0)).bay 5).state = .unlisted) :=
  ⟨⟨oneBound_pairing _, oneBound_binding.2.2.2.1, by unfold BookLaw; decide +kernel, by decide +kernel⟩,
    ⟨pairing_of_empty (by decide +kernel) (by decide +kernel), oneBound_binding.2.2.2.2.2, by unfold BookLaw; decide +kernel,
      by decide +kernel⟩,
    ⟨withBay_pairing 5 _ rfl (oneBound_pairing _), oneBound_binding.2.2.2.2.1, by unfold BookLaw; decide +kernel,
      by decide +kernel⟩⟩

theorem test_hyp_MeterDeltaIsCounted : PairingLaw (oneBound .plugged) ∧ BindingLaw (oneBound .plugged) :=
  ⟨oneBound_pairing _, oneBound_binding.2.1⟩

/-- Van 7 at bay 0 while the plan is AUTONOMOUS. -/
def orphaned : State := { oneBound .plugged with clock := { live.clock with plan := .autonomous } }

theorem test_hyp_BookFollowsTheVan :
    BindingLaw orphaned ∧ BookLaw orphaned ∧
    (let u := orphaned.reported 0 polled (report .accept (some (7, 100)) none 0)
     let t := orphaned.goodReport 0 polled (report .accept (some (7, 100)) none 0)
     (t.bay 0).boundTag = (u.bay 0).boundTag ∧ (t.bay 0).state = .plugged ∧ (t.bay 0).boundTag = some 7 ∧ u.book = [] ∧
       orphaned.clock.plan = .autonomous ∧ orphaned.clock.valid = true ∧ u.rosterEntry 7 ≠ none ∧
       t.book.map Booking.departure = [882000]) ∧
    (let u := (oneBound .plugged).reported 0 polled (report .accept (some (7, 100)) none 0)
     let t := (oneBound .plugged).goodReport 0 polled (report .accept (some (7, 100)) none 0)
     (t.bay 0).boundTag = (u.bay 0).boundTag ∧ (oneBound .plugged).clock.plan = .planned) :=
  ⟨oneBound_binding.2.1, by unfold BookLaw; decide +kernel, by decide +kernel⟩

/-- A BOOK request for tag 7. -/
def bookRequest (departure target flag power lead : Word) : Request := request 0x01 [7, 0, departure, target, flag, power, lead]

/-- A book of bookings for the tags 1,000 and up, one at each internal index. -/
def fullBook (n : Nat) : List Booking :=
  ((List.finRange 160).take n).map fun i => booking i (BitVec.ofNat 48 (1000 + i.val)) 900000 1 .waiting

theorem test_hyp_BookIsCheckedAndPlaced :
    Requested (asked evening (bookRequest 876601 20000 1 100 120)) 3 (bookRequest 876601 20000 1 100 120) [] ∧
    (bookRequest 876601 20000 1 100 120).code = 0x01 ∧ BookLaw (asked evening (bookRequest 876601 20000 1 100 120)) :=
  ⟨asked_requested _ _, by decide +kernel, by unfold BookLaw; decide +kernel⟩

theorem test_hyp_BookIsCheckedAndPlaced_checks :
    bookRefusal (asked State.reset (bookRequest 876601 1 0 0 0)) (bookRequest 876601 1 0 0 0) 7 = some (.noClock, 0) ∧
    bookRefusal live (bookRequest 876600 1 0 0 0) 7 = some (.badField, 1) ∧
    bookRefusal live (bookRequest 876601 0 0 0 0) 7 = some (.badField, 2) ∧
    bookRefusal live (bookRequest 876601 20001 0 0 0) 7 = some (.badField, 2) ∧
    bookRefusal live (bookRequest 876601 1 1 101 0) 7 = some (.badField, 3) ∧
    bookRefusal live (bookRequest 876601 1 1 100 121) 7 = some (.badField, 4) ∧
    bookRefusal live (bookRequest 876601 20000 1 100 120) 7 = none ∧
    bookRefusal { live with book := fullBook 159 } (bookRequest 876601 1 0 0 0) 7 = none ∧
    bookRefusal { live with book := fullBook 160 } (bookRequest 876601 1 0 0 0) 7 = some (.full, 160) := by decide +kernel

theorem test_hyp_BookIsCheckedAndPlaced_clauses :
    ((oneBound .plugged).rosterEntry 7 = some (entry 7 (some 0) 800000 876598 100)) ∧ live.rosterEntry 7 = none ∧
    evening.booking 7 = none ∧ (evening.booking 0x00B20E400341).isSome = true := by decide +kernel

theorem test_hyp_CancelAndForgetRemoveByTag_cancel :
    Requested (asked evening (request 0x02 [0x0E400341, 0x00B2])) 3 (request 0x02 [0x0E400341, 0x00B2]) [] ∧
    (request 0x02 [0x0E400341, 0x00B2]).code = 0x02 ∧ BookLaw (asked evening (request 0x02 [0x0E400341, 0x00B2])) ∧
    (∃ k ∈ evening.book, k.tag = ((request 0x02 [0x0E400341, 0x00B2]).words.get 1).extractLsb' 0 16 ++
      (request 0x02 [0x0E400341, 0x00B2]).words.get 0) ∧
    ∀ k ∈ evening.book, k.tag ≠ ((request 0x02 [7, 0]).words.get 1).extractLsb' 0 16 ++ (request 0x02 [7, 0]).words.get 0 :=
  ⟨asked_requested _ _, by decide +kernel, by unfold BookLaw; decide +kernel, by decide +kernel, by decide +kernel⟩

theorem test_hyp_BindRequestIsDecided_held_tag :
    (PairingLaw (oneBound .lost) ∧ ((oneBound .lost).bay 5).boundTag = none ∧ ((oneBound .lost).bay 0).state = .lost ∧
      (oneBound .lost).roster.entries.get 0 = some (entry 7 (some 0) 800000 876598 100)) ∧
    (PairingLaw (oneBound .plugged) ∧ ((oneBound .plugged).bay 5).boundTag = none ∧ ((oneBound .plugged).bay 0).state ≠ .lost) ∧
    (PairingLaw (parked []) ∧ ((parked []).bay 5).boundTag = none ∧
      (parked []).roster.entries.get 7 = some (entry 7 none 0 107 0)) :=
  ⟨⟨oneBound_pairing _, by decide +kernel, by decide +kernel, by decide +kernel⟩,
    ⟨oneBound_pairing _, by decide +kernel, by decide +kernel⟩,
    ⟨parked_pairing _, by decide +kernel, by decide +kernel⟩⟩

theorem test_hyp_BindRequestIsDecided_new_tag :
    (PairingLaw (oneBound .plugged) ∧ (oneBound .plugged).roster.entries.get 1 = none ∧
      (oneBound .plugged).roster.entries.get 0 ≠ none) ∧
    (PairingLaw (parked [booking 0 0 900000 1 .waiting]) ∧ (∀ i, (parked []).roster.entries.get i ≠ none) ∧
      (parked []).roster.entries.get 1 = some (entry 1 none 0 101 0)) ∧
    (PairingLaw (parked ((List.finRange 160).map fun i => booking i (BitVec.ofNat 48 i.val) 900000 1 .waiting)) ∧
      ∀ i : RosterIx, ∃ k ∈ (List.finRange 160).map fun i => booking i (BitVec.ofNat 48 i.val) 900000 1 .waiting,
        k.tag = BitVec.ofNat 48 i.val) :=
  ⟨⟨oneBound_pairing _, by decide +kernel, by decide +kernel⟩, ⟨parked_pairing _, by decide +kernel, by decide +kernel⟩,
    ⟨parked_pairing _, by decide +kernel⟩⟩

theorem test_hyp_BindRequestIsDecided_book :
    BookLaw (oneBound .lost) ∧ BookLaw (oneBound .plugged) ∧ BookLaw (oneBound .faulted) ∧
    BookLaw (parked [booking 0 0 900000 1 .waiting]) ∧
    BookLaw (parked [booking 0 7 900000 100 .short]) ∧
    BookLaw (parked ((List.finRange 160).map fun i => booking i (BitVec.ofNat 48 i.val) 900000 1 .waiting)) := by
  unfold BookLaw
  decide +kernel

theorem test_hyp_CancelAndForgetRemoveByTag_forget :
    (Requested (asked (parked []) (request 0x03 [127, 0])) 3 (request 0x03 [127, 0]) [] ∧
      PairingLaw (asked (parked []) (request 0x03 [127, 0])) ∧ (request 0x03 [127, 0]).code = 0x03 ∧
      (parked []).roster.entries.get 127 = some (entry 127 none 0 227 0)) ∧
    (Requested (asked (oneBound .plugged) (request 0x03 [7, 0])) 3 (request 0x03 [7, 0]) [] ∧
      PairingLaw (asked (oneBound .plugged) (request 0x03 [7, 0]))) ∧
    (Requested (asked live (request 0x03 [7, 0])) 3 (request 0x03 [7, 0]) [] ∧ ∀ i, live.roster.entries.get i = none) :=
  ⟨⟨asked_requested _ _, asked_pairing _ (parked_pairing _), by decide, by decide +kernel⟩,
    ⟨asked_requested _ _, asked_pairing _ (oneBound_pairing _)⟩, ⟨asked_requested _ _, by decide +kernel⟩⟩

theorem test_hyp_UnknownCodeIsAnswered :
    Requested (asked live (request 0x04 [])) 3 (request 0x04 []) [] ∧
    ∀ c ∈ [(0x01 : Byte), 0x02, 0x03, 0x10, 0x11, 0x12, 0x13, 0x1F], (request 0x04 []).code ≠ c :=
  ⟨asked_requested _ _, by decide⟩

/-! #### The invariants -/

/-- The part in service with a heartbeat write waiting. -/
def stepping : State := { live with pending := [.heartbeatWrite 0 1] }

theorem test_hyp_of_steps :
    (∃ t, step stepping = .next t) ∧ MemoryLaw stepping ∧ BacklogLaw stepping ∧ BookLaw stepping ∧ WindowLaw stepping ∧
    FenceLaw stepping :=
  ⟨⟨_, rfl⟩, rfl, by unfold BacklogLaw; decide +kernel, by unfold BookLaw; decide +kernel, by unfold WindowLaw; decide +kernel,
    ⟨fun _ h => (nomatch h), fun _ h => nomatch h⟩⟩

/-- A BOOK at the head of the queue of a depot that holds another booking, a roster entry and a PLUGGED bay. -/
def booking7 : State :=
  { asked evening (bookRequest 876601 20000 1 100 120) with pending := [.book] }

/-- A RESTART of that depot. -/
def restarting7 : State := { asked evening (request 0x1F []) with pending := [.restart] }

theorem test_hyp_StepsMarkWhatTheyChange :
    (StartUpLaw booking7 ∧ BookLaw booking7 ∧ StartUpLaw restarting7 ∧ BookLaw restarting7) ∧
    (∃ t, step booking7 = .next t ∧ t.book.length ≠ booking7.book.length ∧
      t.recordWords (.slot 3) ≠ booking7.recordWords (.slot 3)) ∧
    ∃ t, step restarting7 = .next t ∧ t.book = [] ∧ restarting7.book ≠ [] :=
  ⟨⟨fun h => absurd rfl h, by unfold BookLaw; decide +kernel, fun h => absurd rfl h, by unfold BookLaw; decide +kernel⟩,
    ⟨_, rfl, by decide +kernel, by decide +kernel⟩, ⟨_, rfl, by decide +kernel, by decide +kernel⟩⟩

theorem test_hyp_StepsMarkWhatTheyChange_start_up : StartUpLaw loading :=
  fun _ => ⟨rfl, fun r => by
    rcases r with _ | n | b | i | i | i | ⟨_ | _, i⟩ <;> first | rfl | simp [loading, State.reset, DirtySet.has]⟩

theorem test_hyp_StepsKeepTheFailureLaw : FailureLaw stepping := by
  unfold FailureLaw
  decide +kernel

theorem test_hyp_StepsKeepTheBindingLaw : BindingLaw stepping := by
  unfold BindingLaw
  decide +kernel

theorem test_hyp_StepsKeepThePairing : PairingLaw stepping ∧ BindingLaw stepping ∧ LoadingIsQuiet stepping :=
  ⟨pairing_of_empty (by decide +kernel) (by decide +kernel), test_hyp_StepsKeepTheBindingLaw, fun h => nomatch h⟩

theorem test_hyp_StepsKeepTheQueueLaw : QueueLaw stepping := by
  refine ⟨by decide +kernel, fun n => ⟨fun h => (nomatch h), fun ⟨req, h⟩ => ?_⟩, fun n h => nomatch h⟩
  have hn : (stepping.slot n).busy = none := by simp [stepping, live, State.reset, State.slot]
  exact nomatch hn.symm.trans h

theorem test_hyp_StepsKeepTheFence : FenceLaw stepping ∧ LoadingIsUnwatched stepping :=
  ⟨⟨fun _ h => (nomatch h), fun _ h => nomatch h⟩, fun h => nomatch h⟩

theorem test_hyp_StepsKeepThePortLaw : PortLaw stepping :=
  ⟨⟨Or.inl rfl, fun _ h => (nomatch h)⟩, fun _ h => (nomatch h), fun _ => ⟨rfl, rfl⟩⟩

end Sys2Proof.Tests
end

section
/-!
PROOF. Marking (R146): what the records of the mirror window show, and that every operation of the part marks dirty each
record that it makes show something else. `Tracks` is the relation that the operations keep; it is proved of each operation
once, in the order of the model's files, and StepsMarkWhatTheyChange is read off it.
-/

namespace Sys2Proof.Machine

open Sys2Proof

/-- Raising an alert leaves dirty what was dirty. -/
theorem State.raise_dirty {s : State} {r : RecordId} (h : s.mirror.dirty.has r = true) (kind : AlertKind) (bay : Option BayNo)
    (tag : Option Tag) : (s.raise kind bay tag).mirror.dirty.has r = true := (s.raise_raises kind bay tag).2.1 r h

/-- Writing a log record marks the header. -/
theorem State.writeLog_header (s : State) (r : LogRecord) : (s.writeLog r).mirror.dirty.has .header = true := by
  unfold State.writeLog
  dsimp only
  split
  · exact State.raise_dirty (by simp [DirtySet.has_mark]) _ _ _
  · simp [DirtySet.has_mark]

/-- Handing over a log record marks the header. -/
theorem State.handLog_header (s : State) (r : LogRecord) : (s.handLog r).mirror.dirty.has .header = true :=
  State.writeLog_header _ _

/-! ### What a record shows -/

/-- Everything that the mirror header shows, its generation count apart (R150). -/
structure HeaderFields where
  autonomous : Bool
  clockValid : Bool
  overload : Bool
  curtail : Bool
  standDown : Bool
  overflow : Bool
  defaults : Bool
  depotSeconds : Word
  interval : Word
  lastB : Nat
  skipCount : Nat
  producer : RingIx
  consumer : RingIx
  guardCount : Nat
  logArea : LogArea
  logIndex : LogIx
  rosterCount : Nat
  bookCount : Nat

/-- The header's fields as they stand in a state. -/
def State.headerFields (s : State) : HeaderFields where
  autonomous := s.clock.plan.isAutonomous
  clockValid := s.clock.valid
  overload := s.meter.overload
  curtail := s.meter.curtail.inForce
  standDown := s.allocator.standDown
  overflow := s.mirror.overflow
  defaults := s.config.source == .defaults
  depotSeconds := s.clock.depotSeconds
  interval := s.clock.interval
  lastB := s.allocator.lastB
  skipCount := s.allocator.skipCount
  producer := s.mirror.producer
  consumer := s.mirror.consumer
  guardCount := s.mirror.guardCount
  logArea := s.mirror.logArea
  logIndex := s.mirror.logIndex
  rosterCount := s.rosterCount
  bookCount := s.book.length

/-- A record shows in `t` what it shows in `s`, generation counts apart. -/
def SameShown (s t : State) : RecordId → Prop
  | .header => t.headerFields = s.headerFields
  | .slot n => (t.slot n).result = (s.slot n).result
  | .bay b => t.bay b = s.bay b
  | .roster i => t.roster.entries.get i = s.roster.entries.get i
  | .booking i => t.bookRecord i = s.bookRecord i
  | .alert i => t.mirror.alerts.get i = s.mirror.alerts.get i
  | .log a i => t.mirror.logEntry a i = s.mirror.logEntry a i

theorem SameShown.refl (s : State) (r : RecordId) : SameShown s s r := by cases r <;> rfl

theorem SameShown.trans {s x t : State} {r : RecordId} (h : SameShown s x r) (g : SameShown x t r) : SameShown s t r := by
  cases r <;> exact Eq.trans g h

/-- A record that shows the same has the same words but for its generation count. -/
theorem SameShown.recordWords {s t : State} {r : RecordId} (h : SameShown s t r) :
    ({ t with mirror := { t.mirror with generations := s.mirror.generations } } : State).recordWords r = s.recordWords r := by
  cases r with
  | header =>
    simp only [SameShown, State.headerFields, HeaderFields.mk.injEq, State.rosterCount] at h
    simp only [State.recordWords, headerWords, State.rosterCount, h]
  | slot n => exact congrArg slotWords h
  | bay b => exact congrArg (bayWords _) h
  | roster i => exact congrArg (rosterWords _) h
  | booking i => exact congrArg (bookingWords _) h
  | alert i => exact congrArg alertWords h
  | log a i => exact congrArg logWords h

/-! ### The relation -/

/-- From `s` to `t` every record that has come to show something else is dirty, and what was dirty still is; while the header is
`owed`, nothing is said of it yet. The book's internal indices stay apart, and neither the mode nor the end of start-up has
moved. -/
structure Tracks (owed : Bool) (s t : State) : Prop where
  records : ∀ r, (owed = true → r ≠ .header) →
    t.mirror.dirty.has r = true ∨ (s.mirror.dirty.has r = false ∧ SameShown s t r)
  indices : (s.book.map Booking.index).Nodup → (t.book.map Booking.index).Nodup
  watching : t.path.watching = s.path.watching
  service : t.config.step = .inService ↔ s.config.step = .inService

namespace Tracks

variable {o : Bool} {s x t : State}

theorem refl (s : State) : Tracks false s s where
  records r _ := by
    cases h : s.mirror.dirty.has r
    · exact .inr ⟨rfl, .refl s r⟩
    · exact .inl rfl
  indices := id
  watching := rfl
  service := Iff.rfl

/-- One more change, of which each record that it touches becomes dirty. -/
theorem next (h : Tracks o s x)
    (hr : ∀ r, (o = true → r ≠ .header) →
      t.mirror.dirty.has r = true ∨ (t.mirror.dirty.has r = x.mirror.dirty.has r ∧ SameShown x t r))
    (hi : (x.book.map Booking.index).Nodup → (t.book.map Booking.index).Nodup)
    (hw : t.path.watching = x.path.watching) (hs : t.config.step = .inService ↔ x.config.step = .inService) :
    Tracks o s t where
  records r hq := by
    obtain ht | ⟨hd, hsame⟩ := hr r hq
    · exact .inl ht
    · obtain hx | ⟨hclean, hshown⟩ := h.records r hq
      · exact .inl (hd.trans hx)
      · exact .inr ⟨hclean, hshown.trans hsame⟩
  indices g := hi (h.indices g)
  watching := hw.trans h.watching
  service := hs.trans h.service

/-- A change of nothing that a record shows, the owed header apart. -/
theorem quiet (h : Tracks o s x) (hr : ∀ r, (o = true → r ≠ .header) → SameShown x t r)
    (hd : t.mirror.dirty = x.mirror.dirty) (hb : t.book = x.book) (hw : t.path.watching = x.path.watching)
    (hs : t.config.step = .inService ↔ x.config.step = .inService) : Tracks o s t :=
  h.next (fun r hq => .inr ⟨by rw [hd], hr r hq⟩) (by rw [hb]; exact id) hw hs

/-- The header may be left owed. -/
theorem owing (h : Tracks o s x) : Tracks true s x where
  records r hr := h.records r fun _ => hr rfl
  indices := h.indices
  watching := h.watching
  service := h.service

/-- The header has become dirty. -/
theorem paid (h : Tracks true s x) (hd : x.mirror.dirty.has .header = true) : Tracks o s x where
  records r _ := by
    by_cases e : r = .header
    · exact .inl (e ▸ hd)
    · exact h.records r fun _ => e
  indices := h.indices
  watching := h.watching
  service := h.service

/-- A step repeated over a list. -/
theorem foldl {α : Type} {g : State → α → State} (hg : ∀ x a, Tracks o s x → Tracks o s (g x a)) :
    ∀ (l : List α) {x : State}, Tracks o s x → Tracks o s (l.foldl g x)
  | [], _, h => h
  | a :: l, _, h => foldl hg l (hg _ a h)

/-! ### The shared operations -/

theorem mark (h : Tracks o s x) (r : RecordId) : Tracks o s (x.mark r) :=
  h.next (fun p _ => by
    by_cases e : p = r
    · exact .inl (by simp [State.mark, DirtySet.has_mark, e])
    · exact .inr ⟨by simp [State.mark, DirtySet.has_mark, e], by cases p <;> rfl⟩) id rfl Iff.rfl

/-- Marking the header pays for it. -/
theorem markHeader (h : Tracks true s x) : Tracks o s (x.mark .header) :=
  (h.mark .header).paid (by simp [State.mark, DirtySet.has_mark])

theorem storeAlert (h : Tracks o s x) (a : Alert) : Tracks o s (x.storeAlert a) :=
  h.next (fun p _ => by
    by_cases e : p = .alert x.mirror.producer ∨ p = .header
    · exact .inl (by obtain rfl | rfl := e <;> simp [State.storeAlert, DirtySet.has_mark])
    · obtain ⟨e1, e2⟩ := not_or.1 e
      refine .inr ⟨by simp [State.storeAlert, DirtySet.has_mark, e1, e2], ?_⟩
      cases p with
      | header => exact absurd rfl e2
      | alert i => exact vput_get_of_ne _ _ fun c => e1 (c ▸ rfl)
      | _ => rfl) id rfl Iff.rfl

theorem loseAlert (h : Tracks o s x) : Tracks o s x.loseAlert :=
  h.next (fun p _ => by
    cases ho : x.mirror.overflow
    · by_cases e : p = .header
      · exact .inl (by simp [State.loseAlert, DirtySet.has_mark, ho, e])
      · refine .inr ⟨by simp [State.loseAlert, DirtySet.has_mark, ho, e], ?_⟩
        cases p with
        | header => exact absurd rfl e
        | _ => rfl
    · refine .inr ⟨by simp [State.loseAlert, ho], ?_⟩
      cases p with
      | header => simp [SameShown, State.headerFields, State.loseAlert, State.rosterCount, ho]
      | _ => rfl) id rfl Iff.rfl

theorem raise (h : Tracks o s x) (kind : AlertKind) (bay : Option BayNo) (tag : Option Tag) :
    Tracks o s (x.raise kind bay tag) := by
  unfold State.raise
  split
  · exact h.storeAlert _
  · exact h.loseAlert

theorem setBay (h : Tracks o s x) (b : BayNo) (r : BayRecord) : Tracks o s (x.setBay b r) := by
  unfold State.setBay
  split
  · exact h
  · exact h.next (fun p _ => by
      by_cases e : p = .bay b
      · exact .inl (by simp [State.mark, DirtySet.has_mark, e])
      · refine .inr ⟨by simp [State.mark, DirtySet.has_mark, e], ?_⟩
        cases p with
        | bay c => exact vput_get_of_ne _ _ fun i => e (i ▸ rfl)
        | _ => rfl) id rfl Iff.rfl

theorem updBay (h : Tracks o s x) (b : BayNo) (f : BayRecord → BayRecord) : Tracks o s (x.updBay b f) := h.setBay b _

theorem updLane (h : Tracks o s x) (l : LaneNo) (f : Lane → Lane) : Tracks o s (x.updLane l f) :=
  h.quiet (fun p _ => by cases p <;> rfl) rfl rfl rfl Iff.rfl

end Tracks

/-- The roster count stays when an index that held an entry holds another, and when a free one stays free. -/
theorem countP_vput (v : Vector (Option RosterEntry) 128) (i : RosterIx) (e : Option RosterEntry)
    (h : e.isSome = (v.get i).isSome) : (vput v i e).toList.countP Option.isSome = v.toList.countP Option.isSome := by
  have hi : i.val < v.toList.length := by simp
  have hget : v.toList[i.val] = v.get i := by simp [vector_get_eq]
  have hpos : (v.get i).isSome = true → 0 < v.toList.countP Option.isSome := fun p =>
    List.countP_pos_iff.2 ⟨v.get i, by rw [← hget]; exact List.getElem_mem hi, p⟩
  rw [vput, Vector.toList_set, List.countP_set hi, hget, h]
  split
  · next p =>
    have := hpos p
    omega
  · rfl

namespace Tracks

variable {o : Bool} {s x t : State}

/-- Storing an entry and marking its record leaves at most the header to mark. -/
theorem putEntry (h : Tracks o s x) (i : RosterIx) (e : Option RosterEntry) :
    Tracks true s (State.mark { x with roster := { x.roster with entries := vput x.roster.entries i e } } (.roster i)) :=
  h.owing.next (fun p hp => by
    by_cases hi : p = .roster i
    · exact .inl (by simp [State.mark, DirtySet.has_mark, hi])
    · refine .inr ⟨by simp [State.mark, DirtySet.has_mark, hi], ?_⟩
      cases p with
      | header => exact absurd rfl (hp rfl)
      | roster j => exact vput_get_of_ne _ _ fun c => hi (c ▸ rfl)
      | _ => rfl) id rfl Iff.rfl

theorem setRoster (h : Tracks o s x) (i : RosterIx) (e : Option RosterEntry) : Tracks o s (x.setRoster i e) := by
  unfold State.setRoster
  dsimp only
  split
  · exact h
  split
  · next hsome =>
    refine h.next (fun p _ => ?_) id rfl Iff.rfl
    by_cases hi : p = .roster i
    · exact .inl (by simp [State.mark, DirtySet.has_mark, hi])
    · refine .inr ⟨by simp [State.mark, DirtySet.has_mark, hi], ?_⟩
      cases p with
      | header => exact congrArg (fun n => { x.headerFields with rosterCount := n }) (countP_vput _ _ _ hsome)
      | roster j => exact vput_get_of_ne _ _ fun c => hi (c ▸ rfl)
      | _ => rfl
  · exact (h.putEntry i e).markHeader

theorem setBook (h : Tracks o s x) {book : List Booking}
    (hi : (x.book.map Booking.index).Nodup → (book.map Booking.index).Nodup) : Tracks o s (x.setBook book) :=
  h.next (fun p _ => by
    cases p with
    | header =>
      by_cases hl : book.length = x.book.length
      · refine .inr ⟨by simp [State.setBook, DirtySet.has, hl], ?_⟩
        exact congrArg (fun n => { x.headerFields with bookCount := n }) hl
      · exact .inl (by simp [State.setBook, DirtySet.has, hl])
    | booking i =>
      by_cases hv : bookView book 1 i = bookView x.book 1 i
      · exact .inr ⟨by simp [State.setBook, DirtySet.has, hv], hv⟩
      · exact .inl (by simp [State.setBook, DirtySet.has, hv])
    | log a i => cases a <;> exact .inr ⟨rfl, rfl⟩
    | _ => exact .inr ⟨rfl, rfl⟩) hi rfl Iff.rfl

/-- Taking a request changes the queue alone. -/
theorem dequeue (h : Tracks o s x) : Tracks o s x.dequeue := h.quiet (fun p _ => by cases p <;> rfl) rfl rfl rfl Iff.rfl

/-- A slot's shadow and phase are no part of its record. -/
theorem setSlot (h : Tracks o s x) {n : SlotNo} {y : PostingSlot} (hy : y.result = (x.slot n).result) :
    Tracks o s (x.setSlot n y) :=
  h.quiet (fun p _ => by
    cases p with
    | slot m =>
      rw [SameShown, State.setSlot_slot]
      split
      · next e => rw [hy, e]
      · rfl
    | _ => rfl) rfl rfl rfl Iff.rfl

theorem storeResult (h : Tracks o s x) (n : SlotNo) (code : ResultCode) (detail : Nat) :
    Tracks o s (x.storeResult n code detail) := by
  cases hb : (x.slot n).busy with
  | none => rwa [State.storeResult, hb]
  | some p =>
    rw [State.storeResult_eq x n code detail hb]
    refine h.next (fun p _ => ?_) id rfl Iff.rfl
    by_cases hp : p = .slot n
    · exact .inl (by simp [DirtySet.has_mark, hp])
    · refine .inr ⟨by simp [DirtySet.has_mark, hp], ?_⟩
      cases p with
      | slot m => exact congrArg PostingSlot.result (vput_get_of_ne _ _ fun c => hp (c ▸ rfl))
      | _ => rfl

theorem takeRequest (h : Tracks o s x) {is : Request → Bool} {owner : SlotNo → Request → State → State}
    (ho : ∀ n req y, Tracks o s y → Tracks o s (owner n req y)) : Tracks o s (x.takeRequest is owner) := by
  unfold State.takeRequest
  split
  · exact h
  · split
    · exact ho _ _ _ h.dequeue
    · exact h

theorem answerRequest (h : Tracks o s x) {is : Request → Bool} {owner : Request → State → Answer}
    (ho : ∀ req y, Tracks o s y → Tracks o s (owner req y).state) : Tracks o s (x.answerRequest is owner) :=
  h.takeRequest fun n req y hy => (ho req y hy).storeResult n _ _

end Tracks

/-! ### The book -/

/-- Placing a booking adds it. -/
theorem placeBooking_perm (b : Booking) : ∀ book, (placeBooking b book).Perm (b :: book)
  | [] => .refl _
  | x :: rest => by
    unfold placeBooking
    split
    · exact .refl _
    · exact ((placeBooking_perm b rest).cons x).trans (.swap b x rest)

/-- Placing a booking at an internal index that the book does not hold keeps the indices apart. -/
theorem placeBooking_indices {b : Booking} {book : List Booking} (hb : ∀ k ∈ book, k.index ≠ b.index)
    (h : (book.map Booking.index).Nodup) : ((placeBooking b book).map Booking.index).Nodup := by
  rw [((placeBooking_perm b book).map _).nodup_iff, List.map_cons, List.nodup_cons]
  refine ⟨fun hm => ?_, h⟩
  obtain ⟨k, hk, he⟩ := List.mem_map.1 hm
  exact hb k hk he

/-- A free internal index is held by no booking. -/
theorem freeBookIx_free {book : List Booking} {i : BookIx} (h : freeBookIx book = some i) : ∀ k ∈ book, k.index ≠ i := by
  have := List.find?_some h
  simpa [List.all_eq_true] using this

/-- A booking that the book holds for a tag. -/
theorem State.booking_some {s : State} {t : Tag} {k : Booking} (h : s.booking t = some k) : k ∈ s.book ∧ k.tag = t :=
  ⟨List.mem_of_find?_eq_some h, by simpa using List.find?_some h⟩

/-- Bookings that are dropped or changed, none in its internal index, keep the indices apart. -/
theorem filterMap_indices {g : Booking → Option Booking} (hg : ∀ b c, g b = some c → c.index = b.index) {book : List Booking}
    (h : (book.map Booking.index).Nodup) : ((book.filterMap g).map Booking.index).Nodup := by
  have hsub : ∀ l : List Booking, ((l.filterMap g).map Booking.index).Sublist (l.map Booking.index) := by
    intro l
    induction l with
    | nil => exact .refl _
    | cons b l ih =>
      cases hb : g b with
      | none => simpa [List.filterMap_cons, hb] using ih.cons b.index
      | some c => simpa [List.filterMap_cons, hb, hg b c hb] using ih.cons_cons b.index
  exact h.sublist (hsub book)

/-- The book without a tag keeps the indices apart. -/
theorem withoutTag_indices (t : Tag) {book : List Booking} (h : (book.map Booking.index).Nodup) :
    ((withoutTag t book).map Booking.index).Nodup :=
  h.sublist (List.filter_sublist.map _)

namespace Tracks

variable {o : Bool} {s x t : State}

theorem updBooking (h : Tracks o s x) (t : Tag) {f : Booking → Booking} (hf : ∀ b, (f b).index = b.index) :
    Tracks o s (x.updBooking t f) :=
  h.setBook fun g => by
    rw [List.map_map, show (Booking.index ∘ fun b => if b.tag = t then f b else b) = Booking.index from funext fun b => by
      rw [Function.comp]
      split
      · exact hf b
      · rfl]
    exact g

theorem moveBooking (h : Tracks o s x) (t : Tag) (st : BookingState) : Tracks o s (x.moveBooking t st) :=
  h.updBooking t fun _ => rfl

theorem bindClaim (h : Tracks o s x) (t : Tag) (b : BayNo) (energy : Nat) : Tracks o s (x.bindClaim t b energy) := by
  unfold State.bindClaim
  split
  · exact h
  split
  · split
    · exact (h.moveBooking t .ready).raise _ _ _
    · exact h.moveBooking t .charging
  · split
    · exact (h.moveBooking t .ready).raise _ _ _
    · exact h
  · exact h
  · exact h

theorem energyClaim (h : Tracks o s x) (t : Tag) (b : BayNo) (energy : Nat) : Tracks o s (x.energyClaim t b energy) := by
  unfold State.energyClaim
  split
  · exact h
  split
  · split
    · exact (h.moveBooking t .ready).raise _ _ _
    · exact h
  · split
    · exact (h.moveBooking t .ready).raise _ _ _
    · exact h
  · split
    · exact h.moveBooking t .charging
    · exact h
  · exact h

theorem judgeDeparture (h : Tracks o s x) (t : Tag) (b : BayNo) (energy : Nat) : Tracks o s (x.judgeDeparture t b energy) := by
  unfold State.judgeDeparture
  split
  · exact h
  split
  · exact (h.setBook (withoutTag_indices t)).raise _ _ _
  · exact h.moveBooking t _

theorem closingClaim (h : Tracks o s x) (t : Tag) : Tracks o s (x.closingClaim t) := by
  unfold State.closingClaim
  split
  · exact h
  · exact h.moveBooking t _

theorem addDelivered (h : Tracks o s x) (t : Tag) (delta : Nat) : Tracks o s (x.addDelivered t delta) :=
  h.updBooking t fun _ => rfl

theorem scanAlert (h : Tracks o s x) (b : Booking) (j : ScanResult) : Tracks o s (x.scanAlert b j) := by
  cases j with
  | kept => exact h
  | becameShort => exact h.raise _ _ _
  | expired => exact h.raise _ _ _

theorem bookScan (h : Tracks o s x) : Tracks o s x.bookScan :=
  foldl (fun _ b hy => hy.scanAlert b _) _ (h.setBook (filterMap_indices fun b c hc => by
    cases hj : x.scanJudge b <;> rw [hj] at hc <;> cases hc <;> rfl))

theorem defaultCheck (h : Tracks o s x) (t : Tag) : Tracks o s (x.defaultCheck t) := by
  unfold State.defaultCheck
  split
  · split
    · exact h
    · next hi => exact h.setBook (placeBooking_indices (freeBookIx_free hi))
  · exact h

theorem answerBook (h : Tracks o s x) (r : Request) : Tracks o s (x.answerBook r).state := by
  unfold State.answerBook
  split
  · exact h
  unfold State.takeBook
  split
  · next old hold =>
    obtain ⟨hmem, htag⟩ := State.booking_some hold
    refine (h.setBook fun g => placeBooking_indices (fun k hk he => ?_) (withoutTag_indices _ g)).mark _
    obtain ⟨hk, hne⟩ := List.mem_filter.1 hk
    have hko : k = old := List.inj_on_of_nodup_map g hk hmem he
    simp [hko, htag] at hne
  · split
    · exact h
    · next hi => exact h.setBook (placeBooking_indices (freeBookIx_free hi))

theorem answerCancel (h : Tracks o s x) (r : Request) : Tracks o s (x.answerCancel r).state := by
  unfold State.answerCancel
  split
  · exact h.setBook (withoutTag_indices _)
  · exact h

/-! ### The roster -/

theorem rosterHandOver (h : Tracks o s x) (t : Tag) (b : BayNo) (energy : Nat) : Tracks o s (x.rosterHandOver t b energy) := by
  unfold State.rosterHandOver
  split
  · exact h
  split
  · exact h
  · exact h.setRoster _ _

theorem bindAt (h : Tracks o s x) (i : RosterIx) (t : Tag) (b : BayNo) (energy : Nat) : Tracks o s (x.bindAt i t b energy) :=
  (h.setRoster _ _).mark _

theorem migrateAway (h : Tracks o s x) (p : BayNo) : Tracks o s (x.migrateAway p) := h.updBay _ _

theorem clashAway (h : Tracks o s x) (p : BayNo) (t : Tag) : Tracks o s (x.clashAway p t) := by
  unfold State.clashAway
  dsimp only
  split
  · exact (h.updBay _ _).raise _ _ _
  · exact h.updBay _ _

theorem rebind (h : Tracks o s x) (i : RosterIx) (p : BayNo) (t : Tag) (b : BayNo) (energy : Nat) :
    Tracks o s (x.rebind i p t b energy).2 := by
  unfold State.rebind
  split
  · exact ((h.bindAt ..).migrateAway _).raise _ _ _
  · exact ((h.bindAt ..).raise _ _ _).clashAway _ _

theorem learn (h : Tracks o s x) (t : Tag) (b : BayNo) (energy : Nat) : Tracks o s (x.learn t b energy).2 := by
  unfold State.learn
  split
  · exact (h.bindAt ..).bindClaim _ _ _
  split
  · exact ((h.bindAt ..).raise _ _ _).bindClaim _ _ _
  · exact h.raise _ _ _

theorem bindRequest (h : Tracks o s x) (t : Tag) (b : BayNo) (energy : Nat) : Tracks o s (x.bindRequest t b energy).2 := by
  unfold State.bindRequest
  split
  · exact h.learn _ _ _
  split
  · split
    · exact h.bindAt ..
    · exact h.rebind ..
  · exact (h.bindAt ..).bindClaim _ _ _

theorem rosterRelease (h : Tracks o s x) (t : Tag) (b : BayNo) : Tracks o s (x.rosterRelease t b) := by
  unfold State.rosterRelease
  split
  · exact h
  split
  · exact h
  split
  · exact h.setRoster _ _
  · exact h

theorem agingStep (h : Tracks o s x) : Tracks o s x.agingStep := by
  have advance : ∀ y : State, Tracks o s y → ∀ i : RosterIx,
      Tracks o s { y with roster := { y.roster with agingPosition := i } } := fun y hy i =>
    hy.quiet (fun p _ => by cases p <;> rfl) rfl rfl rfl Iff.rfl
  unfold State.agingStep
  refine advance _ ?_ _
  split
  · exact h
  split
  · exact (h.setRoster _ _).raise _ _ _
  · exact h

theorem answerForget (h : Tracks o s x) (r : Request) : Tracks o s (x.answerForget r).state := by
  unfold State.answerForget
  split
  · exact h
  split
  · exact h
  · exact h.setRoster _ _

/-! ### The bays -/

theorem linkUpdate (h : Tracks o s x) (b : BayNo) (e : Exchange) (r : Report) : Tracks o s (x.linkUpdate b e r) := h.updBay _ _

/-- The Allocator's planes, pass and delivered total are shown by no record. -/
theorem setAllocator (h : Tracks o s x) {a : Allocator} (hb : a.lastB = x.allocator.lastB)
    (hk : a.skipCount = x.allocator.skipCount) (hd : a.standDown = x.allocator.standDown) :
    Tracks o s { x with allocator := a } :=
  h.quiet (fun p _ => by
    cases p with
    | header => simp [SameShown, State.headerFields, State.rosterCount, hb, hk, hd]
    | _ => rfl) rfl rfl rfl Iff.rfl

theorem countDelta (h : Tracks o s x) (held : Option Tag) (delta : Nat) : Tracks o s (x.countDelta held delta) := by
  have htotal : Tracks o s (x.addDeliveredTotal delta) := h.setAllocator rfl rfl rfl
  cases held with
  | none => exact htotal
  | some t => exact htotal.addDelivered t delta

theorem meterAccount (h : Tracks o s x) (b : BayNo) (held : Option Tag) (m : Nat) : Tracks o s (x.meterAccount b held m) := by
  unfold State.meterAccount
  dsimp only
  split
  · exact h.updBay _ _
  split
  · exact (h.updBay _ _).countDelta _ _
  · exact h.updBay _ _

theorem moveByAnswer (h : Tracks o s x) (b : BayNo) (t : Tag) (a : RosterAnswer) : Tracks o s (x.moveByAnswer b t a) := by
  unfold State.moveByAnswer
  split <;> exact h.updBay _ _

theorem bindBay (h : Tracks o s x) (b : BayNo) (t : Tag) (energy : Nat) : Tracks o s (x.bindBay b t energy).2 :=
  (h.bindRequest t b energy).moveByAnswer b t _

theorem plugIn (h : Tracks o s x) (b : BayNo) (t : Tag) (energy : Nat) : Tracks o s (x.plugIn b t energy) :=
  (h.bindBay b t energy).raise _ _ _

theorem retryLearning (h : Tracks o s x) (b : BayNo) (t : Tag) (energy : Nat) : Tracks o s (x.retryLearning b t energy) := by
  unfold State.retryLearning
  dsimp only
  split
  · exact h.bindBay b t energy
  · exact (h.bindBay b t energy).raise _ _ _

theorem unbind (h : Tracks o s x) (b : BayNo) (t : Tag) : Tracks o s (x.unbind b t) := (h.updBay _ _).rosterRelease _ _

theorem releaseBay (h : Tracks o s x) (b : BayNo) (t : Tag) : Tracks o s (x.releaseBay b t) := (h.unbind b t).judgeDeparture _ _ _

theorem exchangeVan (h : Tracks o s x) (b : BayNo) (old t : Tag) (energy : Nat) : Tracks o s (x.exchangeVan b old t energy) :=
  (((h.releaseBay b old).raise _ _ _).updBay _ _).plugIn _ _ _

theorem unplugBay (h : Tracks o s x) (b : BayNo) : Tracks o s (x.unplugBay b) := by
  unfold State.unplugBay
  dsimp only
  split
  · exact (h.updBay _ _).raise _ _ _
  · exact ((h.releaseBay _ _).updBay _ _).raise _ _ _

theorem agreeAgain (h : Tracks o s x) (b : BayNo) : Tracks o s (x.agreeAgain b) := h.updBay _ _

theorem raiseForBay (h : Tracks o s x) (b : BayNo) (kind : AlertKind) : Tracks o s (x.raiseForBay b kind) := h.raise _ _ _

theorem agree (h : Tracks o s x) (b : BayNo) (e : Exchange) (r : Report) : Tracks o s (x.agree b e r) := by
  unfold State.agree
  split
  · unfold State.settle
    dsimp only
    split <;> exact (h.updBay _ _).raiseForBay _ _
  · exact h

theorem refuseStep (h : Tracks o s x) (b : BayNo) : Tracks o s (x.refuseStep b) := by
  have hfaulted : Tracks o s (x.enterFaulted b) := h.updBay _ _
  unfold State.refuseStep
  dsimp only
  split
  · exact h
  split
  · exact (hfaulted.raiseForBay _ _).raiseForBay _ _
  · exact hfaulted.raiseForBay _ _

theorem stepEmpty (h : Tracks o s x) (b : BayNo) (r : Report) : Tracks o s (x.stepEmpty b r) := by
  unfold State.stepEmpty
  split
  · exact h.plugIn _ _ _
  · exact h.updBay _ _

theorem stepDozing (h : Tracks o s x) (b : BayNo) (r : Report) : Tracks o s (x.stepDozing b r) := by
  unfold State.stepDozing
  split
  · exact h.plugIn _ _ _
  · exact h

theorem stepAgreeing (h : Tracks o s x) (b : BayNo) (e : Exchange) (r : Report) : Tracks o s (x.stepAgreeing b e r) := by
  unfold State.stepAgreeing
  split
  · exact h.unplugBay b
  · split
    · exact h.agree b e r
    · exact h.exchangeVan _ _ _ _
  · exact h.plugIn _ _ _

theorem stepSettled (h : Tracks o s x) (b : BayNo) (r : Report) : Tracks o s (x.stepSettled b r) := by
  unfold State.stepSettled
  split
  · exact h.unplugBay b
  · split
    · exact h
    · exact h.exchangeVan _ _ _ _
  · exact h.plugIn _ _ _

theorem stepUnlisted (h : Tracks o s x) (b : BayNo) (r : Report) : Tracks o s (x.stepUnlisted b r) := by
  unfold State.stepUnlisted
  split
  · exact h.unplugBay b
  split
  · exact h
  · exact h.retryLearning _ _ _

theorem stepReturn (h : Tracks o s x) (b : BayNo) (r : Report) : Tracks o s (x.stepReturn b r) := by
  unfold State.stepReturn
  split
  · exact h.unplugBay b
  · split
    · exact h.agreeAgain b
    · exact h.exchangeVan _ _ _ _
  · exact h.plugIn _ _ _

theorem stepFaulted (h : Tracks o s x) (b : BayNo) (r : Report) : Tracks o s (x.stepFaulted b r) := by
  unfold State.stepFaulted
  split
  · exact (h.stepReturn b r).raiseForBay _ _
  · exact h

theorem stepLost (h : Tracks o s x) (b : BayNo) (r : Report) : Tracks o s (x.stepLost b r) := (h.stepReturn b r).raiseForBay _ _

theorem stepClosing (h : Tracks o s x) (b : BayNo) (r : Report) : Tracks o s (x.stepClosing b r) := by
  unfold State.stepClosing
  split
  · exact h.updBay _ _
  · exact h

theorem stateStep (h : Tracks o s x) (b : BayNo) (e : Exchange) (r : Report) : Tracks o s (x.stateStep b e r) := by
  unfold State.stateStep
  split
  case h_1 => exact h
  case h_2 => exact h.stepClosing b r
  all_goals split
  any_goals exact h.refuseStep b
  · exact h.stepEmpty b r
  · exact h.stepDozing b r
  · exact h.stepAgreeing b e r
  · exact h.stepSettled b r
  · exact h.stepSettled b r
  · exact h.stepUnlisted b r
  · exact h.stepFaulted b r
  · exact h.stepLost b r

theorem handOver (h : Tracks o s x) (b : BayNo) (r : Report) : Tracks o s (x.handOver b r) := by
  unfold State.handOver
  split
  · exact h.rosterHandOver _ _ _
  · exact h

theorem bookHandOver (h : Tracks o s x) (b : BayNo) (held : Option Tag) (r : Report) : Tracks o s (x.bookHandOver b held r) := by
  unfold State.bookHandOver
  split
  · split
    · exact h.energyClaim _ _ _
    · exact h
  · exact h
  · exact h

theorem defaultBookingCheck (h : Tracks o s x) (b : BayNo) : Tracks o s (x.defaultBookingCheck b) := by
  unfold State.defaultBookingCheck
  split
  · exact h.defaultCheck _
  · exact h

theorem goodReport (h : Tracks o s x) (b : BayNo) (e : Exchange) (r : Report) : Tracks o s (x.goodReport b e r) :=
  (((((h.linkUpdate b e r).meterAccount b _ _).handOver b r).stateStep b e r).bookHandOver b _ r).defaultBookingCheck b

theorem failedExchange (h : Tracks o s x) (b : BayNo) (kind : FailureKind) : Tracks o s (x.failedExchange b kind) := by
  unfold State.failedExchange
  dsimp only
  split
  · split
    · exact ((h.updBay _ _).updBay _ _).raiseForBay _ _
    · exact h.updBay _ _
  · exact h

theorem answerSetBay (h : Tracks o s x) (r : Request) {action : State → BayNo → State}
    (ha : ∀ b, Tracks o s (action x b)) : Tracks o s (x.answerSetBay r action).state := by
  unfold State.answerSetBay
  split
  · exact h
  split
  · exact h
  · exact ha _

theorem enableBay (h : Tracks o s x) (b : BayNo) : Tracks o s (x.enableBay b) := by
  unfold State.enableBay
  split
  · exact h.updBay _ _
  · exact h.updBay _ _
  all_goals exact h

theorem disableBay (h : Tracks o s x) (b : BayNo) : Tracks o s (x.disableBay b) := by
  have hrelease : Tracks o s (x.releaseForClosing b) := by
    unfold State.releaseForClosing
    split
    · exact h
    · exact (h.unbind _ _).closingClaim _
  unfold State.disableBay
  split
  · exact h
  · exact h
  all_goals exact hrelease.updBay _ _

/-! ### The lanes -/

theorem visit (h : Tracks o s x) (l : LaneNo) (start : Nat) : Tracks o s (x.visit l start) := by
  unfold State.visit
  split
  · unfold State.formFrame
    exact (h.updBay _ _).updLane _ _
  · exact h.updLane _ _

theorem beginRound (h : Tracks o s x) (l : LaneNo) : Tracks o s (x.beginRound l) := (h.updLane _ _).visit _ _

theorem overrunAlert (h : Tracks o s x) (l : LaneNo) (n : Nat) : Tracks o s (x.overrunAlert l n) := by
  unfold State.overrunAlert
  split
  · exact h
  · exact (h.updLane _ _).raise _ _ _

theorem takeRoundStart (h : Tracks o s x) (l : LaneNo) : Tracks o s (x.takeRoundStart l) := by
  unfold State.takeRoundStart
  split
  · exact ((foldl (fun y d hy => hy.updBay _ _) _ h).overrunAlert _ _).beginRound _
  · exact h.beginRound l

theorem startRounds (h : Tracks o s x) : Tracks o s x.startRounds :=
  foldl (fun y l hy => by
    split
    · unfold State.startRound
      split
      · exact hy.updLane _ _
      · exact hy.takeRoundStart l
    · exact hy) _ h

theorem handOutcome (h : Tracks o s x) (l : LaneNo) (e : Exchange) (oc : ExchangeOutcome) :
    Tracks o s (x.handOutcome l e oc) := by
  unfold State.handOutcome
  split
  · exact h.updLane _ _
  · cases oc with
    | good r => exact h.goodReport _ _ _
    | failed kind => exact h.failedExchange _ _

theorem afterExchange (h : Tracks o s x) (l : LaneNo) : Tracks o s (x.afterExchange l) := by
  unfold State.afterExchange
  split
  · exact (h.updLane _ _).takeRoundStart _
  split
  · exact h.visit _ _
  · exact h

theorem endExchange (h : Tracks o s x) (l : LaneNo) (e : Exchange) (r : Receiver) : Tracks o s (x.endExchange l e r) :=
  ((h.handOutcome l e _).updLane _ _).afterExchange _

/-! ### The Allocator -/

theorem armBays (h : Tracks o s x) : Tracks o s x.armBays :=
  foldl (fun y b hy => by
    split
    · exact hy.updBay _ _
    · exact hy) _ h

/-- Any change of the Allocator leaves the header owed. -/
theorem oweAllocator (h : Tracks o s x) (a : Allocator) : Tracks true s { x with allocator := a } :=
  h.owing.quiet (fun p hp => by
    cases p with
    | header => exact absurd rfl (hp rfl)
    | _ => rfl) rfl rfl rfl Iff.rfl

theorem clearSkips (h : Tracks o s x) : Tracks o s x.clearSkips := by
  have hmarked := (h.oweAllocator { x.allocator with skipCount := 0 }).markHeader (o := o)
  unfold State.clearSkips State.endStandDown
  split
  · exact ((hmarked.oweAllocator _).markHeader).raise _ _ _
  · exact hmarked

/-- A Mirror Writer that differs in one log entry and in what the header shows, with both records marked. -/
theorem putLog (h : Tracks o s x) {m : MirrorWriter} {area : LogArea} {j : LogIx}
    (hd : m.dirty = (x.mirror.dirty.mark (.log area j)).mark .header) (ha : m.alerts = x.mirror.alerts)
    (hl : ∀ a i, RecordId.log a i ≠ .log area j → m.logEntry a i = x.mirror.logEntry a i) :
    Tracks o s { x with mirror := m } :=
  h.next (fun p _ => by
    by_cases e : p = .log area j ∨ p = .header
    · exact .inl (by obtain rfl | rfl := e <;> simp [hd, DirtySet.has_mark])
    · obtain ⟨e1, e2⟩ := not_or.1 e
      refine .inr ⟨by simp [hd, DirtySet.has_mark, e1, e2], ?_⟩
      cases p with
      | header => exact absurd rfl e2
      | alert i => exact congrArg (fun v => Vector.get v i) ha
      | log a i => exact hl a i e1
      | _ => rfl) id rfl Iff.rfl

theorem writeLog (h : Tracks o s x) (r : LogRecord) : Tracks o s (x.writeLog r) := by
  have areaA : ∀ a i, RecordId.log a i ≠ .log .areaA x.mirror.logIndex →
      ({ x.mirror with logA := vput x.mirror.logA x.mirror.logIndex (some r) } : MirrorWriter).logEntry a i =
        x.mirror.logEntry a i := fun a i hne => by
    cases a
    · exact vput_get_of_ne _ _ fun c => hne (c ▸ rfl)
    · rfl
  have areaB : ∀ a i, RecordId.log a i ≠ .log .areaB x.mirror.logIndex →
      ({ x.mirror with logB := vput x.mirror.logB x.mirror.logIndex (some r) } : MirrorWriter).logEntry a i =
        x.mirror.logEntry a i := fun a i hne => by
    cases a
    · rfl
    · exact vput_get_of_ne _ _ fun c => hne (c ▸ rfl)
  unfold State.writeLog
  dsimp only
  cases x.mirror.logArea <;> dsimp only <;> split
  · refine raise ?_ _ _ _
    exact h.putLog rfl rfl areaA
  · exact h.putLog rfl rfl areaA
  · refine raise ?_ _ _ _
    exact h.putLog rfl rfl areaB
  · exact h.putLog rfl rfl areaB

theorem handLog (h : Tracks o s x) (r : LogRecord) : Tracks o s (x.handLog r) :=
  (h.setAllocator (a := { x.allocator with deliveredTotal := 0 }) rfl rfl rfl).writeLog _

/-- A change of the Allocator under a dirty header. -/
theorem setAllocatorDirty (h : Tracks o s x) (a : Allocator) (hd : x.mirror.dirty.has .header = true) :
    Tracks o s { x with allocator := a } := (h.oweAllocator a).paid hd

theorem publish (h : Tracks o s x) (sn : Snapshot) : Tracks o s (x.publish sn) := by
  have hswap : Tracks o s (x.swapPlanes sn) := h.setAllocator rfl rfl rfl
  exact (hswap.armBays.clearSkips.startRounds.handLog _).setAllocatorDirty _ (State.handLog_header _ _)

theorem skip (h : Tracks o s x) (reason : SkipReason) : Tracks o s (x.skip reason) := by
  have hcount : Tracks o s (x.countSkip reason) := by
    have hmarked := (h.oweAllocator { x.allocator with skipCount := min 65535 (x.allocator.skipCount + 1) }).markHeader (o := o)
    unfold State.countSkip
    dsimp only
    split
    · exact ((hmarked.oweAllocator _).markHeader).raise _ _ _
    · exact hmarked
  exact hcount.startRounds.handLog _

theorem onSample (h : Tracks o s x) (p : Nat) : Tracks o s (x.onSample p) := by
  unfold State.onSample
  split
  · exact h.setAllocator rfl rfl rfl
  · exact h.skip _

/-! ### The meter -/

/-- Any change of the Meter leaves the header owed. -/
theorem oweMeter (h : Tracks o s x) (f : FeederMeter → FeederMeter) : Tracks true s (x.updMeter f) :=
  h.owing.quiet (fun p hp => by
    cases p with
    | header => exact absurd rfl (hp rfl)
    | _ => rfl) rfl rfl rfl Iff.rfl

/-- Of the Meter the header shows overload and whether Curtail is in force. -/
theorem updMeter (h : Tracks o s x) {f : FeederMeter → FeederMeter} (ho : (f x.meter).overload = x.meter.overload)
    (hc : (f x.meter).curtail.inForce = x.meter.curtail.inForce) : Tracks o s (x.updMeter f) :=
  h.quiet (fun p _ => by
    cases p with
    | header => simp [SameShown, State.headerFields, State.rosterCount, State.updMeter, ho, hc]
    | _ => rfl) rfl rfl rfl Iff.rfl

theorem judgeOverload (h : Tracks o s x) (p : Nat) : Tracks o s (x.judgeOverload p) := by
  unfold State.judgeOverload
  dsimp only
  split
  · split
    · exact h.updMeter rfl rfl
    split
    · exact (h.oweMeter _).markHeader.raise _ _ _
    · exact h.updMeter rfl rfl
  split
  · exact (h.oweMeter _).markHeader.raise _ _ _
  · exact h

theorem sampleDone (h : Tracks o s x) (codes : Option Codes) (interval : Word) : Tracks o s (x.sampleDone codes interval) := by
  unfold State.sampleDone
  split
  · exact ((h.updMeter rfl rfl).judgeOverload _).onSample _
  unfold State.invalidSample
  split
  · split
    · exact h.onSample _
    · exact h.skip _
  · exact h.skip _

theorem curtailOff (h : Tracks o s x) : Tracks o s x.curtailOff := (h.oweMeter _).markHeader.raise _ _ _

theorem curtailOn (h : Tracks o s x) : Tracks o s x.curtailOn := (h.oweMeter _).markHeader.raise _ _ _

theorem endTail (h : Tracks o s x) : Tracks o s x.endTail := by
  unfold State.endTail
  split
  · exact h.curtailOff
  · exact h

theorem tickConversion (h : Tracks o s x) : Tracks o s x.tickConversion := by
  unfold State.tickConversion
  split
  · exact h
  · exact h.updMeter rfl rfl
  · exact h.updMeter rfl rfl

theorem tickTail (h : Tracks o s x) : Tracks o s x.tickTail := by
  unfold State.tickTail
  split
  · exact (h.updMeter (f := fun m => { m with tailElapsed := m.tailElapsed + x.config.loaded.intervalLength }) rfl rfl).endTail
  · exact h
  · exact h

theorem meterTick (h : Tracks o s x) : Tracks o s x.meterTick := h.tickConversion.tickTail

theorem tickSample (h : Tracks o s x) : Tracks o s x.tickSample := by
  unfold State.tickSample
  split
  · exact h
  · exact h.sampleDone _ _

theorem filterTo (h : Tracks o s x) (level : Level) : Tracks o s (x.filterTo level) := h.updMeter rfl rfl

theorem assertCurtail (h : Tracks o s x) : Tracks o s x.assertCurtail := by
  unfold State.assertCurtail
  split
  · exact h.curtailOn
  · exact h
  · exact (h.oweMeter _).markHeader

theorem releaseCurtail (h : Tracks o s x) : Tracks o s x.releaseCurtail := by
  unfold State.releaseCurtail
  split
  · split
    · exact h.curtailOff
    · exact (h.oweMeter _).markHeader
  · exact h
  · exact h

theorem leaveCalibrating (h : Tracks o s x) : Tracks o s x.leaveCalibrating := by
  unfold State.leaveCalibrating
  split
  · next hc =>
    exact h.quiet (fun p _ => by cases p <;> rfl) rfl rfl rfl (by simp [hc])
  · exact h

theorem calibrationResult (h : Tracks o s x) (origin : CalOrigin) (code : ResultCode) (detail : Nat) :
    Tracks o s (x.calibrationResult origin code detail) := by
  cases origin with
  | startUp => exact h
  | request n => exact h.storeResult _ _ _

theorem completeCalibration (h : Tracks o s x) (origin : CalOrigin) (a1 a2 a3 : Nat) :
    Tracks o s (x.completeCalibration origin a1 a2 a3) := by
  have hidle : Tracks o s (x.updMeter fun m => { m with calibration := .idle }).leaveCalibrating :=
    (h.updMeter rfl rfl).leaveCalibrating
  unfold State.completeCalibration
  dsimp only
  split
  · exact ((hidle.updMeter rfl rfl).raise _ _ _).calibrationResult _ _ _
  · exact (hidle.raise _ _ _).calibrationResult _ _ _

theorem takeCalibrate (h : Tracks o s x) (n : SlotNo) (req : Request) : Tracks o s (x.takeCalibrate n req) := by
  have hbegun : Tracks o s (x.updMeter fun m => { m with calibration := .inFlight (.request n) }) := h.updMeter rfl rfl
  unfold State.takeCalibrate
  split
  · exact h.storeResult _ _ _
  · exact hbegun.setSlot rfl

theorem answerSetLimits (h : Tracks o s x) (r : Request) : Tracks o s (x.answerSetLimits r).state := by
  unfold State.answerSetLimits
  split
  · exact h
  split
  · exact h
  split
  · exact h
  · exact h.updMeter (f := fun m => { m with limits := ⟨r.word 0, r.word 1, r.word 2⟩ }) rfl rfl

/-! ### The clock -/

/-- Any change of the clock leaves the header owed. -/
theorem oweClock (h : Tracks o s x) (f : DepotClock → DepotClock) : Tracks true s (x.updClock f) :=
  h.owing.quiet (fun p hp => by
    cases p with
    | header => exact absurd rfl (hp rfl)
    | _ => rfl) rfl rfl rfl Iff.rfl

/-- The stale timer and limit reached are shown by no record. -/
theorem updClock (h : Tracks o s x) {f : DepotClock → DepotClock} (hp : (f x.clock).plan = x.clock.plan)
    (hv : (f x.clock).valid = x.clock.valid) (hd : (f x.clock).depotSeconds = x.clock.depotSeconds)
    (hi : (f x.clock).interval = x.clock.interval) : Tracks o s (x.updClock f) :=
  h.quiet (fun p _ => by
    cases p with
    | header => simp [SameShown, State.headerFields, State.rosterCount, State.updClock, hp, hv, hd, hi]
    | _ => rfl) rfl rfl rfl Iff.rfl

theorem clockLimit (h : Tracks o s x) : Tracks o s x.clockLimit := by
  unfold State.clockLimit
  split
  · exact (h.updClock rfl rfl rfl rfl).raise _ _ _
  · exact h

theorem expireStale (h : Tracks o s x) : Tracks o s x.expireStale := by
  unfold State.expireStale
  split
  · exact (h.oweClock _).markHeader.raise _ _ _
  · exact h

theorem stepStale (h : Tracks o s x) : Tracks o s x.stepStale := by
  unfold State.stepStale
  split
  · exact h
  split
  · exact h
  · exact (h.updClock rfl rfl rfl rfl).expireStale

theorem forwardWrite (h : Tracks o s x) (w : PlanWrite) : Tracks o s (x.forwardWrite w) := by
  unfold State.forwardWrite
  dsimp only
  split
  · exact h.updClock rfl rfl rfl rfl
  · exact (h.updClock (f := fun c => { c with staleTimer := 0 }) rfl rfl rfl rfl).oweClock _ |>.markHeader.raise _ _ _

theorem blocksTick (h : Tracks o s x) (order : TickOrder) : Tracks o s (x.blocksTick order) := by
  cases order
  · exact h.meterTick.bookScan.agingStep
  · exact h.meterTick.agingStep.bookScan
  · exact h.bookScan.meterTick.agingStep
  · exact h.bookScan.agingStep.meterTick
  · exact h.agingStep.meterTick.bookScan
  · exact h.agingStep.bookScan.meterTick

theorem draw (h : Tracks o s x) : Tracks o s x.draw := h.quiet (fun p _ => by cases p <;> rfl) rfl rfl rfl Iff.rfl

theorem tickIn (h : Tracks o s x) (order : TickOrder) : Tracks o s (x.tickIn order) :=
  (((h.oweClock _).clockLimit.stepStale.markHeader (o := o)).blocksTick order).tickSample

theorem setDepotTime (h : Tracks o s x) (t : Word) : Tracks o s (x.setDepotTime t) := (h.oweClock _).clockLimit.markHeader

/-! ### The mirror's own index, the plan window and the arbiter -/

/-- A change of nothing but the consumer index, the overflow flag, the lost count and the guard count leaves the header owed. -/
theorem oweMirror (h : Tracks o s x) {f : MirrorWriter → MirrorWriter} (hd : (f x.mirror).dirty = x.mirror.dirty)
    (ha : (f x.mirror).alerts = x.mirror.alerts) (hl : (f x.mirror).logEntry = x.mirror.logEntry) :
    Tracks true s (x.updMirror f) :=
  h.owing.quiet (fun p hp => by
    cases p with
    | header => exact absurd rfl (hp rfl)
    | alert i => exact congrArg (fun v => Vector.get v i) ha
    | log a i => exact congrFun (congrFun hl a) i
    | _ => rfl) hd rfl rfl Iff.rfl

theorem proposeConsumer (h : Tracks o s x) (v : Word) : Tracks o s (x.proposeConsumer v) := by
  unfold State.proposeConsumer
  split
  · split
    · exact h
    · have hmoved := (h.oweMirror (f := fun m => { m with consumer := Fin.ofNat 64 v.toNat }) rfl rfl rfl).markHeader (o := o)
      unfold State.storeOverflow
      split
      · exact ((hmoved.storeAlert _).oweMirror rfl rfl rfl).markHeader
      · exact hmoved
  · exact h

theorem enqueue (h : Tracks o s x) (n : SlotNo) (merged : Word) : Tracks o s (x.enqueue n merged) :=
  quiet (h.setSlot (n := n) (y := { x.slot n with busy := some (.queued, (x.slot n).requestOf merged) }) rfl)
    (fun p _ => by cases p <;> rfl) rfl rfl rfl Iff.rfl

theorem takeTrigger (h : Tracks o s x) (n : SlotNo) (merged : Word) : Tracks o s (x.takeTrigger n merged) := by
  unfold State.takeTrigger
  dsimp only
  split
  · exact h.forwardWrite _
  split
  · exact (h.forwardWrite _).enqueue n merged
  · exact (h.forwardWrite _).raise _ _ _

theorem captureWord (h : Tracks o s x) (p : PlanWord) (data : Word) (enables : BitVec 4) :
    Tracks o s (x.captureWord p data enables) := by
  cases p with
  | heartbeat =>
    unfold State.captureWord State.captureHeartbeat
    dsimp only
    split
    · exact h
    · exact h.forwardWrite _
  | consumerIndex =>
    exact (h.quiet (t := x.mergeConsumer data enables) (fun p _ => by cases p <;> rfl) rfl rfl rfl Iff.rfl).proposeConsumer _
  | slotWord n w =>
    have hmerged : Tracks o s (x.mergeSlotWord n w data enables) := h.setSlot rfl
    unfold State.captureWord State.captureSlotWord
    dsimp only
    split
    · exact hmerged.takeTrigger _ _
    · exact hmerged

theorem capture (h : Tracks o s x) (a : HostAccess) : Tracks o s (x.capture a) := by
  unfold State.capture
  split
  · split
    · exact h.captureWord _ _ _
    · exact h
  · exact h

/-- The Path Unit, the backlog and memory are shown by no record. -/
theorem updPath (h : Tracks o s x) {f : PathUnit → PathUnit} (hf : (f x.path).watching = x.path.watching) :
    Tracks o s (x.updPath f) := h.quiet (fun p _ => by cases p <;> rfl) rfl rfl hf Iff.rfl

end Tracks

/-- Neither a depth nor the taking of a word moves the mode. -/
@[simp] theorem PathUnit.followDepth_watching (p : PathUnit) (depth : Nat) : (p.followDepth depth).watching = p.watching := by
  unfold PathUnit.followDepth
  (repeat' split) <;> rfl

@[simp] theorem PathUnit.holdCovered_watching (p : PathUnit) : p.holdCovered.watching = p.watching := by
  unfold PathUnit.holdCovered
  (repeat' split) <;> rfl

@[simp] theorem PathUnit.closeFence_watching (p : PathUnit) : p.closeFence.watching = p.watching := by
  unfold PathUnit.closeFence
  split <;> rfl

namespace Tracks

variable {o : Bool} {s x t : State}

theorem arbitrate (h : Tracks o s x) : Tracks o s x.arbitrate := by
  unfold State.arbitrate
  split
  · split
    · exact h
    · exact (h.updPath (by simp)).capture _
    · exact h.quiet (fun p _ => by cases p <;> rfl) rfl rfl (by simp [State.grantBacklog, PathUnit.takeWord]) Iff.rfl
  · exact h
  · exact h

theorem claimPort (h : Tracks o s x) (a : HostAccess) : Tracks o s (x.claimPort a) :=
  (h.updPath (f := fun p => { p with waiting := some a }) rfl).arbitrate

theorem complete (h : Tracks o s x) (a : HostAccess) (data : Word) : Tracks o s (x.complete a data) := h.updPath rfl

theorem stopWrite (h : Tracks o s x) (a : HostAccess) : Tracks o s (x.stopWrite a) := by
  have hcounted := ((h.complete a 0).oweMirror
    (f := fun m => { m with guardCount := min 65535 (x.mirror.guardCount + 1) }) rfl rfl rfl).markHeader (o := o)
  unfold State.stopWrite
  dsimp only
  split
  · exact hcounted
  · exact (hcounted.updPath rfl).raise _ _ _

theorem arrive (h : Tracks o s x) (write : Bool) (addr : Addr) (data : Word) (enables : BitVec 4) :
    Tracks o s (x.arrive write addr data enables) := by
  unfold State.arrive State.watchedAccess
  dsimp only
  split
  · split
    · split
      · exact h.stopWrite _
      · exact h.claimPort _
    split
    · exact h.updPath rfl
    · exact h.claimPort _
  · exact h.claimPort _

/-- Memory lies outside the part. -/
theorem setMemory (h : Tracks o s x) (m : List Host.Cell) : Tracks o s { x with memory := m } :=
  h.quiet (fun p _ => by cases p <;> rfl) rfl rfl rfl Iff.rfl

theorem completeHost (h : Tracks o s x) (a : HostAccess) : Tracks o s (x.completeHost a) := by
  unfold State.completeHost
  split
  · exact (h.setMemory _).complete _ _
  · exact h.complete _ _

theorem completeBacklog (h : Tracks o s x) (w : BacklogWord) : Tracks o s (x.completeBacklog w) := by
  have free : ∀ n y, Tracks o s y → Tracks o s (y.freeSlotOf n) := fun n y hy => by
    unfold State.freeSlotOf State.freeSlot
    split
    · split
      · exact hy.setSlot rfl
      · exact hy
      · exact hy
      · exact hy
    · exact hy
  unfold State.completeBacklog
  dsimp only
  split
  · exact free _ _ ((h.setMemory _).updPath (by simp))
  · exact h.setMemory _

end Tracks

/-! ### The commands -/

/-- The commands that reset the part, take its parameters or end its start-up, and the push of a record, which cleans it. -/
def resetsOrPushes : Instr → Bool
  | .powerOn _ _ | .resetLine _ _ | .configImageLoaded _ _ | .configReadTimeout | .startUpEnd | .restart | .recordPush => true
  | _ => false

/-- A host access that is taken marks what it changes. -/
theorem hostAccess_tracks {s t : State} {write : Bool} {addr : Addr} {data : Word} {enables : BitVec 4}
    (h : s.hostAccess write addr data enables = .next t) : Tracks false s t := by
  unfold State.hostAccess at h
  split at h
  · cases h
  split at h
  · cases h
  · cases h
    exact (Tracks.refl s).arrive _ _ _ _

/-- Every command but the resets, the steps of start-up and the push of a record marks what it changes. -/
theorem exec_tracks {i : Instr} {s t : State} (h : exec i s = .next t) (hi : resetsOrPushes i = false) : Tracks false s t := by
  have hs := Tracks.refl s
  cases i with
  | powerOn _ _ | resetLine _ _ | configImageLoaded _ _ | configReadTimeout | startUpEnd | restart | recordPush => cases hi
  | hostAccess _ _ _ _ | planWordWrite _ _ _ _ | heartbeatWrite _ _ | alertConsumerIndexWrite _ _ | triggerWrite _ _ _
    | mirrorWriteStopped _ _ _ | fencedRead _ => exact hostAccess_tracks h
  | tick =>
    cases h
    split
    · exact hs.draw.tickIn _
    · exact hs
  | planStale => cases h; exact hs.expireStale
  | curtailTailEnd => cases h; exact hs.endTail
  | curtailInputChange => cases h; exact hs.updMeter rfl rfl
  | curtailAssertionEdge =>
    cases h
    split
    · split
      · exact (hs.filterTo _).assertCurtail
      · exact hs.filterTo _
    · exact hs
  | curtailReleaseEdge =>
    cases h
    split
    · split
      · exact (hs.filterTo _).releaseCurtail
      · exact hs.filterTo _
    · exact hs
  | sampleCompletion l1 l2 l3 =>
    have hidle : Tracks false s (s.updMeter fun m => { m with conversion := .idle }) := hs.updMeter rfl rfl
    cases h
    split
    · exact hs
    · dsimp only
      split
      · exact hidle
      · exact hidle.sampleDone _ _
  | publication =>
    cases h
    split
    · exact hs.publish _
    · exact hs
  | frameSent l =>
    cases h
    split
    · exact hs.updLane _ _
    · exact hs
    · exact hs
  | characterArrival l octet stop =>
    cases h
    split
    · exact hs.updLane _ _
    · exact hs
    · exact hs
  | reportComplete l =>
    cases h
    split
    · split
      · exact hs.endExchange _ _ _
      · exact hs
    · exact hs
  | responseWindowExpiry l =>
    cases h
    split
    · exact hs.endExchange _ _ _
    · exact hs
  | downstreamCompletion =>
    have hfreed : Tracks false s s.freePort := hs.updPath rfl
    cases h
    split
    · exact hs
    · exact (hfreed.completeHost _).arbitrate
    · exact (hfreed.completeBacklog _).arbitrate
  | book => cases h; exact hs.answerRequest fun r y hy => hy.answerBook r
  | cancel => cases h; exact hs.answerRequest fun r y hy => hy.answerCancel r
  | forget => cases h; exact hs.answerRequest fun r y hy => hy.answerForget r
  | setClock => cases h; exact hs.answerRequest fun r y hy => hy.setDepotTime _
  | setBayEnable => cases h; exact hs.answerRequest fun r y hy => hy.answerSetBay r fun b => hy.enableBay b
  | setBayDisable => cases h; exact hs.answerRequest fun r y hy => hy.answerSetBay r fun b => hy.disableBay b
  | setBaySetCap => cases h; exact hs.answerRequest fun r y hy => hy.answerSetBay r fun b => hy.updBay b _
  | setBaySetPermittedModes => cases h; exact hs.answerRequest fun r y hy => hy.answerSetBay r fun b => hy.updBay b _
  | setLimits => cases h; exact hs.answerRequest fun r y hy => hy.answerSetLimits r
  | calibrate => cases h; exact hs.takeRequest fun n r y hy => hy.takeCalibrate n r
  | unknownRequest => cases h; exact hs.answerRequest fun r y hy => hy
  | calibrationCompletion l1 l2 l3 =>
    cases h
    split
    · exact hs.completeCalibration _ _ _ _
    · exact hs
    · exact hs

/-- Every record is dirty. -/
def AllDirty (s : State) : Prop := ∀ r, s.mirror.dirty.has r = true

/-- What is dirty stays dirty where changes are marked. -/
theorem Tracks.allDirty {s t : State} (h : Tracks false s t) (hs : AllDirty s) : AllDirty t := fun r => by
  obtain ht | ⟨hclean, _⟩ := h.records r nofun
  · exact ht
  · rw [hs r] at hclean
    cases hclean

/-- What a step from `s` to `t` does to the mirror window: every record that has come to show something else is dirty, the book's
internal indices stay apart, and until start-up has ended the part is UNWATCHED with every record dirty. -/
structure Marked (s t : State) : Prop where
  records : ∀ r, t.mirror.dirty.has r = true ∨ SameShown s t r
  indices : (s.book.map Booking.index).Nodup → (t.book.map Booking.index).Nodup
  startUp : StartUpLaw t

theorem Tracks.marked {s t : State} (h : Tracks false s t) (hs : StartUpLaw s) : Marked s t where
  records r := (h.records r nofun).imp_right And.right
  indices := h.indices
  startUp ht := by
    obtain ⟨hw, hd⟩ := hs (mt h.service.2 ht)
    exact ⟨h.watching.trans hw, h.allDirty hd⟩

/-- A reset leaves every record dirty. -/
theorem Marked.of_allDirty {s t : State} (hd : AllDirty t)
    (hi : (s.book.map Booking.index).Nodup → (t.book.map Booking.index).Nodup)
    (hw : t.config.step ≠ .inService → t.path.watching = false) : Marked s t where
  records r := .inl (hd r)
  indices := hi
  startUp ht := ⟨hw ht, hd⟩

/-- The dirty set after a reset has every record. -/
theorem DirtySet.has_every (r : RecordId) : DirtySet.every.has r = true := by
  cases r with
  | log a i => cases a <;> simp [DirtySet.has, DirtySet.every]
  | _ => simp [DirtySet.has, DirtySet.every]

@[simp] theorem State.takeParams_watching (s : State) (p : Params) (src : ConfigSource) :
    (s.takeParams p src).path.watching = s.path.watching := by
  unfold State.takeParams State.beginStartUpCalibration
  split <;> rfl

/-- Curtail's setting from the input leaves dirty what was dirty. -/
theorem AllDirty.curtailFromInput {s : State} (h : AllDirty s) : AllDirty s.curtailFromInput := by
  unfold State.curtailFromInput
  split
  · exact (Tracks.refl _).curtailOn.allDirty h
  · exact h

/-- The arbiter's grant after a reset. -/
theorem Marked.arbitrate {s y : State} (hd : AllDirty y) (hb : y.book = []) (hw : y.path.watching = false) :
    Marked s y.arbitrate :=
  have ht := (Tracks.refl y).arbitrate
  .of_allDirty (ht.allDirty hd) (fun _ => ht.indices (by simp [hb])) fun _ => ht.watching.trans hw

/-- A power-on or RESET line leaves an empty book, every record dirty and the part UNWATCHED. -/
theorem startUp_marked (s : State) (straps : Straps) (level : Level) (offsets : Option Offsets) (g : Generations) :
    Marked s (s.startUp straps level offsets g) := by
  have hcold : AllDirty (s.coldReset straps level offsets g) := DirtySet.has_every
  have hbook : (s.coldReset straps level offsets g).book = [] := rfl
  have hwatch : (s.coldReset straps level offsets g).path.watching = false := rfl
  unfold State.startUp
  dsimp only
  split
  · exact .arbitrate hcold hbook hwatch
  · exact .arbitrate (fun r => by simpa using hcold r) (by simp [hbook]) (by simp [hwatch])

/-- As the image read ends every record stays dirty and the part UNWATCHED. -/
theorem takeParams_marked {s : State} (hs : StartUpLaw s) (hl : s.config.step = .loading) (p : Params) (src : ConfigSource) :
    Marked s (s.takeParams p src) :=
  have ⟨hw, hd⟩ := hs (by simp [hl])
  .of_allDirty (fun r => by simpa using hd r) (by simp) fun _ => by simp [hw]

theorem configFailed_marked {s : State} (hs : StartUpLaw s) (hl : s.config.step = .loading) (reason : ConfigReason) :
    Marked s (s.configFailed reason) :=
  have ⟨hw, hd⟩ := hs (by simp [hl])
  .of_allDirty (fun r => State.raise_dirty (by simpa using hd r) _ _ _) (by simp) fun _ => by simp [State.configFailed, hw]

/-- The end of start-up finds every record dirty. -/
theorem startUpEnd_marked {s t : State} (hs : StartUpLaw s) (h : execStartUpEnd s = .next t) : Marked s t := by
  cases h
  split
  · next hending =>
    obtain ⟨_, hd⟩ := hs (by simp [hending])
    exact .of_allDirty (AllDirty.curtailFromInput hd) (by simp) (by simp)
  · exact (Tracks.refl s).marked hs

/-- A depot restart leaves an empty book and every record dirty, in either mode. -/
theorem restart_marked {s t : State} (hs : StartUpLaw s) (h : execRestart s = .next t) : Marked s t := by
  cases h
  unfold State.answerRequest State.takeRequest
  split
  · exact (Tracks.refl s).marked hs
  split
  · next n req _ _ =>
    have hd : AllDirty s.dequeue.depotRestart := AllDirty.curtailFromInput DirtySet.has_every
    have hb : s.dequeue.depotRestart.book = [] := by simp [State.depotRestart]
    have hw : s.dequeue.depotRestart.path.watching = s.path.watching := by simp [State.depotRestart, PathUnit.restart]
    have ht := (Tracks.refl s.dequeue.depotRestart).storeResult n .done 0
    exact .of_allDirty (ht.allDirty hd) (fun _ => ht.indices (by simp [hb])) fun hstep =>
      ht.watching.trans (hw.trans (hs (by simpa [Answer.store] using hstep)).1)
  · exact (Tracks.refl s).marked hs

/-- A push cleans its record and counts its generation, and changes nothing that a record shows. -/
theorem pushRecord_sameShown (s : State) (r p : RecordId) : SameShown s (s.pushRecord r) p := by
  cases p with
  | log a i => cases a <;> rfl
  | _ => rfl

theorem recordPush_marked {s t : State} (hs : StartUpLaw s) (h : execRecordPush s = .next t) : Marked s t := by
  cases h
  split
  · next r hr =>
    have ht := (Tracks.refl (s.pushRecord r)).arbitrate
    have hwatching : s.path.watching = true := by
      unfold State.pushable at hr
      split at hr
      · assumption
      · cases hr
    refine ⟨fun p => (ht.records p nofun).imp_right fun g => (pushRecord_sameShown s r p).trans g.2,
      fun g => ht.indices (by simpa using g), fun hstep => ?_⟩
    have := (hs (by simpa using hstep)).1
    rw [hwatching] at this
    cases this
  · exact (Tracks.refl s).marked hs

/-- Every command leaves the mirror window marked. -/
theorem exec_marked {i : Instr} {s t : State} (hs : StartUpLaw s) (h : exec i s = .next t) : Marked s t := by
  cases hi : resetsOrPushes i
  · exact (exec_tracks h hi).marked hs
  cases i with
  | powerOn straps level => cases h; exact startUp_marked ..
  | resetLine straps level => cases h; exact startUp_marked ..
  | configImageLoaded acked image =>
    cases h
    split
    · next hl =>
      split
      · exact takeParams_marked hs hl _ _
      · exact configFailed_marked hs hl _
    · exact (Tracks.refl s).marked hs
  | configReadTimeout =>
    cases h
    split
    · next hl => exact configFailed_marked hs hl _
    · exact (Tracks.refl s).marked hs
  | startUpEnd => exact startUpEnd_marked hs h
  | restart => exact restart_marked hs h
  | recordPush => exact recordPush_marked hs h
  | _ => cases hi

/-! ### The book's records -/

/-- The booking that an internal index shows stands at its rank. -/
theorem bookView_some {i : BookIx} {m : Nat} {k : Booking} : ∀ {book : List Booking} {rank : Nat},
    bookView book rank i = some (m, k) → ∃ front rest, book = front ++ k :: rest ∧ m = rank + front.length
  | [], _, h => by cases h
  | b :: book, rank, h => by
    unfold bookView at h
    split at h
    · cases h
      exact ⟨[], book, rfl, rfl⟩
    · obtain ⟨front, rest, hb, hm⟩ := bookView_some h
      exact ⟨b :: front, rest, by rw [hb]; rfl, by rw [hm, List.length_cons]; omega⟩

/-- While the internal indices stand apart, each booking is shown at its own, with its rank. -/
theorem bookView_append {k : Booking} {after : List Booking} : ∀ {before : List Booking} {rank : Nat},
    ((before ++ k :: after).map Booking.index).Nodup →
      bookView (before ++ k :: after) rank k.index = some (rank + before.length, k)
  | [], _, _ => by simp [bookView]
  | b :: before, rank, h => by
    rw [List.cons_append, List.map_cons, List.nodup_cons] at h
    have hne : b.index ≠ k.index := fun e => h.1 (List.mem_map.2 ⟨k, by simp, e.symm⟩)
    rw [List.cons_append, bookView, if_neg hne, bookView_append h.2, List.length_cons]
    congr 2
    omega

/-- An internal index that no booking holds shows none. -/
theorem bookView_none {i : BookIx} : ∀ {book : List Booking} {rank : Nat}, (∀ k ∈ book, k.index ≠ i) → bookView book rank i = none
  | [], _, _ => rfl
  | b :: book, rank, h => by
    rw [bookView, if_neg (h b (by simp))]
    exact bookView_none fun k hk => h k (by simp [hk])

/-- Settles O50: from what each command marks (`exec_marked`), record by record. -/
theorem stepsMarkWhatTheyChange : Obligations.StepsMarkWhatTheyChange := by
  intro s t hs ⟨_, _, hindex, _⟩ hstep
  have h : Marked s t := by
    unfold step at hstep
    split at hstep
    · cases hstep
      exact (Tracks.refl s).marked hs
    · next c rest _ =>
      obtain ⟨hrecords, hindices, hlaw⟩ := exec_marked (s := { s with pending := rest }) hs hstep
      exact ⟨fun r => (hrecords r).imp_right (SameShown.trans (by cases r <;> rfl)), hindices, hlaw⟩
  have dirty : ∀ r, ¬SameShown s t r → t.mirror.dirty.has r = true := fun r hr => (h.records r).resolve_right hr
  refine ⟨h.startUp, fun r hr => dirty r (mt SameShown.recordWords hr), fun b hb => dirty (.bay b) hb,
    fun i hi => dirty (.roster i) hi, fun before k after hbook hplace => ?_, fun k hk hgone => ?_, fun hcount => ?_⟩
  · refine dirty (.booking k.index) fun hsame => ?_
    have hview : bookView t.book 1 k.index = some (1 + before.length, k) := by
      rw [hbook]
      exact bookView_append (hbook ▸ h.indices hindex)
    obtain ⟨front, rest, hfront, hrank⟩ := bookView_some (hsame.symm.trans hview)
    exact hplace front rest hfront (by omega)
  · refine dirty (.booking k.index) fun (hsame : t.bookRecord k.index = s.bookRecord k.index) => ?_
    obtain ⟨front, rest, hfront⟩ := List.append_of_mem hk
    have hview : bookView s.book 1 k.index = some (1 + front.length, k) := by
      rw [hfront]
      exact bookView_append (hfront ▸ hindex)
    cases (bookView_none hgone).symm.trans (hsame.trans hview)
  · refine dirty .header fun hsame => ?_
    obtain hr | hl := hcount
    · exact hr (congrArg HeaderFields.rosterCount hsame)
    · exact hl (congrArg HeaderFields.bookCount hsame)

end Sys2Proof.Machine
end

section
/-!
PROOF. The roster's operations under the pairing law (R1, R2): where a tag is found, what a bind request and a release do to the
entries and to the bays' bound tags, and that the law stands after them.
-/

namespace Sys2Proof.Machine

open Sys2Proof

/-! ### Looking up a tag -/

/-- The index found for a tag holds an entry with it. -/
theorem State.rosterFind_some {s : State} {t : Tag} {i : RosterIx} (h : s.rosterFind t = some i) :
    ∃ e, s.roster.entries.get i = some e ∧ e.tag = t := by
  simpa [Option.map_eq_some_iff] using List.find?_some h

/-- No index is found for a tag exactly when no entry holds it. -/
theorem State.rosterFind_none {s : State} {t : Tag} :
    s.rosterFind t = none ↔ ∀ i e, s.roster.entries.get i = some e → e.tag ≠ t := by
  simp [State.rosterFind, List.find?_eq_none]

/-- Under the pairing law the tag of an entry is found at its index. -/
theorem PairingLaw.rosterFind {s : State} (h : PairingLaw s) {i : RosterIx} {e : RosterEntry}
    (hi : s.roster.entries.get i = some e) : s.rosterFind e.tag = some i := by
  obtain ⟨htags, _, _⟩ := h
  cases hf : s.rosterFind e.tag with
  | none => exact absurd rfl (State.rosterFind_none.1 hf i e hi)
  | some j =>
    obtain ⟨f, hj, hf⟩ := State.rosterFind_some hf
    rw [htags j i f e hj hi hf]

/-! ### Bound tags -/

/-- The tag bound at each bay. -/
def State.boundTags (s : State) (b : BayNo) : Option Tag := (s.bay b).boundTag

theorem boundTags_of_bays {s t : State} (h : t.bays = s.bays) : t.boundTags = s.boundTags := by
  unfold State.boundTags State.bay
  rw [h]

@[simp] theorem State.raise_boundTags (s : State) (kind : AlertKind) (bay : Option BayNo) (tag : Option Tag) :
    (s.raise kind bay tag).boundTags = s.boundTags := boundTags_of_bays (by simp)

/-- A bay's bound tag after a change of one bay's record. -/
theorem State.updBay_boundTags (s : State) (b : BayNo) (f : BayRecord → BayRecord) (c : BayNo) :
    (s.updBay b f).boundTags c = if c = b then (f (s.bay b)).boundTag else s.boundTags c := by
  unfold State.boundTags
  rw [State.updBay_bay]
  split <;> rfl

/-- Under the pairing law entries with one tag stand at one index. -/
theorem PairingLaw.index_eq {s : State} (h : PairingLaw s) {i j : RosterIx} {e f : RosterEntry}
    (hi : s.roster.entries.get i = some e) (hj : s.roster.entries.get j = some f) (ht : e.tag = f.tag) : i = j := h.1 i j e f hi hj ht

/-- Under the pairing law the bay that an entry names holds its tag. -/
theorem PairingLaw.bound {s : State} (h : PairingLaw s) {i : RosterIx} {e : RosterEntry} {b : BayNo}
    (hi : s.roster.entries.get i = some e) (hb : e.bay = some b) : s.boundTags b = some e.tag := by
  obtain ⟨_, hbound, _⟩ := h
  exact hbound i e b hi hb

/-- Under the pairing law a bound tag has an entry that names the bay. -/
theorem PairingLaw.entry {s : State} (h : PairingLaw s) {b : BayNo} {t : Tag} (hb : s.boundTags b = some t) :
    ∃ i e, s.roster.entries.get i = some e ∧ e.tag = t ∧ e.bay = some b := by
  obtain ⟨_, _, hentry⟩ := h
  exact hentry b t hb

/-- The pairing law speaks of the entries and the bound tags. -/
theorem PairingLaw.of_same {s t : State} (h : PairingLaw s) (he : t.roster.entries = s.roster.entries)
    (hb : t.boundTags = s.boundTags) : PairingLaw t := by
  have hb : ∀ b, (t.bay b).boundTag = (s.bay b).boundTag := congrFun hb
  unfold PairingLaw at *
  simpa only [he, hb] using h

/-- Every entry keeps its tag and its bay. -/
theorem PairingLaw.of_entries {s t : State} (h : PairingLaw s) {i : RosterIx} {e f : RosterEntry}
    (hi : s.roster.entries.get i = some e) (ht : f.tag = e.tag) (hbay : f.bay = e.bay)
    (he : ∀ j, t.roster.entries.get j = if j = i then some f else s.roster.entries.get j) (hb : t.boundTags = s.boundTags) :
    PairingLaw t := by
  have back : ∀ j g, t.roster.entries.get j = some g → ∃ g', s.roster.entries.get j = some g' ∧ g'.tag = g.tag ∧ g'.bay = g.bay := by
    intro j g hj
    rw [he] at hj
    split at hj
    · next e => cases hj; exact ⟨_, e ▸ hi, ht.symm, hbay.symm⟩
    · exact ⟨g, hj, rfl, rfl⟩
  obtain ⟨htags, hbays, hentries⟩ := h
  refine ⟨fun j k g g' hj hk hg => ?_, fun j g b hj hg => ?_, fun b tag hbt => ?_⟩
  · obtain ⟨g1, hj, e1, _⟩ := back j g hj
    obtain ⟨g2, hk, e2, _⟩ := back k g' hk
    exact htags j k g1 g2 hj hk (by rw [e1, e2, hg])
  · obtain ⟨g1, hj, e1, e2⟩ := back j g hj
    exact (congrFun hb b).trans ((hbays j g1 b hj (e2.trans hg)).trans (congrArg some e1))
  · obtain ⟨j, g, hj, hg, hgb⟩ := hentries b tag ((congrFun hb b).symm.trans hbt)
    by_cases hji : j = i
    · subst hji
      rw [hi] at hj
      cases hj
      exact ⟨j, f, by rw [he, if_pos rfl], ht.trans hg, hbay.trans hgb⟩
    · exact ⟨j, g, by rw [he, if_neg hji, hj], hg, hgb⟩

/-- A PARKED entry is taken away. -/
theorem PairingLaw.of_removed {s t : State} (h : PairingLaw s) {i : RosterIx}
    (hi : ∀ e, s.roster.entries.get i = some e → e.bay = none)
    (he : ∀ j, t.roster.entries.get j = if j = i then none else s.roster.entries.get j) (hb : t.boundTags = s.boundTags) :
    PairingLaw t := by
  have back : ∀ j g, t.roster.entries.get j = some g → s.roster.entries.get j = some g := by
    intro j g hj
    rw [he] at hj
    split at hj
    · cases hj
    · exact hj
  obtain ⟨htags, hbays, hentries⟩ := h
  refine ⟨fun j k g g' hj hk hg => htags j k g g' (back j g hj) (back k g' hk) hg,
    fun j g b hj hg => (congrFun hb b).trans (hbays j g b (back j g hj) hg), fun b tag hbt => ?_⟩
  obtain ⟨j, g, hj, hg, hgb⟩ := hentries b tag ((congrFun hb b).symm.trans hbt)
  refine ⟨j, g, ?_, hg, hgb⟩
  rw [he, if_neg, hj]
  rintro rfl
  rw [hi g hj] at hgb
  cases hgb

/-- No entry and no bound tag. -/
theorem PairingLaw.of_empty {s : State} (h : ∀ i, s.roster.entries.get i = none) (hb : ∀ b, s.boundTags b = none) :
    PairingLaw s := by
  refine ⟨fun i j e f hi => ?_, fun i e b hi => ?_, fun b tag ht => ?_⟩
  · cases (h i).symm.trans hi
  · cases (h i).symm.trans hi
  · cases (hb b).symm.trans ht

/-! ### The eviction candidate (R7) -/

/-- What the eviction's scan has found among the indices of a list: nothing removable, or a removable entry that no other one was
last seen before, the lowest index of those last seen at its time. -/
def EvicteeOf (s : State) (l : List RosterIx) : Option (RosterIx × RosterEntry) → Prop
  | none => ∀ j ∈ l, ∀ f, s.roster.entries.get j = some f → s.removable f = false
  | some (i, e) =>
    i ∈ l ∧ s.roster.entries.get i = some e ∧ s.removable e = true ∧
    ∀ j ∈ l, ∀ f, s.roster.entries.get j = some f → s.removable f = true →
      e.lastSeen.toNat < f.lastSeen.toNat ∨ (e.lastSeen = f.lastSeen ∧ i ≤ j)

/-- The scan goes on over one more index that holds a removable entry. -/
theorem EvicteeOf.take {s : State} {l : List RosterIx} {best : Option (RosterIx × RosterEntry)} (h : EvicteeOf s l best)
    {i : RosterIx} {e : RosterEntry} (hi : s.roster.entries.get i = some e) (he : s.removable e = true) (hl : ∀ j ∈ l, j < i) :
    EvicteeOf s (l ++ [i]) (olderOf best i e) := by
  cases best with
  | none =>
    refine ⟨by simp, hi, he, fun j hj f hf hr => ?_⟩
    obtain hj | hj := List.mem_append.1 hj
    · rw [h j hj f hf] at hr
      cases hr
    · rw [List.mem_singleton.1 hj] at hf ⊢
      cases hi.symm.trans hf
      exact .inr ⟨rfl, le_refl _⟩
  | some p =>
    obtain ⟨k, g⟩ := p
    obtain ⟨hk, hg, hr, hmin⟩ := h
    unfold olderOf
    dsimp only
    split
    · next hlt =>
      refine ⟨by simp, hi, he, fun j hj f hf hrf => ?_⟩
      obtain hj | hj := List.mem_append.1 hj
      · obtain hm | ⟨hm, _⟩ := hmin j hj f hf hrf
        · exact .inl (hlt.trans hm)
        · exact .inl (hm ▸ hlt)
      · rw [List.mem_singleton.1 hj] at hf ⊢
        cases hi.symm.trans hf
        exact .inr ⟨rfl, le_refl _⟩
    · next hge =>
      refine ⟨by simp [hk], hg, hr, fun j hj f hf hrf => ?_⟩
      obtain hj | hj := List.mem_append.1 hj
      · exact hmin j hj f hf hrf
      · rw [List.mem_singleton.1 hj] at hf ⊢
        cases hi.symm.trans hf
        obtain hlt | heq := Nat.lt_or_eq_of_le (Nat.le_of_not_lt hge)
        · exact .inl hlt
        · exact .inr ⟨BitVec.eq_of_toNat_eq heq, (hl k hk).le⟩

/-- The scan goes on over one more index that holds nothing removable. -/
theorem EvicteeOf.pass {s : State} {l : List RosterIx} {best : Option (RosterIx × RosterEntry)} (h : EvicteeOf s l best)
    {i : RosterIx} (hi : ∀ e, s.roster.entries.get i = some e → s.removable e = false) : EvicteeOf s (l ++ [i]) best := by
  cases best with
  | none =>
    intro j hj f hf
    obtain hj | hj := List.mem_append.1 hj
    · exact h j hj f hf
    · rw [List.mem_singleton.1 hj] at hf
      exact hi f hf
  | some p =>
    obtain ⟨hk, hg, hr, hmin⟩ := h
    refine ⟨by simp [hk], hg, hr, fun j hj f hf hrf => ?_⟩
    obtain hj | hj := List.mem_append.1 hj
    · exact hmin j hj f hf hrf
    · rw [List.mem_singleton.1 hj] at hf
      rw [hi f hf] at hrf
      cases hrf

/-- What the eviction chooses, of all indices. -/
theorem State.evictee_spec (s : State) : EvicteeOf s (List.finRange 128) s.evictee := by
  have scan : ∀ l : List RosterIx, l.Pairwise (· < ·) → EvicteeOf s l
      (l.foldl
        (fun best i =>
          match s.roster.entries.get i with
          | none => best
          | some e => if s.removable e then olderOf best i e else best) none) := by
    intro l
    induction l using List.reverseRecOn with
    | nil => exact fun _ => nofun
    | append_singleton l i ih =>
      intro hl
      obtain ⟨hl, _, hlt⟩ := List.pairwise_append.1 hl
      rw [List.foldl_append, List.foldl_cons, List.foldl_nil]
      split
      · next hnone => exact (ih hl).pass fun e he => by rw [hnone] at he; cases he
      · next e he =>
        split
        · next hr => exact (ih hl).take he hr fun j hj => hlt j hj i (by simp)
        · next hr => exact (ih hl).pass fun f hf => by cases he.symm.trans hf; simpa using hr
  exact scan _ (List.pairwise_lt_finRange 128)

/-! ### A bind request -/

/-- At `x` the tag's entry stands at index `i`, BOUND to bay `b`: no other index held the tag, another tag's entry that stood there
was PARKED, and the bay that the entry named before, if any, has lost its bound tag. Bay `b`'s own record has yet to take the tag. -/
structure BindsAt (s x : State) (i : RosterIx) (t : Tag) (b : BayNo) : Prop where
  entry : ∃ e, x.roster.entries.get i = some e ∧ e.tag = t ∧ e.bay = some b
  others : ∀ j, j ≠ i → x.roster.entries.get j = s.roster.entries.get j
  only : ∀ j e, s.roster.entries.get j = some e → e.tag = t → j = i
  parked : ∀ e, s.roster.entries.get i = some e → e.tag ≠ t → e.bay = none
  holder : ∀ e p, s.roster.entries.get i = some e → e.bay = some p → x.boundTags p = none
  bays : ∀ c, (∀ e, s.roster.entries.get i = some e → e.bay ≠ some c) → x.boundTags c = s.boundTags c

@[simp] theorem State.bindAt_get (s : State) (i j : RosterIx) (t : Tag) (b : BayNo) (energy : Nat) :
    (s.bindAt i t b energy).roster.entries.get j = if j = i then some (s.boundEntry t b energy) else s.roster.entries.get j := by
  simp [State.bindAt, State.setRoster_get]

/-- A bind at an index whose entry, if any, is PARKED. -/
theorem BindsAt.of_parked {s x : State} {i : RosterIx} {t : Tag} {b : BayNo} (energy : Nat)
    (hx : x.roster = (s.bindAt i t b energy).roster) (hb : x.bays = s.bays)
    (honly : ∀ j e, s.roster.entries.get j = some e → e.tag = t → j = i)
    (hparked : ∀ e, s.roster.entries.get i = some e → e.bay = none) : BindsAt s x i t b where
  entry := ⟨s.boundEntry t b energy, by rw [hx]; simp, rfl, rfl⟩
  others j hj := by rw [hx]; simp [hj]
  only := honly
  parked e he _ := hparked e he
  holder e p he hp := by
    rw [hparked e he] at hp
    cases hp
  bays c _ := congrFun (boundTags_of_bays hb) c

/-- The pairing law stands when bay `b`, which held no tag, takes the tag that the roster has bound to it. -/
theorem BindsAt.pairing {s x y : State} {i : RosterIx} {t : Tag} {b : BayNo} (h : BindsAt s x i t b) (hs : PairingLaw s)
    (hb : s.boundTags b = none) (he : y.roster.entries = x.roster.entries)
    (hy : ∀ c, y.boundTags c = if c = b then some t else x.boundTags c) : PairingLaw y := by
  obtain ⟨e₀, hi, htag, hbay⟩ := h.entry
  obtain ⟨htags, hbays, hentries⟩ := hs
  have back : ∀ j g, y.roster.entries.get j = some g → (j = i ∧ g = e₀) ∨ (j ≠ i ∧ s.roster.entries.get j = some g) := by
    intro j g hj
    rw [he] at hj
    by_cases hji : j = i
    · subst hji
      rw [hi] at hj
      cases hj
      exact .inl ⟨rfl, rfl⟩
    · exact .inr ⟨hji, by rw [← h.others j hji, hj]⟩
  have free : ∀ g j, s.roster.entries.get j = some g → g.bay ≠ some b := fun g j hj hg => by
    have := hbays j g b hj hg
    rw [← State.boundTags, hb] at this
    cases this
  refine ⟨fun j k g g' hj hk hg => ?_, fun j g c hj hg => ?_, fun c tag hc => ?_⟩
  · obtain ⟨rfl, rfl⟩ | ⟨hji, hj⟩ := back j g hj <;> obtain ⟨rfl, rfl⟩ | ⟨hki, hk⟩ := back k g' hk
    · rfl
    · exact (hki (h.only k g' hk (hg.symm.trans htag))).elim
    · exact (hji (h.only j g hj (hg.trans htag))).elim
    · exact htags j k g g' hj hk hg
  · obtain ⟨rfl, rfl⟩ | ⟨hji, hj⟩ := back j g hj
    · rw [hbay] at hg
      cases hg
      rw [← State.boundTags, hy, if_pos rfl, htag]
    · have hcb : c ≠ b := fun e => free g j hj (e ▸ hg)
      have hheld : s.boundTags c = some g.tag := hbays j g c hj hg
      rw [← State.boundTags, hy, if_neg hcb, h.bays c, hheld]
      intro e hi hec
      have := (hbays i e c hi hec).symm.trans hheld
      exact hji (htags j i g e hj hi (Option.some.inj this).symm)
  · rw [← State.boundTags, hy] at hc
    by_cases hcb : c = b
    · subst hcb
      rw [if_pos rfl] at hc
      cases hc
      exact ⟨i, e₀, by rw [he, hi], htag, hbay⟩
    · rw [if_neg hcb] at hc
      have hnot : ∀ e, s.roster.entries.get i = some e → e.bay ≠ some c := fun e hi hec => by
        rw [h.holder e c hi hec] at hc
        cases hc
      rw [h.bays c hnot] at hc
      obtain ⟨j, g, hj, hg, hgc⟩ := hentries c tag hc
      have hji : j ≠ i := fun e => hnot g (e ▸ hj) hgc
      exact ⟨j, g, by rw [he, h.others j hji, hj], hg, hgc⟩

/-- A free index holds no entry. -/
theorem State.freeRosterIx_some {s : State} {i : RosterIx} (h : s.freeRosterIx = some i) : s.roster.entries.get i = none := by
  simpa using List.find?_some h

/-- A rebind writes the entry alone. -/
theorem State.rebind_roster (s : State) (i : RosterIx) (p : BayNo) (t : Tag) (b : BayNo) (energy : Nat) :
    (s.rebind i p t b energy).2.roster = (s.bindAt i t b energy).roster := by
  unfold State.rebind
  split <;> simp

/-- A rebind clears the bound tag of the bay that held the tag. -/
theorem State.rebind_boundTags (s : State) (i : RosterIx) (p : BayNo) (t : Tag) (b : BayNo) (energy : Nat) (c : BayNo) :
    (s.rebind i p t b energy).2.boundTags c = if c = p then none else s.boundTags c := by
  have hbind : (s.bindAt i t b energy).boundTags = s.boundTags := boundTags_of_bays (by simp)
  unfold State.rebind
  split
  · rw [State.raise_boundTags, State.migrateAway, State.updBay_boundTags, hbind]
  · unfold State.clashAway
    dsimp only
    split
    · rw [State.raise_boundTags, State.updBay_boundTags, State.raise_boundTags, hbind]
    · rw [State.updBay_boundTags, State.raise_boundTags, hbind]

/-- What a bind request does to the entries and the bound tags: nothing when it is refused, and otherwise it binds the tag at an
index (R4 to R10). -/
theorem State.bindRequest_bindsAt {s : State} (hs : PairingLaw s) {b : BayNo} (hb : s.boundTags b = none) (t : Tag) (energy : Nat) :
    ((s.bindRequest t b energy).1 = .refused ∧ (s.bindRequest t b energy).2.roster = s.roster ∧
      (s.bindRequest t b energy).2.bays = s.bays) ∨
    ((s.bindRequest t b energy).1 ≠ .refused ∧ ∃ i, BindsAt s (s.bindRequest t b energy).2 i t b) := by
  unfold State.bindRequest
  split
  · next hf =>
    have hnone := State.rosterFind_none.1 hf
    unfold State.learn
    split
    · next i hfree =>
      refine .inr ⟨nofun, i, .of_parked energy (by simp) (by simp) (fun j e hj ht => (hnone j e hj ht).elim) fun e he => ?_⟩
      rw [State.freeRosterIx_some hfree] at he
      cases he
    split
    · next i e hev =>
      obtain ⟨_, hi, hr, _⟩ := hev ▸ s.evictee_spec
      refine .inr ⟨nofun, i, .of_parked energy (by simp) (by simp) (fun j e hj ht => (hnone j e hj ht).elim) fun f hf => ?_⟩
      cases hi.symm.trans hf
      simp only [State.removable, Bool.and_eq_true, Option.isNone_iff_eq_none] at hr
      exact hr.1
    · exact .inl ⟨rfl, by simp, by simp⟩
  · next i hf =>
    obtain ⟨e, hi, ht⟩ := State.rosterFind_some hf
    have honly : ∀ j f, s.roster.entries.get j = some f → f.tag = t → j = i := fun j f hj hft =>
      hs.index_eq hj hi (hft.trans ht.symm)
    rw [hi]
    split
    · next p hp =>
      have hbay : e.bay = some p := hp
      have hheld : s.boundTags p = some e.tag := hs.bound hi hbay
      have hpb : p ≠ b := by
        rintro rfl
        rw [hb] at hheld
        cases hheld
      rw [if_neg hpb]
      have hanswer : (s.rebind i p t b energy).1 ≠ .refused := by
        unfold State.rebind
        split <;> exact nofun
      refine .inr ⟨hanswer, i, ⟨s.boundEntry t b energy, ?_, rfl, rfl⟩, ?_, honly, ?_, ?_, ?_⟩
      · rw [State.rebind_roster, State.bindAt_get, if_pos rfl]
      · intro j hj
        rw [State.rebind_roster, State.bindAt_get, if_neg hj]
      · intro f hf hft
        cases hi.symm.trans hf
        exact (hft ht).elim
      · intro f c hf hc
        cases hi.symm.trans hf
        cases hbay.symm.trans hc
        rw [State.rebind_boundTags, if_pos rfl]
      · intro c hc
        rw [State.rebind_boundTags, if_neg fun (e : c = p) => hc _ hi (e ▸ hbay)]
    · next hp =>
      refine .inr ⟨nofun, i, .of_parked energy (by simp) (by simp) honly fun f hf => ?_⟩
      cases hi.symm.trans hf
      exact hp

/-! ### Binding a bay -/

theorem State.moveByAnswer_boundTags (s : State) (b : BayNo) (t : Tag) (a : RosterAnswer) (c : BayNo) :
    (s.moveByAnswer b t a).boundTags c = if c = b then (if a = .refused then none else some t) else s.boundTags c := by
  unfold State.moveByAnswer
  split <;> rw [State.updBay_boundTags]

/-- A bay without a binding that binds keeps the pairing law. -/
theorem PairingLaw.bindBay {s : State} (hs : PairingLaw s) {b : BayNo} (hb : s.boundTags b = none) (t : Tag) (energy : Nat) :
    PairingLaw (s.bindBay b t energy).2 := by
  obtain ⟨ha, hroster, hbays⟩ | ⟨ha, i, h⟩ := State.bindRequest_bindsAt hs hb t energy
  · refine hs.of_same (by simp [State.bindBay, hroster]) (funext fun c => ?_)
    rw [State.bindBay, State.moveByAnswer_boundTags, if_pos ha, boundTags_of_bays hbays]
    split
    · next e => rw [e, hb]
    · rfl
  · refine h.pairing hs hb (by simp [State.bindBay]) fun c => ?_
    rw [State.bindBay, State.moveByAnswer_boundTags, if_neg ha]

theorem PairingLaw.raise {s : State} (hs : PairingLaw s) (kind : AlertKind) (bay : Option BayNo) (tag : Option Tag) :
    PairingLaw (s.raise kind bay tag) := hs.of_same (by simp) (by simp)

theorem PairingLaw.plugIn {s : State} (hs : PairingLaw s) {b : BayNo} (hb : s.boundTags b = none) (t : Tag) (energy : Nat) :
    PairingLaw (s.plugIn b t energy) := (hs.bindBay hb t energy).raise _ _ _

theorem PairingLaw.retryLearning {s : State} (hs : PairingLaw s) {b : BayNo} (hb : s.boundTags b = none) (t : Tag)
    (energy : Nat) : PairingLaw (s.retryLearning b t energy) := by
  unfold State.retryLearning
  dsimp only
  split
  · exact hs.bindBay hb t energy
  · exact (hs.bindBay hb t energy).raise _ _ _

/-! ### Releasing a bay (R11) -/

/-- The entry as bay `b` has released its binding. -/
def RosterEntry.parkedFrom (b : BayNo) (e : RosterEntry) : RosterEntry := if e.bay = some b then { e with bay := none } else e

theorem State.rosterFind_of_roster {s t : State} (h : t.roster = s.roster) (tag : Tag) : t.rosterFind tag = s.rosterFind tag := by
  unfold State.rosterFind
  rw [h]

/-- Releasing the tag bound at a bay parks the entry that names the bay. -/
theorem PairingLaw.rosterRelease_get {s x : State} (hs : PairingLaw s) {b : BayNo} {t : Tag} (hb : s.boundTags b = some t)
    (hx : x.roster = s.roster) (j : RosterIx) :
    (x.rosterRelease t b).roster.entries.get j = (s.roster.entries.get j).map (RosterEntry.parkedFrom b) := by
  obtain ⟨i, e, hi, rfl, hbay⟩ := hs.entry hb
  unfold State.rosterRelease
  rw [State.rosterFind_of_roster hx, hs.rosterFind hi]
  dsimp only
  rw [hx, hi]
  dsimp only
  rw [if_pos hbay, State.setRoster_get, hx]
  split
  · next e => rw [e, hi, Option.map_some, RosterEntry.parkedFrom, if_pos hbay]
  · next hji =>
    cases hj : s.roster.entries.get j with
    | none => rfl
    | some g =>
      have hg : g.bay ≠ some b := fun hg =>
        hji (hs.index_eq hj hi (Option.some.inj ((hs.bound hj hg).symm.trans hb)))
      rw [Option.map_some, RosterEntry.parkedFrom, if_neg hg]

theorem PairingLaw.unbind_get {s : State} (hs : PairingLaw s) {b : BayNo} {t : Tag} (hb : s.boundTags b = some t) (j : RosterIx) :
    (s.unbind b t).roster.entries.get j = (s.roster.entries.get j).map (RosterEntry.parkedFrom b) :=
  hs.rosterRelease_get hb (by simp) j

theorem RosterEntry.parkedFrom_tag (b : BayNo) (e : RosterEntry) : (e.parkedFrom b).tag = e.tag := by
  unfold RosterEntry.parkedFrom
  split <;> rfl

/-- An entry that still names a bay named it before, and it is not the bay that released. -/
theorem RosterEntry.parkedFrom_bay {b c : BayNo} {e : RosterEntry} : (e.parkedFrom b).bay = some c ↔ e.bay = some c ∧ c ≠ b := by
  unfold RosterEntry.parkedFrom
  split
  · next h => simp [h, eq_comm]
  · next h => exact ⟨fun hc => ⟨hc, fun e => h (e ▸ hc)⟩, And.left⟩

/-- The pairing law stands when a bay has released its binding. -/
theorem PairingLaw.of_released {s t : State} (hs : PairingLaw s) (b : BayNo)
    (he : ∀ j, t.roster.entries.get j = (s.roster.entries.get j).map (RosterEntry.parkedFrom b))
    (hb : ∀ c, t.boundTags c = if c = b then none else s.boundTags c) : PairingLaw t := by
  have back : ∀ j g, t.roster.entries.get j = some g → ∃ e, s.roster.entries.get j = some e ∧ e.parkedFrom b = g := fun j g hj => by
    rw [he] at hj
    exact Option.map_eq_some_iff.1 hj
  obtain ⟨htags, hbays, hentries⟩ := hs
  refine ⟨fun j k g g' hj hk hg => ?_, fun j g c hj hg => ?_, fun c tag hc => ?_⟩
  · obtain ⟨e, hsj, rfl⟩ := back j g hj
    obtain ⟨e', hsk, rfl⟩ := back k g' hk
    exact htags j k e e' hsj hsk (by rwa [RosterEntry.parkedFrom_tag, RosterEntry.parkedFrom_tag] at hg)
  · obtain ⟨e, hsj, rfl⟩ := back j g hj
    obtain ⟨hec, hcb⟩ := RosterEntry.parkedFrom_bay.1 hg
    rw [← State.boundTags, hb, if_neg hcb, RosterEntry.parkedFrom_tag]
    exact hbays j e c hsj hec
  · rw [← State.boundTags, hb] at hc
    split at hc
    · cases hc
    · next hcb =>
      obtain ⟨j, e, hj, htag, hec⟩ := hentries c tag hc
      exact ⟨j, e.parkedFrom b, by rw [he, hj, Option.map_some], (e.parkedFrom_tag b).trans htag,
        RosterEntry.parkedFrom_bay.2 ⟨hec, hcb⟩⟩

theorem State.unbind_boundTags (s : State) (b : BayNo) (t : Tag) (c : BayNo) :
    (s.unbind b t).boundTags c = if c = b then none else s.boundTags c := by
  unfold State.unbind
  rw [boundTags_of_bays (State.rosterRelease_keeps ..).2.1, State.updBay_boundTags]

theorem State.releaseBay_boundTags (s : State) (b : BayNo) (t : Tag) (c : BayNo) :
    (s.releaseBay b t).boundTags c = if c = b then none else s.boundTags c := by
  unfold State.releaseBay
  rw [boundTags_of_bays (State.judgeDeparture_keeps ..).2.1, State.unbind_boundTags]

theorem PairingLaw.unbind {s : State} (hs : PairingLaw s) {b : BayNo} {t : Tag} (hb : s.boundTags b = some t) :
    PairingLaw (s.unbind b t) := hs.of_released b (hs.unbind_get hb) (s.unbind_boundTags b t)

theorem PairingLaw.releaseBay {s : State} (hs : PairingLaw s) {b : BayNo} {t : Tag} (hb : s.boundTags b = some t) :
    PairingLaw (s.releaseBay b t) :=
  hs.of_released b (fun j => by rw [State.releaseBay, (State.judgeDeparture_keeps ..).1, hs.unbind_get hb]) (s.releaseBay_boundTags b t)

/-- A change of one bay's record that leaves its bound tag. -/
theorem PairingLaw.updBay {s : State} (hs : PairingLaw s) (b : BayNo) {f : BayRecord → BayRecord}
    (hf : (f (s.bay b)).boundTag = (s.bay b).boundTag) : PairingLaw (s.updBay b f) :=
  hs.of_same (by simp) (funext fun c => by
    rw [State.updBay_boundTags]
    split
    · next e => rw [hf, e]; rfl
    · rfl)

/-- The state in which an exchange of vans learns the new tag: the old binding released with UNPLUG, the agreed mode cleared. -/
theorem PairingLaw.exchangeVan {s : State} (hs : PairingLaw s) {b : BayNo} {old : Tag} (hb : s.boundTags b = some old) (t : Tag)
    (energy : Nat) : PairingLaw (s.exchangeVan b old t energy) := by
  unfold State.exchangeVan
  refine PairingLaw.plugIn (((hs.releaseBay hb).raise _ _ _).updBay b (by rfl)) ?_ t energy
  rw [State.updBay_boundTags, if_pos rfl, ← State.boundTags, State.raise_boundTags, State.releaseBay_boundTags, if_pos rfl]

theorem PairingLaw.unplugBay {s : State} (hs : PairingLaw s) (b : BayNo) : PairingLaw (s.unplugBay b) := by
  unfold State.unplugBay
  dsimp only
  split
  · next hb => exact (hs.updBay b hb.symm).raise _ _ _
  · next t hb =>
    refine ((hs.releaseBay hb).updBay b ?_).raise _ _ _
    have := s.releaseBay_boundTags b t b
    rw [if_pos rfl] at this
    exact this.symm

/-! ### The first steps of a good report (R45) -/

/-- Accounting a meter value changes the bay's baseline and no other bay field (R48). -/
theorem State.meterAccount_bays (s : State) (b : BayNo) (held : Option Tag) (m : Nat) :
    (s.meterAccount b held m).bays = (s.updBay b fun bay => { bay with meterBaseline := some m }).bays := by
  unfold State.meterAccount
  dsimp only
  split
  · rfl
  split
  · simp
  · rfl

/-- Each bay's record as the first steps of a good report leave it: they change the bay of the report alone. -/
theorem State.reported_bay (s : State) (b : BayNo) (x : Exchange) (r : Report) (c : BayNo) :
    (s.reported b x r).bay c =
      if c = b then { (s.linkUpdate b x r).bay b with meterBaseline := some r.meter } else s.bay c := by
  unfold State.reported State.bay
  rw [(State.handOver_keeps ..).2.1, State.meterAccount_bays, ← State.bay, State.updBay_bay]
  split
  · rfl
  · next h => rw [State.linkUpdate, State.updBay_bay_of_ne _ _ h, State.bay]

@[simp] theorem State.reported_boundTag (s : State) (b : BayNo) (x : Exchange) (r : Report) (c : BayNo) :
    ((s.reported b x r).bay c).boundTag = (s.bay c).boundTag := by
  rw [State.reported_bay]
  split
  · next e => simp [State.linkUpdate, e]
  · rfl

@[simp] theorem State.reported_state (s : State) (b : BayNo) (x : Exchange) (r : Report) (c : BayNo) :
    ((s.reported b x r).bay c).state = (s.bay c).state := by
  rw [State.reported_bay]
  split
  · next e => simp [State.linkUpdate, e]
  · rfl

/-- The hand-over of a reported tag changes neither an entry's tag nor its bay. -/
theorem PairingLaw.handOver {s : State} (hs : PairingLaw s) (b : BayNo) (r : Report) : PairingLaw (s.handOver b r) := by
  unfold State.handOver
  split
  · unfold State.rosterHandOver
    split
    · exact hs
    split
    · exact hs
    · next hi =>
      refine hs.of_entries hi ?_ ?_ (fun j => State.setRoster_get _ _ j _) (boundTags_of_bays (by simp)) <;> rfl
  · exact hs

/-- Link updates and meter accounting touch neither roster nor bound tags. -/
theorem PairingLaw.accounted {s : State} (hs : PairingLaw s) (b : BayNo) (x : Exchange) (r : Report) (held : Option Tag) :
    PairingLaw ((s.linkUpdate b x r).meterAccount b held r.meter) := by
  have hlinked : PairingLaw (s.linkUpdate b x r) := hs.updBay b (by rfl)
  refine hlinked.of_same (by simp) ?_
  rw [boundTags_of_bays (State.meterAccount_bays ..)]
  funext c
  rw [State.updBay_boundTags]
  split
  · next e => rw [e]; rfl
  · rfl

theorem PairingLaw.reported {s : State} (hs : PairingLaw s) (b : BayNo) (x : Exchange) (r : Report) :
    PairingLaw (s.reported b x r) := (hs.accounted b x r _).handOver b r

/-! ### A good report (R45) -/

theorem PairingLaw.raiseForBay {s : State} (hs : PairingLaw s) (b : BayNo) (kind : AlertKind) : PairingLaw (s.raiseForBay b kind) :=
  hs.raise _ _ _

theorem PairingLaw.agree {s : State} (hs : PairingLaw s) (b : BayNo) (x : Exchange) (r : Report) : PairingLaw (s.agree b x r) := by
  unfold State.agree
  split
  · unfold State.settle
    dsimp only
    split <;> exact (hs.updBay b (by rfl)).raiseForBay b _
  · exact hs

theorem PairingLaw.refuseStep {s : State} (hs : PairingLaw s) (b : BayNo) : PairingLaw (s.refuseStep b) := by
  have hfaulted : PairingLaw (s.enterFaulted b) := hs.updBay b (by rfl)
  unfold State.refuseStep
  dsimp only
  split
  · exact hs
  split
  · exact (hfaulted.raiseForBay b _).raiseForBay b _
  · exact hfaulted.raiseForBay b _

theorem PairingLaw.stepSettled {s : State} (hs : PairingLaw s) (b : BayNo) (r : Report) : PairingLaw (s.stepSettled b r) := by
  unfold State.stepSettled
  split
  · exact hs.unplugBay b
  · next hb =>
    split
    · exact hs
    · exact hs.exchangeVan hb _ _
  · next hb => exact hs.plugIn hb _ _

theorem PairingLaw.stepReturn {s : State} (hs : PairingLaw s) (b : BayNo) (r : Report) : PairingLaw (s.stepReturn b r) := by
  unfold State.stepReturn
  split
  · exact hs.unplugBay b
  · next hb =>
    split
    · exact hs.updBay b (by rfl)
    · exact hs.exchangeVan hb _ _
  · next hb => exact hs.plugIn hb _ _

/-- The state step of a good report at a bay that holds no binding while EMPTY, DOZING or UNLISTED. -/
theorem PairingLaw.stateStep {s : State} (hs : PairingLaw s) (b : BayNo)
    (hidle : (s.bay b).state = .empty ∨ (s.bay b).state = .dozing ∨ (s.bay b).state = .unlisted → s.boundTags b = none)
    (x : Exchange) (r : Report) : PairingLaw (s.stateStep b x r) := by
  unfold State.stateStep
  split
  case h_1 => exact hs
  case h_2 =>
    unfold State.stepClosing
    split
    · exact hs.updBay b (by rfl)
    · exact hs
  all_goals
    rename_i hstate
    split
  any_goals exact hs.refuseStep b
  · unfold State.stepEmpty
    split
    · exact hs.plugIn (hidle (.inl hstate)) _ _
    · exact hs.updBay b (by rfl)
  · unfold State.stepDozing
    split
    · exact hs.plugIn (hidle (.inr (.inl hstate))) _ _
    · exact hs
  · unfold State.stepAgreeing
    split
    · exact hs.unplugBay b
    · next hb =>
      split
      · exact hs.agree b x r
      · exact hs.exchangeVan hb _ _
    · next hb => exact hs.plugIn hb _ _
  · exact hs.stepSettled b r
  · exact hs.stepSettled b r
  · unfold State.stepUnlisted
    split
    · exact hs.unplugBay b
    split
    · exact hs
    · exact hs.retryLearning (hidle (.inr (.inr hstate))) _ _
  · unfold State.stepFaulted
    split
    · exact (hs.stepReturn b r).raiseForBay b _
    · exact hs
  · exact (hs.stepReturn b r).raiseForBay b _

/-- A bay that R43 lets hold no binding holds none. -/
theorem BindingLaw.idle {s : State} (h : BindingLaw s) {b : BayNo}
    (hstate : (s.bay b).state = .empty ∨ (s.bay b).state = .dozing ∨ (s.bay b).state = .unlisted) : s.boundTags b = none := by
  cases hb : s.boundTags b with
  | none => rfl
  | some t =>
    have hbound := (h b).1 (by rw [← State.boundTags, hb]; rfl)
    obtain e | e | e := hstate <;> simp [e] at hbound

theorem State.goodReport_eq (s : State) (b : BayNo) (x : Exchange) (r : Report) :
    s.goodReport b x r =
      (((s.reported b x r).stateStep b x r).bookHandOver b (s.bay b).boundTag r).defaultBookingCheck b := rfl

/-- A good report keeps bays and roster entries paired. -/
theorem PairingLaw.goodReport {s : State} (hs : PairingLaw s) (hb : BindingLaw s) (b : BayNo) (x : Exchange) (r : Report) :
    PairingLaw (s.goodReport b x r) := by
  rw [State.goodReport_eq]
  refine ((hs.reported b x r).stateStep b ?_ x r).of_same (by simp) (boundTags_of_bays (by simp))
  intro hstate
  simpa [State.boundTags] using hb.idle (by simpa using hstate)

end Sys2Proof.Machine
end

section
/-!
PROOF. Every step keeps bays and roster entries paired (R1, R2, R11), and the part quiet while the image is read.
-/

namespace Sys2Proof.Machine

open Sys2Proof

/-! ### What leaves the bound tags -/

/-- A change of one bay's record that keeps its bound tag. -/
theorem State.updBay_boundTags_same (s : State) (b : BayNo) {f : BayRecord → BayRecord}
    (hf : (f (s.bay b)).boundTag = (s.bay b).boundTag) : (s.updBay b f).boundTags = s.boundTags := by
  funext c
  rw [State.updBay_boundTags]
  split
  · next e => rw [hf, e]; rfl
  · rfl

@[simp] theorem State.updLane_boundTags (s : State) (l : LaneNo) (f : Lane → Lane) : (s.updLane l f).boundTags = s.boundTags :=
  boundTags_of_bays (by simp)

@[simp] theorem State.visit_boundTags (s : State) (l : LaneNo) (start : Nat) : (s.visit l start).boundTags = s.boundTags := by
  unfold State.visit
  split
  · exact State.updBay_boundTags_same _ _ (by rfl)
  · rfl

@[simp] theorem State.beginRound_boundTags (s : State) (l : LaneNo) : (s.beginRound l).boundTags = s.boundTags :=
  (State.visit_boundTags ..).trans (State.updLane_boundTags ..)

@[simp] theorem State.overrunAlert_boundTags (s : State) (l : LaneNo) (n : Nat) : (s.overrunAlert l n).boundTags = s.boundTags :=
  boundTags_of_bays (by simp)

@[simp] theorem State.takeRoundStart_boundTags (s : State) (l : LaneNo) : (s.takeRoundStart l).boundTags = s.boundTags := by
  unfold State.takeRoundStart
  split
  · unfold State.takeOverrun
    rw [State.beginRound_boundTags, State.overrunAlert_boundTags]
    exact foldl_keeps _ State.boundTags (fun x d => State.updBay_boundTags_same x _ (by rfl)) _ s
  · simp

@[simp] theorem State.startRounds_boundTags (s : State) : s.startRounds.boundTags = s.boundTags :=
  foldl_keeps _ State.boundTags (fun x l => by
    split
    · unfold State.startRound
      split <;> simp
    · rfl) _ s

@[simp] theorem State.afterExchange_boundTags (s : State) (l : LaneNo) : (s.afterExchange l).boundTags = s.boundTags := by
  unfold State.afterExchange
  split
  · simp
  split
  · simp
  · rfl

@[simp] theorem State.armBays_boundTags (s : State) : s.armBays.boundTags = s.boundTags :=
  foldl_keeps _ State.boundTags (fun x b => by
    split
    · exact State.updBay_boundTags_same x b (by rfl)
    · rfl) _ s

@[simp] theorem State.clearSkips_boundTags (s : State) : s.clearSkips.boundTags = s.boundTags := boundTags_of_bays (by simp)

@[simp] theorem State.handLog_boundTags (s : State) (r : LogRecord) : (s.handLog r).boundTags = s.boundTags :=
  boundTags_of_bays (by simp)

@[simp] theorem State.swapPlanes_boundTags (s : State) (sn : Snapshot) : (s.swapPlanes sn).boundTags = s.boundTags :=
  boundTags_of_bays (by simp)

theorem State.setAllocator_boundTags (s : State) (a : Allocator) : ({ s with allocator := a }).boundTags = s.boundTags := rfl

@[simp] theorem State.publish_boundTags (s : State) (sn : Snapshot) : (s.publish sn).boundTags = s.boundTags := by
  unfold State.publish
  dsimp only
  rw [State.setAllocator_boundTags]
  simp

@[simp] theorem State.skip_boundTags (s : State) (reason : SkipReason) : (s.skip reason).boundTags = s.boundTags := by
  calc (s.skip reason).boundTags
      = (s.countSkip reason).startRounds.boundTags := boundTags_of_bays (by simp [State.skip])
    _ = (s.countSkip reason).boundTags := by simp
    _ = s.boundTags := boundTags_of_bays (by simp)

@[simp] theorem State.onSample_boundTags (s : State) (p : Nat) : (s.onSample p).boundTags = s.boundTags := by
  unfold State.onSample
  split
  · exact boundTags_of_bays (by simp)
  · simp

@[simp] theorem State.sampleDone_boundTags (s : State) (codes : Option Codes) (interval : Word) :
    (s.sampleDone codes interval).boundTags = s.boundTags := by
  unfold State.sampleDone
  split
  · exact (State.onSample_boundTags ..).trans (boundTags_of_bays (by simp))
  · unfold State.invalidSample
    (repeat' split) <;> simp

@[simp] theorem State.tickSample_boundTags (s : State) : s.tickSample.boundTags = s.boundTags := by
  unfold State.tickSample
  split
  · rfl
  · simp

@[simp] theorem State.failedExchange_boundTags (s : State) (b : BayNo) (kind : FailureKind) :
    (s.failedExchange b kind).boundTags = s.boundTags := by
  unfold State.failedExchange
  dsimp only
  split
  · split
    · unfold State.enterLost State.raiseForBay
      rw [State.raise_boundTags, State.updBay_boundTags_same _ _ (by rfl), State.updBay_boundTags_same _ _ (by rfl)]
    · exact State.updBay_boundTags_same _ _ (by rfl)
  · rfl

@[simp] theorem State.enableBay_boundTags (s : State) (b : BayNo) : (s.enableBay b).boundTags = s.boundTags := by
  unfold State.enableBay
  split
  · exact State.updBay_boundTags_same _ _ (by rfl)
  · exact State.updBay_boundTags_same _ _ (by rfl)
  all_goals rfl

@[simp] theorem State.setPermitted_boundTags (s : State) (ms : ModeSet) (b : BayNo) :
    (State.setPermitted ms s b).boundTags = s.boundTags := State.updBay_boundTags_same _ _ (by split <;> rfl)

@[simp] theorem State.setCap_boundTags (s : State) (cap : Nat) (b : BayNo) :
    (State.setCap cap s b).boundTags = s.boundTags := State.updBay_boundTags_same _ _ (by rfl)

/-! ### What leaves roster and bound tags -/

/-- What the pairing law speaks of. -/
def State.bindings (s : State) : Vector (Option RosterEntry) 128 × (BayNo → Option Tag) := (s.roster.entries, s.boundTags)

theorem State.bindings_eq {s t : State} (hr : t.roster = s.roster) (hb : t.boundTags = s.boundTags) :
    t.bindings = s.bindings := by
  rw [State.bindings, State.bindings, hr, hb]

theorem State.bindings_of_bays {s t : State} (hr : t.roster = s.roster) (hb : t.bays = s.bays) : t.bindings = s.bindings :=
  State.bindings_eq hr (boundTags_of_bays hb)

theorem PairingLaw.of_bindings {s t : State} (h : PairingLaw s) (e : t.bindings = s.bindings) : PairingLaw t :=
  h.of_same (congrArg Prod.fst e) (congrArg Prod.snd e)

/-- An answered request keeps roster and bound tags when its owner does. -/
theorem State.answerRequest_bindings (s : State) (is : Request → Bool) (owner : Request → State → Answer)
    (ho : ∀ req, (owner req s.dequeue).state.bindings = s.dequeue.bindings) : (s.answerRequest is owner).bindings = s.bindings :=
  State.answerRequest_keeps State.bindings s is owner (State.bindings_of_bays rfl rfl)
    (fun _ _ _ _ => State.bindings_of_bays (by simp) (by simp)) ho

theorem State.answerSetBay_bindings (s : State) (r : Request) (action : State → BayNo → State)
    (h : ∀ b, (action s b).bindings = s.bindings) : (s.answerSetBay r action).state.bindings = s.bindings := by
  unfold State.answerSetBay
  split
  · rfl
  split
  · rfl
  · exact h _

/-- The commands that may bind, release or remove a van, and the resets. -/
def rebinds : Instr → Bool
  | .powerOn _ _ | .resetLine _ _ | .configImageLoaded _ _ | .configReadTimeout | .restart => true
  | .tick | .reportComplete _ | .responseWindowExpiry _ | .forget | .setBayDisable => true
  | _ => false

theorem State.answerBook_bindings (s : State) (r : Request) : (s.answerBook r).state.bindings = s.bindings := by
  unfold State.answerBook State.takeBook
  (repeat' split) <;> exact State.bindings_of_bays (by simp) (by simp)

theorem State.answerCancel_bindings (s : State) (r : Request) : (s.answerCancel r).state.bindings = s.bindings := by
  unfold State.answerCancel
  split <;> exact State.bindings_of_bays (by simp) (by simp)

theorem State.hostAccess_bindings {s t : State} {write : Bool} {addr : Addr} {data : Word} {enables : BitVec 4}
    (h : s.hostAccess write addr data enables = .next t) : t.bindings = s.bindings := by
  unfold State.hostAccess at h
  split at h
  · cases h
  split at h
  · cases h
  · cases h
    exact State.bindings_of_bays (by simp) (by simp)

/-- Every other command leaves the roster's entries and the bound tags. -/
theorem exec_bindings {i : Instr} {s t : State} (h : exec i s = .next t) (hi : rebinds i = false) : t.bindings = s.bindings := by
  cases i with
  | powerOn _ _ | resetLine _ _ | configImageLoaded _ _ | configReadTimeout | restart | tick | reportComplete _
    | responseWindowExpiry _ | forget | setBayDisable => cases hi
  | hostAccess _ _ _ _ | planWordWrite _ _ _ _ | heartbeatWrite _ _ | alertConsumerIndexWrite _ _ | triggerWrite _ _ _
    | mirrorWriteStopped _ _ _ | fencedRead _ => exact State.hostAccess_bindings h
  | book => cases h; exact s.answerRequest_bindings _ _ fun r => State.answerBook_bindings _ r
  | cancel => cases h; exact s.answerRequest_bindings _ _ fun r => State.answerCancel_bindings _ r
  | setClock =>
    cases h
    exact s.answerRequest_bindings _ _ fun r =>
      State.bindings_of_bays (by simp [State.answerSetClock]) (by simp [State.answerSetClock])
  | setBayEnable =>
    cases h
    exact s.answerRequest_bindings _ _ fun r =>
      State.answerSetBay_bindings _ r _ fun b => State.bindings_eq (by simp) (by simp)
  | setBaySetCap =>
    cases h
    exact s.answerRequest_bindings _ _ fun r =>
      State.answerSetBay_bindings _ r _ fun b => State.bindings_eq (by simp) (by simp)
  | setBaySetPermittedModes =>
    cases h
    exact s.answerRequest_bindings _ _ fun r =>
      State.answerSetBay_bindings _ r _ fun b => State.bindings_eq (by simp) (by simp)
  | setLimits =>
    cases h
    exact s.answerRequest_bindings _ _ fun r => by
      unfold State.answerSetLimits
      (repeat' split) <;> rfl
  | calibrate =>
    cases h
    exact State.takeRequest_keeps State.bindings s _ _ rfl fun n r => State.bindings_of_bays (by simp) (by simp)
  | unknownRequest => cases h; exact s.answerRequest_bindings _ _ fun r => rfl
  | sampleCompletion l1 l2 l3 =>
    cases h
    split
    · rfl
    · dsimp only
      split
      · rfl
      · exact State.bindings_eq (by simp) ((State.sampleDone_boundTags ..).trans rfl)
  | publication =>
    cases h
    split
    · exact State.bindings_eq (by simp) (by simp)
    · rfl
  | _ =>
    cases h
    (repeat' split) <;> exact State.bindings_of_bays (by simp) (by simp)

/-! ### The commands that bind, release or remove a van -/

/-- The aging step takes away at most a PARKED entry. -/
theorem PairingLaw.agingStep {s : State} (hs : PairingLaw s) : PairingLaw s.agingStep := by
  have same : ∀ x : State, ∀ p, PairingLaw x → PairingLaw { x with roster := { x.roster with agingPosition := p } } :=
    fun x p hx => hx.of_same rfl rfl
  unfold State.agingStep
  refine same _ _ ?_
  split
  · exact hs
  · next e he =>
    split
    · next hold =>
      refine PairingLaw.raise ?_ _ _ _
      refine hs.of_removed (fun f hf => ?_) (State.setRoster_get s _ · none) (boundTags_of_bays (by simp))
      cases he.symm.trans hf
      simp only [State.agedOut, State.removable, Bool.and_eq_true, Option.isNone_iff_eq_none] at hold
      obtain ⟨⟨_, hparked, _⟩, _⟩ := hold
      exact hparked
    · exact hs

theorem PairingLaw.tickIn {s : State} (hs : PairingLaw s) (order : TickOrder) : PairingLaw (s.tickIn order) := by
  have hmeter : ∀ x : State, PairingLaw x → PairingLaw x.meterTick := fun x hx =>
    hx.of_same (by simp) (boundTags_of_bays (by simp))
  have hbook : ∀ x : State, PairingLaw x → PairingLaw x.bookScan := fun x hx =>
    hx.of_same (by simp) (boundTags_of_bays (by simp))
  have hclock : PairingLaw s.clockTick := hs.of_same (by simp) (boundTags_of_bays (by simp))
  have hblocks : PairingLaw (s.clockTick.blocksTick order) := by
    cases order
    · exact (hbook _ (hmeter _ hclock)).agingStep
    · exact hbook _ (hmeter _ hclock).agingStep
    · exact (hmeter _ (hbook _ hclock)).agingStep
    · exact hmeter _ (hbook _ hclock).agingStep
    · exact hbook _ (hmeter _ hclock.agingStep)
    · exact hmeter _ (hbook _ hclock.agingStep)
  exact hblocks.of_same (by simp [State.tickIn]) (State.tickSample_boundTags _)

/-- The end of an exchange. -/
theorem PairingLaw.endExchange {s : State} (hs : PairingLaw s) (hb : BindingLaw s) (l : LaneNo) (x : Exchange) (r : Receiver) :
    PairingLaw (s.endExchange l x r) := by
  have hhanded : PairingLaw (s.handOutcome l x (judgeExchange x r)) := by
    unfold State.handOutcome
    split
    · exact hs.of_same (by simp) (by simp)
    · split
      · exact hs.goodReport hb _ _ _
      · exact hs.of_same (by simp) (by simp)
  exact hhanded.of_same (by simp [State.endExchange]) (by simp [State.endExchange])

/-- FORGET takes away at most a PARKED entry. -/
theorem PairingLaw.answerForget {s : State} (hs : PairingLaw s) (r : Request) : PairingLaw (s.answerForget r).state := by
  unfold State.answerForget
  split
  · exact hs
  split
  · exact hs
  · next i _ _ hbay =>
    refine hs.of_removed (fun e he => ?_) (State.setRoster_get s i · none) (boundTags_of_bays (by simp))
    rwa [he] at hbay

/-- Closing a bay releases its binding. -/
theorem PairingLaw.disableBay {s : State} (hs : PairingLaw s) (b : BayNo) : PairingLaw (s.disableBay b) := by
  have hclosed : ∀ f : BayRecord → BayRecord, (∀ r, (f r).boundTag = none) → PairingLaw ((s.releaseForClosing b).updBay b f) := by
    intro f hf
    unfold State.releaseForClosing
    split
    · next hb => exact hs.updBay b ((hf _).trans hb.symm)
    · next t hb =>
      have hclaimed : PairingLaw ((s.unbind b t).closingClaim t) :=
        (hs.unbind hb).of_same (by simp) (boundTags_of_bays (by simp))
      refine hclaimed.updBay b ((hf _).trans ?_)
      have hnone := s.unbind_boundTags b t b
      rw [if_pos rfl] at hnone
      rw [← State.boundTags, boundTags_of_bays (State.closingClaim_keeps ..).2.1, hnone]
  unfold State.disableBay
  split
  · exact hs
  · exact hs
  all_goals exact hclosed _ fun _ => rfl

/-- A property that taking and storing keep, and the answer gives, holds after the answered request. -/
theorem State.answerRequest_of {P : State → Prop} {s : State} {is : Request → Bool} {owner : Request → State → Answer} (hs : P s)
    (ho : ∀ req, P (owner req s.dequeue).state) (hr : ∀ x n c d, P x → P (State.storeResult x n c d)) :
    P (s.answerRequest is owner) := by
  unfold State.answerRequest State.takeRequest
  split
  · exact hs
  split
  · exact hr _ _ _ _ (ho _)
  · exact hs

theorem PairingLaw.storeResult (x : State) (n : SlotNo) (c : ResultCode) (d : Nat) (hx : PairingLaw x) :
    PairingLaw (x.storeResult n c d) := hx.of_same (by simp) (boundTags_of_bays (by simp))

/-! ### The resets -/

/-- No bay holds a binding after a reset. -/
theorem boundTags_of_resetBays {s : State} {p : Params} {straps : Straps} (h : s.bays = resetBays p straps) (b : BayNo) :
    s.boundTags b = none := by
  simp [State.boundTags, State.bay, h, resetBays, resetBay, BayRecord.atReset]

/-- An empty roster and the bays of a reset. -/
def RosterEmpty (s : State) : Prop := s.roster = VanRoster.empty ∧ ∃ p straps, s.bays = resetBays p straps

theorem RosterEmpty.get {s : State} (h : RosterEmpty s) (i : RosterIx) : s.roster.entries.get i = none := by
  simp [h.1, VanRoster.empty]

theorem RosterEmpty.boundTags {s : State} (h : RosterEmpty s) (b : BayNo) : s.boundTags b = none := by
  obtain ⟨_, _, _, hb⟩ := h
  exact boundTags_of_resetBays hb b

theorem RosterEmpty.pairing {s : State} (h : RosterEmpty s) : PairingLaw s := .of_empty h.get h.boundTags

@[simp] theorem State.takeParams_bays (s : State) (p : Params) (src : ConfigSource) :
    (s.takeParams p src).bays = resetBays p s.config.straps := by
  unfold State.takeParams
  simp only [State.beginStartUpCalibration_keeps]
  rfl

theorem State.startUp_rosterEmpty (s : State) (straps : Straps) (level : Level) (offsets : Option Offsets) (g : Generations) :
    RosterEmpty (s.startUp straps level offsets g) := by
  unfold State.startUp
  dsimp only
  split
  · exact ⟨by simp [State.coldReset], _, _, by simp only [State.arbitrate_keeps]; rfl⟩
  · exact ⟨by simp [State.coldReset], _, _, by simp only [State.arbitrate_keeps]; exact State.takeParams_bays ..⟩

theorem State.depotRestart_rosterEmpty (s : State) : RosterEmpty s.depotRestart := by
  unfold State.depotRestart
  exact ⟨by simp, _, _, by simp only [State.curtailFromInput_keeps]; rfl⟩

/-! ### The part at rest while the image is read -/

/-- No entry, no exchange, no pass, no conversion set and no interval timer. -/
structure Quiet (s : State) : Prop where
  roster : ∀ i, s.roster.entries.get i = none
  exchange : ∀ l, (s.lane l).exchange = none
  pass : s.allocator.pass = none
  conversion : s.meter.conversion = .idle
  timer : s.clock.timerRunning = false

theorem loadingIsQuiet_iff (s : State) : LoadingIsQuiet s ↔ (s.config.step = .loading → Quiet s) :=
  ⟨fun h hl => have ⟨h1, h2, h3, h4, h5⟩ := h hl; ⟨h1, h2, h3, h4, h5⟩,
    fun h hl => have ⟨h1, h2, h3, h4, h5⟩ := h hl; ⟨h1, h2, h3, h4, h5⟩⟩

theorem Quiet.of_same {s t : State} (h : Quiet s) (hr : t.roster = s.roster) (hl : t.lanes = s.lanes)
    (ha : t.allocator = s.allocator) (hm : t.meter.conversion = s.meter.conversion)
    (hc : t.clock.timerRunning = s.clock.timerRunning) : Quiet t where
  roster i := by rw [hr, h.roster]
  exchange l := by rw [State.lane, hl]; exact h.exchange l
  pass := by rw [ha, h.pass]
  conversion := by rw [hm, h.conversion]
  timer := by rw [hc, h.timer]

/-! The interval timer goes on as it was. -/

@[simp] theorem State.clockLimit_timer (s : State) : s.clockLimit.clock.timerRunning = s.clock.timerRunning := by
  unfold State.clockLimit
  split <;> simp [State.updClock]

@[simp] theorem State.expireStale_timer (s : State) : s.expireStale.clock.timerRunning = s.clock.timerRunning := by
  unfold State.expireStale
  split <;> simp [State.updClock]

@[simp] theorem State.setDepotTime_timer (s : State) (t : Word) : (s.setDepotTime t).clock.timerRunning = s.clock.timerRunning := by
  simp [State.setDepotTime, State.updClock]

@[simp] theorem State.forwardWrite_timer (s : State) (w : PlanWrite) :
    (s.forwardWrite w).clock.timerRunning = s.clock.timerRunning := by
  unfold State.forwardWrite
  dsimp only
  split <;> simp [State.updClock]

@[simp] theorem State.takeTrigger_timer (s : State) (n : SlotNo) (merged : Word) :
    (s.takeTrigger n merged).clock.timerRunning = s.clock.timerRunning := by
  unfold State.takeTrigger
  dsimp only
  split
  · simp
  split <;> simp

@[simp] theorem State.capture_timer (s : State) (a : HostAccess) : (s.capture a).clock.timerRunning = s.clock.timerRunning := by
  unfold State.capture
  split
  · split
    · next p _ =>
      cases p with
      | heartbeat =>
        unfold State.captureWord State.captureHeartbeat
        dsimp only
        split <;> simp
      | consumerIndex => simp [State.captureWord, State.captureConsumer]
      | slotWord n w =>
        unfold State.captureWord State.captureSlotWord
        dsimp only
        split <;> simp
    · rfl
  · rfl

@[simp] theorem State.arbitrate_timer (s : State) : s.arbitrate.clock.timerRunning = s.clock.timerRunning := by
  unfold State.arbitrate State.grantHost
  (repeat' split) <;> simp

@[simp] theorem State.arrive_timer (s : State) (write : Bool) (addr : Addr) (data : Word) (enables : BitVec 4) :
    (s.arrive write addr data enables).clock.timerRunning = s.clock.timerRunning := by
  have hclaim : ∀ x : State, ∀ a, (x.claimPort a).clock.timerRunning = x.clock.timerRunning := fun x a => by
    simp [State.claimPort]
  unfold State.arrive State.watchedAccess
  dsimp only
  (repeat' split) <;> simp [hclaim]

/-! A conversion set in flight goes on, and none begins. -/

@[simp] theorem State.curtailOff_conversion (s : State) : s.curtailOff.meter.conversion = s.meter.conversion := by
  simp [State.curtailOff, State.updMeter]

@[simp] theorem State.curtailOn_conversion (s : State) : s.curtailOn.meter.conversion = s.meter.conversion := by
  simp [State.curtailOn, State.updMeter]

@[simp] theorem State.filterTo_conversion (s : State) (level : Level) :
    (s.filterTo level).meter.conversion = s.meter.conversion := rfl

@[simp] theorem State.endTail_conversion (s : State) : s.endTail.meter.conversion = s.meter.conversion := by
  unfold State.endTail
  split <;> simp

@[simp] theorem State.assertCurtail_conversion (s : State) : s.assertCurtail.meter.conversion = s.meter.conversion := by
  unfold State.assertCurtail
  split <;> simp [State.updMeter]

@[simp] theorem State.releaseCurtail_conversion (s : State) : s.releaseCurtail.meter.conversion = s.meter.conversion := by
  unfold State.releaseCurtail
  (repeat' split) <;> simp [State.updMeter]

@[simp] theorem State.curtailFromInput_conversion (s : State) : s.curtailFromInput.meter.conversion = s.meter.conversion := by
  unfold State.curtailFromInput
  split <;> simp [State.updMeter]

@[simp] theorem State.takeCalibrate_conversion (s : State) (n : SlotNo) (req : Request) :
    (s.takeCalibrate n req).meter.conversion = s.meter.conversion := by
  unfold State.takeCalibrate
  split <;> simp [State.updMeter, State.holdInHand]

@[simp] theorem State.completeCalibration_conversion (s : State) (origin : CalOrigin) (a1 a2 a3 : Nat) :
    (s.completeCalibration origin a1 a2 a3).meter.conversion = s.meter.conversion := by
  unfold State.completeCalibration
  dsimp only
  split <;> simp [State.updMeter]

theorem Quiet.storeResult (x : State) (n : SlotNo) (c : ResultCode) (d : Nat) (hx : Quiet x) : Quiet (x.storeResult n c d) :=
  hx.of_same (by simp) (by simp) (by simp) (by simp) (by simp)

theorem Quiet.dequeue {s : State} (hs : Quiet s) : Quiet s.dequeue := hs.of_same rfl rfl rfl rfl rfl

theorem Quiet.answerSetBay {s : State} (hs : Quiet s) (r : Request) {action : State → BayNo → State}
    (ha : ∀ b, Quiet (action s b)) : Quiet (s.answerSetBay r action).state := by
  unfold State.answerSetBay
  split
  · exact hs
  split
  · exact hs
  · exact ha _

/-- Without an entry no bay holds a tag. -/
theorem Quiet.boundTags {s : State} (hs : Quiet s) (hp : PairingLaw s) (b : BayNo) : s.boundTags b = none := by
  cases hb : s.boundTags b with
  | none => rfl
  | some t =>
    obtain ⟨i, e, hi, _⟩ := hp.entry hb
    cases (hs.roster i).symm.trans hi

theorem Quiet.disableBay {s : State} (hs : Quiet s) (hp : PairingLaw s) (b : BayNo) : Quiet (s.disableBay b) := by
  have hrelease : s.releaseForClosing b = s := by
    unfold State.releaseForClosing
    rw [← State.boundTags, hs.boundTags hp]
  have hroster : (s.disableBay b).roster = s.roster := by
    unfold State.disableBay
    rw [hrelease]
    split <;> simp
  exact hs.of_same hroster (by simp) (by simp) (by simp) (by simp)

theorem Quiet.hostAccess {s t : State} (hs : Quiet s) {write : Bool} {addr : Addr} {data : Word} {enables : BitVec 4}
    (h : s.hostAccess write addr data enables = .next t) : Quiet t := by
  unfold State.hostAccess at h
  split at h
  · cases h
  split at h
  · cases h
  · cases h
    exact hs.of_same (by simp) (by simp) (by simp) (by simp) (by simp)

/-- The commands that reset the part, take its parameters or end its start-up. -/
def resets : Instr → Bool
  | .powerOn _ _ | .resetLine _ _ | .configImageLoaded _ _ | .configReadTimeout | .startUpEnd | .restart => true
  | _ => false

/-- A part at rest stays so under every other command: no tick, sample, pass or report comes. -/
theorem exec_quiet {i : Instr} {s t : State} (hs : Quiet s) (hp : PairingLaw s) (h : exec i s = .next t) (hi : resets i = false) :
    Quiet t := by
  have answered : ∀ is owner, (∀ req, Quiet (owner req s.dequeue).state) → Quiet (s.answerRequest is owner) := fun is owner ho =>
    State.answerRequest_of hs ho Quiet.storeResult
  have hd := hs.dequeue
  have listening : ∀ l, (s.lane l).listeningPair = none := fun l => by
    unfold Lane.listeningPair
    rw [hs.exchange l]
    split
    · next e _ => cases e
    · rfl
  cases i with
  | powerOn _ _ | resetLine _ _ | configImageLoaded _ _ | configReadTimeout | startUpEnd | restart => cases hi
  | hostAccess _ _ _ _ | planWordWrite _ _ _ _ | heartbeatWrite _ _ | alertConsumerIndexWrite _ _ | triggerWrite _ _ _
    | mirrorWriteStopped _ _ _ | fencedRead _ => exact hs.hostAccess h
  | tick => cases h; rwa [hs.timer, if_neg (by simp)]
  | sampleCompletion l1 l2 l3 => cases h; rwa [hs.conversion]
  | publication => cases h; rwa [hs.pass]
  | reportComplete l => cases h; rwa [listening]
  | responseWindowExpiry l => cases h; rwa [listening]
  | frameSent l | characterArrival l octet stop =>
    cases h
    split
    any_goals exact hs
    refine ⟨by simpa using hs.roster, fun k => ?_, by simpa using hs.pass, by simpa using hs.conversion,
      by simpa using hs.timer⟩
    rw [State.updLane_lane]
    split
    · exact hs.exchange l
    · exact hs.exchange k
  | book =>
    cases h
    refine answered _ _ fun r => ?_
    unfold State.answerBook State.takeBook
    (repeat' split) <;> exact hd.of_same (by simp) (by simp) (by simp) (by simp) (by simp)
  | cancel =>
    cases h
    refine answered _ _ fun r => ?_
    unfold State.answerCancel
    split <;> exact hd.of_same (by simp) (by simp) (by simp) (by simp) (by simp)
  | forget =>
    cases h
    refine answered _ _ fun r => ?_
    have hnone : s.dequeue.rosterFind r.vanTag = none := State.rosterFind_none.2 fun i e he => by
      cases (hd.roster i).symm.trans he
    unfold State.answerForget
    rwa [hnone]
  | setClock =>
    cases h
    exact answered _ _ fun r => by
      unfold State.answerSetClock
      exact hd.of_same (by simp) (by simp) (by simp) (by simp) (by simp)
  | setBayEnable =>
    cases h
    exact answered _ _ fun r => hd.answerSetBay r fun b => hd.of_same (by simp) (by simp) (by simp) (by simp) (by simp)
  | setBayDisable => cases h; exact answered _ _ fun r => hd.answerSetBay r fun b => hd.disableBay hp b
  | setBaySetCap =>
    cases h
    exact answered _ _ fun r => hd.answerSetBay r fun b => hd.of_same (by simp) (by simp) (by simp) (by simp) (by simp)
  | setBaySetPermittedModes =>
    cases h
    exact answered _ _ fun r => hd.answerSetBay r fun b => hd.of_same (by simp) (by simp) (by simp) (by simp) (by simp)
  | setLimits =>
    cases h
    refine answered _ _ fun r => ?_
    unfold State.answerSetLimits
    (repeat' split) <;> exact hd.of_same rfl rfl rfl rfl rfl
  | calibrate =>
    cases h
    unfold State.takeRequest
    split
    · exact hs
    split
    · exact hd.of_same (by simp) (by simp) (by simp) (by simp) (by simp)
    · exact hs
  | unknownRequest => cases h; exact answered _ _ fun r => hd
  | downstreamCompletion =>
    cases h
    split
    · exact hs
    · exact hs.of_same (by simp) (by simp) (by simp) (by simp) (by simp)
    · exact hs.of_same (by simp) (by simp) (by simp) (by simp) (by simp)
  | recordPush =>
    cases h
    split
    · exact hs.of_same (by simp) (by simp) (by simp) (by simp) (by simp)
    · exact hs
  | _ =>
    cases h
    (repeat' split) <;> exact hs.of_same (by simp) (by simp) (by simp) (by simp [State.updMeter]) (by simp)

theorem State.hostAccess_config {s t : State} {write : Bool} {addr : Addr} {data : Word} {enables : BitVec 4}
    (h : s.hostAccess write addr data enables = .next t) : t.config = s.config := by
  unfold State.hostAccess at h
  split at h
  · cases h
  split at h
  · cases h
  · cases h
    simp

theorem State.answerSetBay_config {s : State} (r : Request) {action : State → BayNo → State}
    (ha : ∀ b, (action s b).config = s.config) : (s.answerSetBay r action).state.config = s.config := by
  unfold State.answerSetBay
  split
  · rfl
  split
  · rfl
  · exact ha _

/-- Every other command leaves the strap values, the loaded set and the start-up step, but for the completion of a calibration. -/
theorem exec_config {i : Instr} {s t : State} (h : exec i s = .next t) (hi : resets i = false)
    (hc : ∀ l1 l2 l3, i ≠ .calibrationCompletion l1 l2 l3) : t.config = s.config := by
  have answered : ∀ is owner, (∀ req : Request, (owner req s.dequeue).state.config = s.dequeue.config) →
      (s.answerRequest is owner).config = s.config := fun is owner ho =>
    State.answerRequest_keeps State.config s is owner rfl (by simp) ho
  cases i with
  | powerOn _ _ | resetLine _ _ | configImageLoaded _ _ | configReadTimeout | startUpEnd | restart => cases hi
  | calibrationCompletion l1 l2 l3 => exact absurd rfl (hc l1 l2 l3)
  | hostAccess _ _ _ _ | planWordWrite _ _ _ _ | heartbeatWrite _ _ | alertConsumerIndexWrite _ _ | triggerWrite _ _ _
    | mirrorWriteStopped _ _ _ | fencedRead _ => exact State.hostAccess_config h
  | book =>
    cases h
    refine answered _ _ fun r => ?_
    unfold State.answerBook State.takeBook
    (repeat' split) <;> simp
  | cancel =>
    cases h
    refine answered _ _ fun r => ?_
    unfold State.answerCancel
    split <;> simp
  | forget =>
    cases h
    refine answered _ _ fun r => ?_
    unfold State.answerForget
    (repeat' split) <;> simp
  | setClock => cases h; exact answered _ _ fun r => by simp [State.answerSetClock]
  | setBayEnable | setBayDisable | setBaySetCap | setBaySetPermittedModes =>
    cases h
    exact answered _ _ fun r => State.answerSetBay_config r fun b => by simp
  | setLimits =>
    cases h
    refine answered _ _ fun r => ?_
    unfold State.answerSetLimits
    (repeat' split) <;> rfl
  | calibrate =>
    cases h
    exact State.takeRequest_keeps State.config s _ _ rfl fun n r => by simp
  | unknownRequest => cases h; exact answered _ _ fun r => rfl
  | _ =>
    cases h
    (repeat' split) <;> simp

theorem State.leaveCalibrating_step (s : State) :
    s.leaveCalibrating.config.step = if s.config.step = .calibrating then .ending else s.config.step := by
  unfold State.leaveCalibrating
  split <;> rfl

theorem State.completeCalibration_step (s : State) (origin : CalOrigin) (a1 a2 a3 : Nat) :
    (s.completeCalibration origin a1 a2 a3).config.step = if s.config.step = .calibrating then .ending else s.config.step := by
  unfold State.completeCalibration
  dsimp only
  split <;> simp [State.leaveCalibrating_step]

/-- The end of a calibration brings no start-up back to its first step. -/
theorem State.completeCalibration_loading {s : State} {origin : CalOrigin} {a1 a2 a3 : Nat}
    (h : (s.completeCalibration origin a1 a2 a3).config.step = .loading) : s.config.step = .loading := by
  rw [State.completeCalibration_step] at h
  split at h
  · cases h
  · exact h

/-- The image is read on by a command that does not reset the part only where it was read before. -/
theorem exec_loading {i : Instr} {s t : State} (h : exec i s = .next t) (hi : resets i = false) (ht : t.config.step = .loading) :
    s.config.step = .loading := by
  by_cases hc : ∃ l1 l2 l3, i = .calibrationCompletion l1 l2 l3
  · obtain ⟨l1, l2, l3, rfl⟩ := hc
    cases h
    split at ht
    · exact State.completeCalibration_loading ht
    · exact ht
    · exact ht
  · rwa [← exec_config h hi fun l1 l2 l3 e => hc ⟨l1, l2, l3, e⟩]

/-! ### Every command -/

/-- The law of bound bays and entries, with the part quiet while the image is read. -/
structure Paired (s : State) : Prop where
  pairing : PairingLaw s
  loading : LoadingIsQuiet s

/-- A command that neither resets the part nor ends its start-up. -/
theorem exec_paired {i : Instr} {s t : State} (hs : Paired s) (hb : BindingLaw s) (h : exec i s = .next t)
    (hi : resets i = false) : Paired t := by
  have hquiet : LoadingIsQuiet t := (loadingIsQuiet_iff t).2 fun ht =>
    exec_quiet ((loadingIsQuiet_iff s).1 hs.loading (exec_loading h hi ht)) hs.pairing h hi
  refine ⟨?_, hquiet⟩
  have hp := hs.pairing
  have hd : PairingLaw s.dequeue := hp.of_same rfl rfl
  cases hr : rebinds i
  · exact hp.of_bindings (exec_bindings h hr)
  cases i with
  | tick =>
    cases h
    split
    · have hdraw : PairingLaw s.draw := hp.of_same rfl rfl
      exact hdraw.tickIn _
    · exact hp
  | reportComplete l =>
    cases h
    split
    · split
      · exact hp.endExchange hb _ _ _
      · exact hp
    · exact hp
  | responseWindowExpiry l =>
    cases h
    split
    · exact hp.endExchange hb _ _ _
    · exact hp
  | forget => cases h; exact State.answerRequest_of (P := PairingLaw) hp (fun r => hd.answerForget r) PairingLaw.storeResult
  | setBayDisable =>
    cases h
    refine State.answerRequest_of (P := PairingLaw) hp (fun r => ?_) PairingLaw.storeResult
    unfold State.answerSetBay
    split
    · exact hd
    split
    · exact hd
    · exact hd.disableBay _
  | powerOn _ _ | resetLine _ _ | configImageLoaded _ _ | configReadTimeout | restart => cases hi
  | _ => cases hr

/-- Past the image read the part need not be quiet. -/
theorem Paired.of_notLoading {s : State} (hp : PairingLaw s) (h : s.config.step ≠ .loading) : Paired s :=
  ⟨hp, fun hl => (h hl).elim⟩

theorem Quiet.arbitrate {s : State} (hs : Quiet s) : Quiet s.arbitrate :=
  hs.of_same (by simp) (by simp) (by simp) (by simp) (by simp)

theorem State.takeParams_step (s : State) (p : Params) (src : ConfigSource) :
    (s.takeParams p src).config.step ≠ .loading := by
  unfold State.takeParams State.beginStartUpCalibration
  split <;> exact nofun

theorem startUp_paired (s : State) (straps : Straps) (level : Level) (offsets : Option Offsets) (g : Generations) :
    Paired (s.startUp straps level offsets g) := by
  have hpairing := (s.startUp_rosterEmpty straps level offsets g).pairing
  have hcold : Quiet (s.coldReset straps level offsets g) := by
    refine ⟨fun i => ?_, fun l => ?_, rfl, rfl, rfl⟩
    · simp [State.coldReset, VanRoster.empty]
    · simp [State.coldReset, State.lane, Lane.atReset]
  refine ⟨hpairing, (loadingIsQuiet_iff _).2 fun hl => ?_⟩
  unfold State.startUp at hl ⊢
  dsimp only at hl ⊢
  split at hl
  · next hhigh => rw [if_pos hhigh]; exact hcold.arbitrate
  · simp only [State.arbitrate_keeps] at hl
    exact (State.takeParams_step _ _ _ hl).elim

/-- As the image read ends the roster is empty, and every bay is reset. -/
theorem takeParams_paired {s : State} (hs : Quiet s) (p : Params) (src : ConfigSource) : Paired (s.takeParams p src) :=
  .of_notLoading (.of_empty (by simpa using hs.roster) (boundTags_of_resetBays (State.takeParams_bays ..)))
    (State.takeParams_step s p src)

theorem configFailed_paired {s : State} (hs : Quiet s) (reason : ConfigReason) : Paired (s.configFailed reason) :=
  have h := takeParams_paired hs Params.defaults .defaults
  .of_notLoading (h.pairing.raise _ _ _) (by simpa [State.configFailed] using State.takeParams_step s _ _)

/-- A depot restart leaves a quiet part quiet. -/
theorem Quiet.depotRestart {s : State} (hs : Quiet s) : Quiet s.depotRestart := by
  refine ⟨s.depotRestart_rosterEmpty.get, fun l => ?_, by simp [State.depotRestart, resetAllocator], ?_, ?_⟩
  · have : s.depotRestart.lanes = vmap Lane.restart s.lanes := by simp [State.depotRestart]
    rw [State.lane, this, vmap_get]
    exact hs.exchange l
  · simp [State.depotRestart, FeederMeter.restart, hs.conversion, Conversion.restart]
  · simp [State.depotRestart, DepotClock.restart, hs.timer]

theorem restart_paired {s : State} (hs : Paired s) : Paired (s.answerRequest (fun r => r.code == 0x1F) fun _ x =>
    { state := x.depotRestart, code := .done, detail := 0 }) := by
  refine ⟨State.answerRequest_of hs.pairing (fun _ => (State.depotRestart_rosterEmpty _).pairing) PairingLaw.storeResult, ?_⟩
  refine (loadingIsQuiet_iff _).2 fun hl => ?_
  rw [State.answerRequest_keeps State.config s _ _ rfl (by simp) fun _ => (State.depotRestart_keeps _).1] at hl
  have hq := (loadingIsQuiet_iff s).1 hs.loading hl
  exact State.answerRequest_of hq (fun _ => hq.dequeue.depotRestart) Quiet.storeResult

/-- A reset, the end of the image read and the end of start-up. -/
theorem exec_paired_of_resets {i : Instr} {s t : State} (hs : Paired s) (h : exec i s = .next t) (hi : resets i = true) :
    Paired t := by
  cases i with
  | powerOn straps level => cases h; exact startUp_paired ..
  | resetLine straps level => cases h; exact startUp_paired ..
  | configImageLoaded acked image =>
    cases h
    split
    · next hl =>
      have hq := (loadingIsQuiet_iff s).1 hs.loading hl
      split
      · exact takeParams_paired hq _ _
      · exact configFailed_paired hq _
    · exact hs
  | configReadTimeout =>
    cases h
    split
    · next hl => exact configFailed_paired ((loadingIsQuiet_iff s).1 hs.loading hl) _
    · exact hs
  | startUpEnd =>
    cases h
    split
    · exact .of_notLoading (hs.pairing.of_same (by simp) (boundTags_of_bays (by simp))) (by simp)
    · exact hs
  | restart => cases h; exact restart_paired hs
  | _ => cases hi

/-- Settles O55: command by command, from what binds, releases and removes an entry. -/
theorem stepsKeepThePairing : Obligations.StepsKeepThePairing := by
  intro s t hp hb hl hstep
  have hs : Paired s := ⟨hp, hl⟩
  have ht : Paired t := by
    unfold step at hstep
    split at hstep
    · cases hstep
      exact hs
    · next c rest _ =>
      have hrest : Paired { s with pending := rest } := ⟨hp, hl⟩
      cases hi : resets c
      · exact exec_paired hrest hb hstep hi
      · exact exec_paired_of_resets hrest hstep hi
  exact ⟨ht.pairing, ht.loading⟩

end Sys2Proof.Machine
end

section
/-!
PROOF. Roster, book and clock after every reset (R19, R42), and every invariant in the state after reset.
-/

namespace Sys2Proof.Machine

open Sys2Proof

/-! ### A power-on and the RESET line (R19) -/

theorem RosterEmpty.rosterIsReset {t : State} (h : RosterEmpty t) (hd : AllDirty t) : RosterIsReset t :=
  ⟨h.get, by simp [State.rosterCount, h.1, VanRoster.empty], by rw [h.1]; rfl, hd, h.boundTags⟩

/-- An access that did not arrive WATCHING is not captured. -/
theorem State.capture_of_unwatched (s : State) {a : HostAccess} (h : a.watched = false) : s.capture a = s := by
  simp [State.capture, h]

/-- The arbiter reaches the clock through a captured write alone. -/
theorem State.arbitrate_clock {s : State} (h : ∀ a, s.path.waiting = some a → a.watched = false) : s.arbitrate.clock = s.clock := by
  have granted : ∀ a, s.arbiterChoice = .host a → s.path.waiting = some a := by
    intro a ha
    unfold State.arbiterChoice MirrorWriter.headGrant at ha
    split at ha
    · split at ha <;> cases ha
    split at ha
    · next hw =>
      split at ha
      · split at ha <;> cases ha
      · cases ha
        exact hw
    · split at ha <;> cases ha
  unfold State.arbitrate
  split
  · split
    · rfl
    · next a ha =>
      rw [State.grantHost, State.capture_of_unwatched _ (h a (granted a ha))]
      simp
    · rfl
  · rfl
  · rfl

/-- After a power-on or RESET line the host access that waits is unwatched. -/
theorem PathUnit.waitingAfterReset_watched {p : PathUnit} {a : HostAccess} (h : p.waitingAfterReset = some a) : a.watched = false := by
  unfold PathUnit.waitingAfterReset at h
  obtain ⟨a', _, rfl⟩ := Option.map_eq_some_iff.1 h
  rfl

theorem State.takeParams_waiting (s : State) (p : Params) (src : ConfigSource) :
    (s.takeParams p src).path.waiting = s.path.waiting := by
  unfold State.takeParams
  simp only [State.beginStartUpCalibration_keeps]
  rfl

/-- A power-on and the RESET line leave every record dirty, no booking and an invalid clock. -/
theorem State.startUp_isReset (s : State) (straps : Straps) (level : Level) (offsets : Option Offsets) (g : Generations) :
    RosterIsReset (s.startUp straps level offsets g) ∧ (s.startUp straps level offsets g).book = [] ∧
      (s.startUp straps level offsets g).clock.valid = false := by
  have hroster := s.startUp_rosterEmpty straps level offsets g
  have arbitrated : ∀ x : State, x.mirror.dirty = DirtySet.every → x.book = [] → x.clock.valid = false →
      x.path.waiting = s.path.waitingAfterReset →
      AllDirty x.arbitrate ∧ x.arbitrate.book = [] ∧ x.arbitrate.clock.valid = false := fun x hd hb hc hw =>
    ⟨(Tracks.refl x).arbitrate.allDirty fun r => by rw [hd]; exact DirtySet.has_every r, by simp [hb], by
      rwa [State.arbitrate_clock fun a ha => PathUnit.waitingAfterReset_watched (hw ▸ ha)]⟩
  have h : AllDirty (s.startUp straps level offsets g) ∧ (s.startUp straps level offsets g).book = [] ∧
      (s.startUp straps level offsets g).clock.valid = false := by
    unfold State.startUp
    dsimp only
    split
    · exact arbitrated _ rfl rfl rfl rfl
    · refine arbitrated _ ?_ ?_ ?_ (State.takeParams_waiting ..)
      · simp [State.coldReset, resetMirror]
      · simp [State.coldReset]
      · simp [State.coldReset, State.reset]
  exact ⟨hroster.rosterIsReset h.1, h.2⟩

/-! ### A depot restart (R19, R42, R83) -/

@[simp] theorem State.depotRestart_book (s : State) : s.depotRestart.book = [] := by simp [State.depotRestart]

@[simp] theorem State.depotRestart_clock (s : State) : s.depotRestart.clock = s.clock.restart := by simp [State.depotRestart]

@[simp] theorem State.depotRestart_queue (s : State) : s.depotRestart.intake.queue = s.intake.queue := by simp [State.depotRestart]

theorem State.depotRestart_lane (s : State) (l : LaneNo) : s.depotRestart.lane l = (s.lane l).restart := by
  have : s.depotRestart.lanes = vmap Lane.restart s.lanes := by simp [State.depotRestart]
  rw [State.lane, this, vmap_get]
  rfl

theorem State.depotRestart_allDirty (s : State) : AllDirty s.depotRestart := AllDirty.curtailFromInput DirtySet.has_every

@[simp] theorem State.storeResult_queue (s : State) (n : SlotNo) (code : ResultCode) (detail : Nat) :
    (s.storeResult n code detail).intake.queue = s.intake.queue := by
  unfold State.storeResult
  split <;> rfl

/-- A requested RESTART resets the part and answers DONE. -/
theorem Requested.restart {s : State} {n : SlotNo} {req : Request} {rest : List SlotNo} (h : Requested s n req rest)
    (hcode : req.code = 0x1F) : execRestart s = .next (s.dequeue.depotRestart.storeResult n .done 0) := by
  unfold execRestart State.answerRequest
  rw [h.takeRequest _ (by simp [hcode])]
  rfl

/-- Settles O2: from the roster after each reset, with the clock and the lanes that a RESTART leaves. -/
theorem everyResetEmptiesRosterAndBook : Obligations.EveryResetEmptiesRosterAndBook := by
  refine ⟨fun straps level s c hc => ?_, fun s n req rest h hcode => ?_⟩
  · obtain rfl | rfl := hc
    · exact ⟨_, rfl, s.startUp_isReset ..⟩
    · exact ⟨_, rfl, s.startUp_isReset ..⟩
  · have hroster : RosterEmpty (s.dequeue.depotRestart.storeResult n .done 0) := by
      obtain ⟨hr, p, straps, hb⟩ := s.dequeue.depotRestart_rosterEmpty
      exact ⟨by simpa using hr, p, straps, by simpa using hb⟩
    have hdirty := ((Tracks.refl s.dequeue.depotRestart).storeResult n .done 0).allDirty (State.depotRestart_allDirty _)
    refine ⟨_, h.restart hcode, hroster.rosterIsReset hdirty, by simp, by simp [DepotClock.restart],
      by simp [DepotClock.restart], by simp [State.dequeue, h.1], fun l hl => ?_⟩
    have hlane : (s.dequeue.depotRestart.storeResult n .done 0).lane l = (s.lane l).restart := by
      simp only [State.lane, State.storeResult_keeps]
      exact State.depotRestart_lane s.dequeue l
    rw [hlane]
    exact ⟨rfl, hl⟩

/-! ### The state after reset -/

@[simp] theorem State.reset_bay (b : BayNo) : State.reset.bay b = BayRecord.atReset := by
  simp [State.bay, State.reset]

theorem State.reset_slot_busy (n : SlotNo) : (State.reset.slot n).busy = none := by
  simp [State.slot, State.reset]

/-- Settles O60: law by law, from the values after reset. -/
theorem invariantsHoldAtReset : Obligations.InvariantsHoldAtReset := by
  have book : BookLaw State.reset := ⟨Nat.zero_le _, .nil, .nil, .nil⟩
  have failures : FailureLaw State.reset := fun b => by simp [BayRecord.atReset]
  have bindings : BindingLaw State.reset := fun b => by simp [BayRecord.atReset]
  have pairing : PairingLaw State.reset :=
    .of_empty (by simp [State.reset]) fun b => by simp [State.boundTags, BayRecord.atReset]
  have startUp : StartUpLaw State.reset := fun _ => ⟨rfl, DirtySet.has_every⟩
  have queue : QueueLaw State.reset := by
    refine ⟨.nil, fun n => ⟨nofun, fun ⟨req, h⟩ => ?_⟩, nofun⟩
    cases (State.reset_slot_busy n).symm.trans h
  have windows : WindowLaw State.reset := ⟨by decide, by decide, by decide⟩
  have port : PortLaw State.reset := ⟨⟨.inl rfl, nofun⟩, nofun, fun _ => ⟨rfl, rfl⟩⟩
  exact ⟨rfl, Nat.zero_le _, book, failures, bindings, pairing, nofun, startUp, queue, ⟨nofun, nofun⟩, nofun, windows, port⟩

end Sys2Proof.Machine
end

section
/-!
PROOF. The tick's scan of the book and its aging step, in every order of the blocks (R13, R31, R32, log entry 7).
-/

namespace Sys2Proof.Machine

open Sys2Proof

/-! ### The scan of the book (R31, R32) -/

@[simp] theorem State.scanAlert_book (s : State) (k : Booking) (j : ScanResult) : (s.scanAlert k j).book = s.book :=
  (State.scanAlert_keeps s k j).2.1

/-- What the scan leaves of a booking at a depot time, with the expiry hold in minutes. -/
def scannedAt (now holdMinutes : Nat) (k : Booking) : Option Booking :=
  if k.departure.toNat + 60 * holdMinutes < now then none
  else if (k.state = .waiting ∨ k.state = .charging) ∧ k.departure.toNat ≤ now then some { k with state := .short }
  else some k

theorem State.scanned_scanJudge (s : State) (k : Booking) :
    scanned k (s.scanJudge k) = scannedAt s.clock.depotSeconds.toNat s.config.loaded.expiryHoldMinutes k := by
  unfold State.scanJudge scannedAt
  dsimp only
  split
  · rfl
  · by_cases hdue : k.departure.toNat ≤ s.clock.depotSeconds.toNat <;> cases hstate : k.state <;> simp [hdue, scanned]

/-- The book after the scan. -/
theorem State.bookScan_book (s : State) :
    s.bookScan.book = s.book.filterMap (scannedAt s.clock.depotSeconds.toNat s.config.loaded.expiryHoldMinutes) := by
  unfold State.bookScan
  rw [foldl_keeps _ State.book fun x k => State.scanAlert_book x k _, State.setBook_book]
  simp only [State.scanned_scanJudge]

/-- The scan leaves no tag that it did not find. -/
theorem State.bookScan_tags {s : State} {k : Booking} (h : k ∈ s.bookScan.book) : ∃ k' ∈ s.book, k'.tag = k.tag := by
  rw [State.bookScan_book] at h
  obtain ⟨k', hk', hscanned⟩ := List.mem_filterMap.1 h
  refine ⟨k', hk', ?_⟩
  unfold scannedAt at hscanned
  split at hscanned
  · cases hscanned
  split at hscanned <;> cases hscanned <;> rfl

/-! ### The aging step (R13) -/

/-- The entries after the aging step: the one at the aging position goes when it has aged out. -/
theorem State.agingStep_get (s : State) (j : RosterIx) :
    s.agingStep.roster.entries.get j =
      if j = s.roster.agingPosition then (s.roster.entries.get j).filter (fun e => !s.agedOut e) else s.roster.entries.get j := by
  unfold State.agingStep
  dsimp only
  split
  · next hnone =>
    split
    · next e => rw [e, hnone]; rfl
    · rfl
  · next e he =>
    by_cases hold : s.agedOut e = true
    · rw [if_pos hold, (State.raise_keeps ..).1, State.setRoster_get]
      split
      · next hj => rw [hj, he, Option.filter_some, hold]; rfl
      · rfl
    · rw [if_neg hold]
      split
      · next hj => rw [hj, he, Option.filter_some]; simp [hold]
      · rfl

/-- A tag without a booking. -/
theorem State.isBooked_eq_false {s : State} {t : Tag} : s.isBooked t = false ↔ ∀ k ∈ s.book, k.tag ≠ t := by
  simp [State.isBooked, State.booking]

/-- An entry has aged out when it is PARKED, unbooked and past the aging time. -/
theorem State.agedOut_iff (s : State) (e : RosterEntry) :
    s.agedOut e = true ↔
      (s.config.loaded.agingHours ≠ 0 ∧ e.bay = none ∧
        3600 * s.config.loaded.agingHours < s.clock.depotSeconds.toNat - e.lastSeen.toNat) ∧ ∀ k ∈ s.book, k.tag ≠ e.tag := by
  rw [← State.isBooked_eq_false]
  have hage : decide (3600 * s.config.loaded.agingHours < s.age e) = true ↔
      3600 * s.config.loaded.agingHours < s.clock.depotSeconds.toNat - e.lastSeen.toNat := decide_eq_true_iff
  simp only [State.agedOut, State.removable, Bool.and_eq_true, bne_iff_ne, Option.isNone_iff_eq_none, Bool.not_eq_true', hage]
  tauto

/-! ### The blocks at a tick (log entry 7) -/

/-- Whatever the order of the blocks, the Book scans the book as it was, and the Roster ages the entries as they were, with
the book before the scan or after it. -/
theorem State.blocksTick_scans (c : State) (order : TickOrder) :
    (c.blocksTick order).book = c.bookScan.book ∧
      ∃ x : State, (x.book = c.book ∨ x.book = c.bookScan.book) ∧ x.roster = c.roster ∧ x.clock = c.clock ∧
        x.config = c.config ∧ (c.blocksTick order).roster = x.agingStep.roster := by
  cases order <;> unfold State.blocksTick <;> dsimp only
  · exact ⟨by simp [State.bookScan_book], c.meterTick.bookScan, .inr (by simp [State.bookScan_book]), by simp, by simp, by simp, rfl⟩
  · exact ⟨by simp [State.bookScan_book], c.meterTick, .inl (by simp), by simp, by simp, by simp, by simp⟩
  · exact ⟨by simp [State.bookScan_book], c.bookScan.meterTick, .inr (by simp), by simp, by simp, by simp, rfl⟩
  · exact ⟨by simp [State.bookScan_book], c.bookScan, .inr rfl, by simp, by simp, by simp, by simp⟩
  · exact ⟨by simp [State.bookScan_book], c, .inl rfl, rfl, rfl, rfl, by simp⟩
  · exact ⟨by simp [State.bookScan_book], c, .inl rfl, rfl, rfl, rfl, by simp⟩

/-- Settles O12: the scan and the aging step of the blocks, at the depot time that the clock's own tick leaves. -/
theorem tickScansBookAndRoster : Obligations.TickScansBookAndRoster := by
  intro s hrunning
  have hexec : exec .tick s = .next (s.draw.tickIn (Config.tickOrder s.draws)) := congrArg Host.Outcome.next (if_pos hrunning)
  refine ⟨_, hexec, ?_⟩
  obtain ⟨hbook, x, hx, hroster, hclock, hconfig, haged⟩ := s.draw.clockTick.blocksTick_scans (Config.tickOrder s.draws)
  have hdraw : s.draw.clockTick.book = s.book ∧ s.draw.clockTick.roster = s.roster ∧ s.draw.clockTick.config = s.config := by simp
  obtain ⟨hdbook, hdroster, hdconfig⟩ := hdraw
  have htbook : (s.draw.tickIn (Config.tickOrder s.draws)).book = s.draw.clockTick.bookScan.book := by
    simp [State.tickIn, hbook]
  have htroster : (s.draw.tickIn (Config.tickOrder s.draws)).roster = x.agingStep.roster := by simp [State.tickIn, haged]
  have htclock : (s.draw.tickIn (Config.tickOrder s.draws)).clock = s.draw.clockTick.clock := by simp [State.tickIn]
  dsimp only
  rw [htroster, htclock, ← hclock]
  have hentry := x.agingStep_get
  rw [hroster, hdroster] at hentry
  refine ⟨?_, fun j hj => ?_, fun hnone => ?_, fun e he => ?_⟩
  · rw [htbook, State.bookScan_book, hdbook, hdconfig, hclock]
    rfl
  · rw [hentry, if_neg hj]
  · rw [hentry, if_pos rfl, hnone]
    rfl
  · have hout := x.agedOut_iff e
    rw [hconfig, hdconfig] at hout
    rw [hentry, if_pos rfl, he, Option.filter_some]
    have found : ∀ k ∈ x.book, ∃ k' ∈ s.book, k'.tag = k.tag := fun k hk => by
      obtain hx | hx := hx
      · exact ⟨k, by rwa [hx, hdbook] at hk, rfl⟩
      · rw [hx] at hk
        simpa [hdbook] using State.bookScan_tags hk
    have booked : (∃ k ∈ s.draw.clockTick.bookScan.book, k.tag = e.tag) → ∃ k ∈ x.book, k.tag = e.tag := fun ⟨k, hk, htag⟩ => by
      obtain hx | hx := hx
      · obtain ⟨k', hk', htag'⟩ := State.bookScan_tags hk
        exact ⟨k', hx ▸ hk', htag'.trans htag⟩
      · exact ⟨k, hx ▸ hk, htag⟩
    refine ⟨fun hold hfree => ?_, fun hkept => ?_⟩
    · have hout := hout.2 ⟨hold, fun k hk htag => by
        obtain ⟨k', hk', htag'⟩ := found k hk
        exact hfree k' hk' (htag'.trans htag)⟩
      simp [hout]
    · have hout : x.agedOut e = false := by
        rw [← Bool.not_eq_true, hout]
        rintro ⟨hold, hfree⟩
        obtain hkept | hkept := hkept
        · exact hkept hold
        · obtain ⟨k, hk, htag⟩ := booked (htbook ▸ hkept)
          exact hfree k hk htag
      simp [hout]

end Sys2Proof.Machine
end

section
/-!
PROOF. What the operations of the roster, the book and the bays do to the Mirror Writer: the alerts that they raise, in order, over
marks alone.
-/

namespace Sys2Proof.Machine

open Sys2Proof

/-! ### Marks alone -/

/-- From `s` to `x` the Mirror Writer has marked records and no more, and the clock stands. -/
structure MarksOnly (s x : State) : Prop where
  only : OnlyDirty s.mirror x.mirror
  dirty : ∀ r, s.mirror.dirty.has r = true → x.mirror.dirty.has r = true
  clock : x.clock = s.clock

namespace MarksOnly

theorem refl (s : State) : MarksOnly s s := ⟨rfl, fun _ h => h, rfl⟩

theorem trans {s x y : State} (h : MarksOnly s x) (g : MarksOnly x y) : MarksOnly s y where
  only := by
    have h1 := h.only
    have h2 := g.only
    unfold OnlyDirty at *
    rw [h2, h1]
  dirty r hr := g.dirty r (h.dirty r hr)
  clock := g.clock.trans h.clock

theorem sameRing {s x : State} (h : MarksOnly s x) : SameRing s.mirror x.mirror := by
  have h1 := h.only
  unfold OnlyDirty at h1
  refine ⟨?_, ?_, ?_, ?_, ?_, h.dirty⟩ <;> rw [h1]

/-- An untouched Mirror Writer. -/
theorem of_mirror {s x : State} (h : x.mirror = s.mirror) (hc : x.clock = s.clock) : MarksOnly s x :=
  ⟨by rw [h]; rfl, fun r hr => by rwa [h], hc⟩

variable {s x : State} (h : MarksOnly s x)

include h

theorem mark (r : RecordId) : MarksOnly s (x.mark r) :=
  h.trans ⟨rfl, fun q hq => by simp [State.mark, DirtySet.has_mark, hq], rfl⟩

theorem setBay (b : BayNo) (r : BayRecord) : MarksOnly s (x.setBay b r) := by
  unfold State.setBay
  split
  · exact h
  · exact (h.trans (y := { x with bays := vput x.bays b r }) (.of_mirror rfl rfl)).mark _

theorem updBay (b : BayNo) (f : BayRecord → BayRecord) : MarksOnly s (x.updBay b f) := h.setBay b _

theorem setRoster (i : RosterIx) (e : Option RosterEntry) : MarksOnly s (x.setRoster i e) := by
  have hput := (h.trans (y := { x with roster := { x.roster with entries := vput x.roster.entries i e } })
    (.of_mirror rfl rfl)).mark (.roster i)
  unfold State.setRoster
  dsimp only
  split
  · exact h
  split
  · exact hput
  · exact hput.mark _

theorem setBook (book : List Booking) : MarksOnly s (x.setBook book) := by
  refine h.trans ⟨rfl, fun r hr => ?_, rfl⟩
  cases r with
  | header => exact Bool.or_eq_true_iff.2 (.inl hr)
  | booking i => simpa [State.setBook, DirtySet.has] using .inl hr
  | log a i => cases a <;> exact hr
  | _ => exact hr

theorem moveBooking (t : Tag) (st : BookingState) : MarksOnly s (x.moveBooking t st) := h.setBook _

theorem bindAt (i : RosterIx) (t : Tag) (b : BayNo) (energy : Nat) : MarksOnly s (x.bindAt i t b energy) := (h.setRoster i _).mark _

theorem rosterRelease (t : Tag) (b : BayNo) : MarksOnly s (x.rosterRelease t b) := by
  unfold State.rosterRelease
  split
  · exact h
  split
  · exact h
  split
  · exact h.setRoster _ _
  · exact h

end MarksOnly

/-! ### Alerts over marks -/

/-- From `s` to `x` the alerts of a list have been raised, in order, records have been marked, and the clock stands. -/
structure Raised (s x : State) (l : List Alert) : Prop where
  ring : OnlyRing s.mirror x.mirror
  all : RaisesAll s.mirror x.mirror l
  clock : x.clock = s.clock

theorem MarksOnly.raised {s x : State} (h : MarksOnly s x) : Raised s x [] := ⟨h.only.onlyRing, h.sameRing.raisesAll, h.clock⟩

/-- An alert at the present depot time. -/
def State.alertNow (s : State) (kind : AlertKind) (bay : Option BayNo) (tag : Option Tag) : Alert :=
  { kind := kind, bay := bay, tag := tag, time := s.clock.depotSeconds }

theorem State.raise_raised (s : State) (kind : AlertKind) (bay : Option BayNo) (tag : Option Tag) :
    Raised s (s.raise kind bay tag) [s.alertNow kind bay tag] :=
  ⟨by rw [State.raise_mirror]; exact MirrorWriter.takes_onlyRing _ _, s.raise_raisesAll kind bay tag, by simp⟩

namespace Raised

theorem refl (s : State) : Raised s s [] := (MarksOnly.refl s).raised

theorem append {s x y : State} {l m : List Alert} (h : Raised s x l) (g : Raised x y m) : Raised s y (l ++ m) :=
  ⟨h.ring.trans g.ring, h.all.append g.all, g.clock.trans h.clock⟩

theorem thenMarks {s x y : State} {l : List Alert} (h : Raised s x l) (g : MarksOnly x y) : Raised s y l :=
  ⟨h.ring.trans g.only.onlyRing, h.all.thenSame g.sameRing, g.clock.trans h.clock⟩

theorem raise {s x : State} {l : List Alert} (h : Raised s x l) (kind : AlertKind) (bay : Option BayNo) (tag : Option Tag) :
    Raised s (x.raise kind bay tag) (l ++ [s.alertNow kind bay tag]) := by
  have g := h.append (x.raise_raised kind bay tag)
  rwa [State.alertNow, h.clock] at g

end Raised

/-! ### The part outside roster, book, bays and Mirror Writer -/

/-- The two states agree outside the roster, the book, the bays and the Mirror Writer. -/
def SameElsewhere (s t : State) : Prop :=
  t.lanes = s.lanes ∧ t.meter = s.meter ∧ t.allocator = s.allocator ∧ t.clock = s.clock ∧ t.path = s.path ∧
    t.intake = s.intake ∧ t.config = s.config ∧ t.memory = s.memory ∧ t.draws = s.draws ∧ t.pending = s.pending

theorem SameElsewhere.clock {s t : State} (h : SameElsewhere s t) : t.clock = s.clock := by
  obtain ⟨_, _, _, hclock, _⟩ := h
  exact hclock

theorem SameElsewhere.eq {s t : State} (h : SameElsewhere s t) :
    t = { s with roster := t.roster, book := t.book, bays := t.bays, mirror := t.mirror } := by
  obtain ⟨h1, h2, h3, h4, h5, h6, h7, h8, h9, h10⟩ := h
  cases t
  cases s
  dsimp only at *
  subst_vars
  rfl

/-! ### A tag's booking -/

/-- Where no two bookings share a tag, a tag's booking is the one with the tag. -/
theorem State.eq_booking {s : State} (hn : (s.book.map Booking.tag).Nodup) {t : Tag} {k : Booking} (h : s.booking t = some k)
    {j : Booking} (hj : j ∈ s.book) (ht : j.tag = t) : j = k := by
  obtain ⟨hk, hkt⟩ := State.booking_some h
  exact List.inj_on_of_nodup_map hn hj hk (ht.trans hkt.symm)

theorem State.booking_none {s : State} {t : Tag} : s.booking t = none ↔ ∀ k ∈ s.book, k.tag ≠ t := by
  simp [State.booking]

/-- A change of the bookings with a tag that is in fact none. -/
theorem map_tag_id {book : List Booking} {t : Tag} {f : Booking → Booking} (h : ∀ k ∈ book, k.tag = t → f k = k) :
    book.map (fun k => if k.tag = t then f k else k) = book :=
  (List.map_congr_left fun k hk => ite_eq_right_iff.2 (h k hk)).trans (List.map_id' book)

/-- Two changes of the bookings with a tag that are one. -/
theorem map_tag_congr {book : List Booking} {t : Tag} {f g : Booking → Booking} (h : ∀ k ∈ book, k.tag = t → f k = g k) :
    book.map (fun k => if k.tag = t then f k else k) = book.map (fun k => if k.tag = t then g k else k) :=
  List.map_congr_left fun k hk => by
    split
    · next ht => exact h k hk ht
    · rfl

theorem State.moveBooking_book (s : State) (t : Tag) (st : BookingState) :
    (s.moveBooking t st).book = s.book.map fun k => if k.tag = t then { k with state := st } else k := rfl

/-! ### The bind claim (R26) -/

/-- READY comes with a bind claim whose booking waits or is SHORT, at its target. -/
def claimsReady (t : Tag) (energy : Nat) (book : List Booking) : Prop :=
  ∃ k ∈ book, k.tag = t ∧ (k.state = .waiting ∨ k.state = .short) ∧ k.target ≤ energy

/-- What a bind claim does to the book, and whether it raises READY. -/
theorem State.bindClaim_claims {s : State} (hn : (s.book.map Booking.tag).Nodup) (t : Tag) (b : BayNo) (energy : Nat) :
    (s.bindClaim t b energy).book = s.book.map (fun k => if k.tag = t then bindClaimed energy k else k) ∧
      ((claimsReady t energy s.book ∧ Raised s (s.bindClaim t b energy) [s.alertNow (.ready energy) (some b) (some t)]) ∨
        (¬claimsReady t energy s.book ∧ Raised s (s.bindClaim t b energy) [])) := by
  cases hk : s.booking t with
  | none =>
    have hnone := State.booking_none.1 hk
    have hsame : s.bindClaim t b energy = s := by rw [State.bindClaim, hk]
    rw [hsame]
    exact ⟨(map_tag_id fun k hk ht => (hnone k hk ht).elim).symm, .inr ⟨fun ⟨k, hk, ht, _⟩ => hnone k hk ht, .refl s⟩⟩
  | some k =>
    obtain ⟨hmem, htag⟩ := State.booking_some hk
    have only : ∀ j ∈ s.book, j.tag = t → j = k := fun j hj ht => State.eq_booking hn hk hj ht
    have hready : claimsReady t energy s.book ↔ (k.state = .waiting ∨ k.state = .short) ∧ k.target ≤ energy :=
      ⟨fun ⟨j, hj, ht, h⟩ => by rwa [only j hj ht] at h, fun h => ⟨k, hmem, htag, h⟩⟩
    have moved : ∀ st, (bindClaimed energy k).state = st →
        (s.moveBooking t st).book = s.book.map (fun j => if j.tag = t then bindClaimed energy j else j) := fun st hst => by
      rw [State.moveBooking_book]
      refine map_tag_congr fun j hj ht => ?_
      rw [only j hj ht, ← hst]
      rfl
    have kept : (bindClaimed energy k).state = k.state →
        s.book = s.book.map (fun j => if j.tag = t then bindClaimed energy j else j) := fun hst => by
      refine (map_tag_id fun j hj ht => ?_).symm
      rw [only j hj ht]
      show { k with state := (bindClaimed energy k).state } = k
      rw [hst]
    have hmarks : ∀ st, MarksOnly s (s.moveBooking t st) := (MarksOnly.refl s).moveBooking t
    rw [hready]
    unfold State.bindClaim
    rw [hk]
    dsimp only
    cases hst : k.state with
    | waiting =>
      dsimp only
      by_cases he : k.target ≤ energy
      · rw [if_pos he]
        exact ⟨by simpa using moved .ready (by simp [bindClaimed, hst, he]), .inl ⟨⟨.inl rfl, he⟩, (hmarks _).raised.raise _ _ _⟩⟩
      · rw [if_neg he]
        exact ⟨moved .charging (by simp [bindClaimed, hst, he]), .inr ⟨fun h => he h.2, (hmarks _).raised⟩⟩
    | short =>
      dsimp only
      by_cases he : k.target ≤ energy
      · rw [if_pos he]
        exact ⟨by simpa using moved .ready (by simp [bindClaimed, hst, he]), .inl ⟨⟨.inr rfl, he⟩, (hmarks _).raised.raise _ _ _⟩⟩
      · rw [if_neg he]
        exact ⟨kept (by simp [bindClaimed, hst, he]), .inr ⟨fun h => he h.2, .refl s⟩⟩
    | charging =>
      dsimp only
      exact ⟨kept (by simp [bindClaimed, hst]), .inr ⟨by simp, .refl s⟩⟩
    | ready =>
      dsimp only
      exact ⟨kept (by simp [bindClaimed, hst]), .inr ⟨by simp, .refl s⟩⟩

end Sys2Proof.Machine
end

section
/-!
PROOF. A bind request is decided by the first case that applies (R4 to R10, R26, R59).
-/

namespace Sys2Proof.Machine

open Sys2Proof

/-! ### The entry that a bind writes (R4) -/

/-- What is dirty stays so over a run of alerts. -/
theorem MirrorWriter.takesAll_dirty (l : List Alert) {m : MirrorWriter} {r : RecordId} (h : m.dirty.has r = true) :
    (l.foldl MirrorWriter.takes m).dirty.has r = true := by
  induction l generalizing m with
  | nil => exact h
  | cons a l ih => exact ih (m.takes_dirty a r h)

theorem Raised.dirty {s x : State} {l : List Alert} (h : Raised s x l) {r : RecordId} (hr : s.mirror.dirty.has r = true) :
    x.mirror.dirty.has r = true := by
  obtain ⟨_, _, _, _, _, hdirty⟩ := h.all
  exact hdirty r (MirrorWriter.takesAll_dirty l hr)

/-- At `x` index `i` holds the entry of a tag that binds at bay `b`, its record is dirty, and the other indices are as at `s`. -/
structure BoundAt (s x : State) (i : RosterIx) (t : Tag) (b : BayNo) (energy : Nat) : Prop where
  entry : x.roster.entries.get i = some (s.boundEntry t b energy)
  others : ∀ j, j ≠ i → x.roster.entries.get j = s.roster.entries.get j
  dirty : x.mirror.dirty.has (.roster i) = true

theorem State.bindAt_boundAt (s : State) (i : RosterIx) (t : Tag) (b : BayNo) (energy : Nat) :
    BoundAt s (s.bindAt i t b energy) i t b energy :=
  ⟨by simp, fun j hj => by simp [hj], by simp [State.bindAt, State.mark, DirtySet.has_mark]⟩

theorem BoundAt.keep {s x y : State} {i : RosterIx} {t : Tag} {b : BayNo} {energy : Nat} {l : List Alert}
    (h : BoundAt s x i t b energy) (hr : y.roster = x.roster) (hl : Raised x y l) : BoundAt s y i t b energy :=
  ⟨by rw [hr, h.entry], fun j hj => by rw [hr, h.others j hj], hl.dirty h.dirty⟩

/-! ### A tag that becomes bound (R5 to R7, R26) -/

/-- The request has bound the tag at index `i`, behind some alerts, and the Book has taken the bind claim. -/
structure BecameBound (s : State) (t : Tag) (b : BayNo) (energy : Nat) (res : RosterAnswer × State) (i : RosterIx)
    (front : List Alert) : Prop where
  answer : res.1 = .bound
  bound : BoundAt s res.2 i t b energy
  bays : res.2.bays = s.bays
  book : res.2.book = s.book.map fun k => if k.tag = t then bindClaimed energy k else k
  alerts :
    (claimsReady t energy s.book ∧ Raised s res.2 (front ++ [s.alertNow (.ready energy) (some b) (some t)])) ∨
      (¬claimsReady t energy s.book ∧ Raised s res.2 front)

/-- The bind claim behind a bind and its alerts. -/
theorem BecameBound.bindClaim {s x : State} (hn : (s.book.map Booking.tag).Nodup) {t : Tag} {b : BayNo} {energy : Nat}
    {i : RosterIx} {front : List Alert} (hx : BoundAt s x i t b energy) (hbook : x.book = s.book) (hbays : x.bays = s.bays)
    (hl : Raised s x front) : BecameBound s t b energy (.bound, x.bindClaim t b energy) i front := by
  obtain ⟨hclaimed, hready⟩ := State.bindClaim_claims (s := x) (by rwa [hbook]) t b energy
  rw [hbook] at hclaimed hready
  have halert : x.alertNow (.ready energy) (some b) (some t) = s.alertNow (.ready energy) (some b) (some t) := by
    rw [State.alertNow, hl.clock]
    rfl
  rw [halert] at hready
  obtain ⟨l, hraised⟩ : ∃ l, Raised x (x.bindClaim t b energy) l := by
    obtain ⟨_, h⟩ | ⟨_, h⟩ := hready
    · exact ⟨_, h⟩
    · exact ⟨_, h⟩
  refine ⟨rfl, hx.keep (by simp) hraised, by simp [hbays], hclaimed, ?_⟩
  obtain ⟨hc, h⟩ | ⟨hc, h⟩ := hready
  · exact .inl ⟨hc, hl.append h⟩
  · exact .inr ⟨hc, by simpa using hl.append h⟩

/-- A bind at a PARKED entry of the tag, or at a free index. -/
theorem State.bindAt_becameBound {s : State} (hn : (s.book.map Booking.tag).Nodup) (i : RosterIx) (t : Tag) (b : BayNo) (energy : Nat) :
    BecameBound s t b energy (.bound, (s.bindAt i t b energy).bindClaim t b energy) i [] :=
  .bindClaim hn (s.bindAt_boundAt i t b energy) (by simp) (by simp) ((MarksOnly.refl s).bindAt i t b energy).raised

/-- A bind in the place of an entry that is evicted. -/
theorem State.evict_becameBound {s : State} (hn : (s.book.map Booking.tag).Nodup) (i : RosterIx) (e : RosterEntry) (t : Tag)
    (b : BayNo) (energy : Nat) :
    BecameBound s t b energy
      (.bound, ((s.bindAt i t b energy).raise (.rosterEvict i) (some b) (some e.tag)).bindClaim t b energy) i
      [s.alertNow (.rosterEvict i) (some b) (some e.tag)] := by
  have hl := ((MarksOnly.refl s).bindAt i t b energy).raised.raise (.rosterEvict i) (some b) (some e.tag)
  exact .bindClaim hn ((s.bindAt_boundAt i t b energy).keep (by simp) (State.raise_raised ..)) (by simp) (by simp) hl

/-! ### A tag that is bound elsewhere (R9, R10, R59) -/

/-- The bay that held the tag, as the rebind leaves it, with the answer and the alerts over the bind of the entry. -/
structure Rebound (s x : State) (p : BayNo) (res : RosterAnswer × State) (answer : RosterAnswer) (holder : BayRecord)
    (alerts : List Alert) : Prop where
  answer : res.1 = answer
  holder : res.2.bay p = holder
  others : ∀ c, c ≠ p → res.2.bay c = s.bay c
  later : Raised x res.2 alerts

theorem State.bindAt_bay (s : State) (i : RosterIx) (t : Tag) (b : BayNo) (energy : Nat) (c : BayNo) :
    (s.bindAt i t b energy).bay c = s.bay c := by
  simp [State.bay]

theorem State.bindAt_alertNow (s : State) (i : RosterIx) (t : Tag) (b : BayNo) (energy : Nat) :
    (s.bindAt i t b energy).alertNow = s.alertNow := by
  funext kind bay tag
  simp [State.alertNow]

/-- From a LOST bay the tag migrates. -/
theorem State.rebind_lost {s : State} {p : BayNo} (h : (s.bay p).state = .lost) (i : RosterIx) (t : Tag) (b : BayNo) (energy : Nat) :
    Rebound s (s.bindAt i t b energy) p (s.rebind i p t b energy) .migration { s.bay p with boundTag := none }
      [s.alertNow (.vanMoved p) (some b) (some t)] := by
  rw [State.rebind, if_pos h, ← s.bindAt_alertNow i t b energy]
  refine ⟨rfl, ?_, fun c hc => ?_, Raised.raise ((MarksOnly.refl _).updBay _ _).raised _ _ _⟩
  · rw [State.raise_bay, State.migrateAway, State.updBay_bay_self, State.bindAt_bay]
  · rw [State.raise_bay, State.migrateAway, State.updBay_bay_of_ne _ _ hc, State.bindAt_bay]

/-- Any other holder loses a clash. -/
theorem State.rebind_held {s : State} {p : BayNo} (h : (s.bay p).state ≠ .lost) (i : RosterIx) (t : Tag) (b : BayNo) (energy : Nat) :
    Rebound s (s.bindAt i t b energy) p (s.rebind i p t b energy) .clash
      { s.bay p with state := .unlisted, boundTag := none, agreedMode := none, unlistedTag := some t }
      ([s.alertNow (.tagClash p) (some b) (some t)] ++
        if (s.bay p).state = .faulted then [s.alertNow (.bayClear .unlisted) (some p) none] else []) := by
  have hbay : ∀ c, ((s.bindAt i t b energy).raise (.tagClash p) (some b) (some t)).bay c = s.bay c := fun c => by
    rw [State.raise_bay, State.bindAt_bay]
  have hclash := State.raise_raised (s.bindAt i t b energy) (.tagClash p) (some b) (some t)
  have hmoved := hclash.thenMarks ((MarksOnly.refl _).updBay p fun r =>
    { r with state := .unlisted, boundTag := none, agreedMode := none, unlistedTag := some t })
  rw [State.rebind, if_neg h, ← s.bindAt_alertNow i t b energy]
  unfold State.clashAway
  dsimp only
  rw [hbay]
  by_cases hf : (s.bay p).state = .faulted
  · rw [if_pos (by simp [hf]), if_pos hf]
    refine ⟨rfl, ?_, fun c hc => ?_, hmoved.raise _ _ _⟩
    · rw [State.raise_bay, State.updBay_bay_self, hbay]
    · rw [State.raise_bay, State.updBay_bay_of_ne _ _ hc, hbay]
  · rw [if_neg (by simp [hf]), if_neg hf, List.append_nil]
    refine ⟨rfl, ?_, fun c hc => ?_, hmoved⟩
    · rw [State.updBay_bay_self, hbay]
    · rw [State.updBay_bay_of_ne _ _ hc, hbay]

theorem Rebound.alerts {s : State} {i : RosterIx} {t : Tag} {b : BayNo} {energy : Nat} {p : BayNo} {res : RosterAnswer × State}
    {answer : RosterAnswer} {holder : BayRecord} {alerts : List Alert}
    (h : Rebound s (s.bindAt i t b energy) p res answer holder alerts) : Raised s res.2 alerts := by
  simpa using ((MarksOnly.refl s).bindAt i t b energy).raised.append h.later

/-! ### The cases of R4 -/

/-- A tag that the roster holds BOUND to another bay. -/
theorem PairingLaw.bindRequest_bound {s : State} (hs : PairingLaw s) {i : RosterIx} {e : RosterEntry} {p b : BayNo}
    (hi : s.roster.entries.get i = some e) (hp : e.bay = some p) (hpb : p ≠ b) (energy : Nat) :
    s.bindRequest e.tag b energy = s.rebind i p e.tag b energy := by
  unfold State.bindRequest
  rw [hs.rosterFind hi]
  dsimp only
  rw [hi, Option.bind_some, hp]
  exact if_neg hpb

/-- A tag that the roster holds PARKED. -/
theorem PairingLaw.bindRequest_parked {s : State} (hs : PairingLaw s) {i : RosterIx} {e : RosterEntry}
    (hi : s.roster.entries.get i = some e) (hp : e.bay = none) (b : BayNo) (energy : Nat) :
    s.bindRequest e.tag b energy = (.bound, (s.bindAt i e.tag b energy).bindClaim e.tag b energy) := by
  unfold State.bindRequest
  rw [hs.rosterFind hi]
  dsimp only
  rw [hi, Option.bind_some, hp]

/-- A tag that the roster does not hold. -/
theorem State.bindRequest_new {s : State} {t : Tag} (h : ∀ i e, s.roster.entries.get i = some e → e.tag ≠ t) (b : BayNo)
    (energy : Nat) : s.bindRequest t b energy = s.learn t b energy := by
  unfold State.bindRequest
  rw [State.rosterFind_none.2 h]

/-- The lowest free index is the one that the roster takes. -/
theorem State.freeRosterIx_eq {s : State} {i : RosterIx} (hi : s.roster.entries.get i = none)
    (hlow : ∀ j, j < i → s.roster.entries.get j ≠ none) : s.freeRosterIx = some i := by
  refine List.find?_eq_some_iff_getElem.2 ⟨by simp [hi], i.val, by simp, by simp, fun j hj => ?_⟩
  have := hlow ⟨j, by omega⟩ hj
  cases hj : s.roster.entries.get ⟨j, by omega⟩ with
  | none => exact absurd hj this
  | some e => simp [hj]

theorem State.freeRosterIx_none {s : State} (h : ∀ i, s.roster.entries.get i ≠ none) : s.freeRosterIx = none := by
  refine List.find?_eq_none.2 fun i _ => ?_
  simpa [Option.isNone_iff_eq_none] using h i

/-- What eviction may remove: an entry that is PARKED and unbooked. -/
theorem State.removable_iff (s : State) (e : RosterEntry) : s.removable e = true ↔ e.bay = none ∧ ∀ k ∈ s.book, k.tag ≠ e.tag := by
  rw [← State.isBooked_eq_false]
  simp [State.removable]

/-- The eviction's choice is the removable entry that was seen longest ago, at the lowest index of several. -/
theorem State.evictee_eq {s : State} {i : RosterIx} {e : RosterEntry} (hi : s.roster.entries.get i = some e)
    (he : s.removable e = true)
    (hmin : ∀ j f, s.roster.entries.get j = some f → s.removable f = true →
      e.lastSeen.toNat < f.lastSeen.toNat ∨ (e.lastSeen = f.lastSeen ∧ i ≤ j)) : s.evictee = some (i, e) := by
  have hspec := s.evictee_spec
  cases hv : s.evictee with
  | none =>
    rw [hv] at hspec
    rw [hspec i (List.mem_finRange i) e hi] at he
    cases he
  | some v =>
    obtain ⟨j, f⟩ := v
    rw [hv] at hspec
    obtain ⟨_, hj, hf, hfirst⟩ := hspec
    have hij : i = j := by
      obtain h | ⟨h, hij⟩ := hmin j f hj hf <;> obtain g | ⟨g, hji⟩ := hfirst i (List.mem_finRange i) e hi he
      · omega
      · rw [g] at h; omega
      · rw [h] at g; omega
      · exact le_antisymm hij hji
    subst hij
    cases hi.symm.trans hj
    rfl

theorem State.evictee_none {s : State} (h : ∀ i e, s.roster.entries.get i = some e → s.removable e ≠ true) : s.evictee = none := by
  have hspec := s.evictee_spec
  cases hv : s.evictee with
  | none => rfl
  | some v =>
    rw [hv] at hspec
    obtain ⟨_, hi, he, _⟩ := hspec
    exact (h _ _ hi he).elim

/-! ### What every bind request leaves -/

@[simp] theorem State.bindAt_agingPosition (s : State) (i : RosterIx) (t : Tag) (b : BayNo) (energy : Nat) :
    (s.bindAt i t b energy).roster.agingPosition = s.roster.agingPosition := by
  simp [State.bindAt]

@[simp] theorem State.bindRequest_agingPosition (s : State) (t : Tag) (b : BayNo) (energy : Nat) :
    (s.bindRequest t b energy).2.roster.agingPosition = s.roster.agingPosition := by
  unfold State.bindRequest State.learn
  (repeat' split) <;> simp [State.rebind_roster]

/-- A bind request raises alerts and marks records. -/
theorem State.bindRequest_raised {s : State} (hn : (s.book.map Booking.tag).Nodup) (t : Tag) (b : BayNo) (energy : Nat) :
    ∃ l, Raised s (s.bindRequest t b energy).2 l := by
  have became : ∀ {res i front}, BecameBound s t b energy res i front → ∃ l, Raised s res.2 l := fun h => by
    obtain ⟨_, h⟩ | ⟨_, h⟩ := h.alerts <;> exact ⟨_, h⟩
  unfold State.bindRequest State.learn
  split
  · split
    · exact became (State.bindAt_becameBound hn ..)
    split
    · exact became (State.evict_becameBound hn ..)
    · exact ⟨_, s.raise_raised ..⟩
  · split
    · split
      · exact ⟨_, ((MarksOnly.refl s).bindAt ..).raised⟩
      · next p _ _ =>
        by_cases hp : (s.bay p).state = .lost
        · exact ⟨_, (State.rebind_lost hp ..).alerts⟩
        · exact ⟨_, (State.rebind_held hp ..).alerts⟩
    · exact became (State.bindAt_becameBound hn ..)

/-- The three facts of `BoundAt`, as O48 lists them. -/
theorem BoundAt.facts {s x : State} {i : RosterIx} {t : Tag} {b : BayNo} {energy : Nat} (h : BoundAt s x i t b energy) :
    x.roster.entries.get i = some (s.boundEntry t b energy) ∧
      (∀ j, j ≠ i → x.roster.entries.get j = s.roster.entries.get j) ∧ x.mirror.dirty.has (.roster i) = true :=
  ⟨h.entry, h.others, h.dirty⟩

/-- The alerts of a tag that became bound, READY last. -/
theorem BecameBound.raises {s : State} {t : Tag} {b : BayNo} {energy : Nat} {res : RosterAnswer × State} {i : RosterIx}
    {front : List Alert} (h : BecameBound s t b energy res i front) :
    RaisesAll s.mirror res.2.mirror
      (front ++
        if ∃ k ∈ s.book, k.tag = t ∧ (k.state = .waiting ∨ k.state = .short) ∧ k.target ≤ energy then
          [s.alertNow (.ready energy) (some b) (some t)]
        else []) := by
  obtain ⟨hc, h⟩ | ⟨hc, h⟩ := h.alerts
  · unfold claimsReady at hc
    rw [if_pos hc]
    exact h.all
  · unfold claimsReady at hc
    rw [if_neg hc, List.append_nil]
    exact h.all

/-- Settles O48: case by case of R4. -/
theorem bindRequestIsDecided : Obligations.BindRequestIsDecided := by
  intro s tag b energy hs ⟨_, hn, _⟩ hb
  obtain ⟨l, hraised⟩ := State.bindRequest_raised hn tag b energy
  refine ⟨SameElsewhere.eq (by simp [SameElsewhere]), hraised.ring, by simp, ?_, ?_, ?_⟩
  · rintro i e p hi rfl hp
    have hheld : s.boundTags p = some e.tag := hs.bound hi hp
    have hpb : p ≠ b := by
      rintro rfl
      cases hb.symm.trans hheld
    rw [hs.bindRequest_bound hi hp hpb]
    have bound : ∀ {answer holder alerts},
        Rebound s (s.bindAt i e.tag b energy) p (s.rebind i p e.tag b energy) answer holder alerts →
        BoundAt s (s.rebind i p e.tag b energy).2 i e.tag b energy := fun h =>
      (s.bindAt_boundAt i e.tag b energy).keep (State.rebind_roster ..) h.later
    by_cases hlost : (s.bay p).state = .lost
    · have h := s.rebind_lost hlost i e.tag b energy
      rw [if_pos hlost]
      exact ⟨(bound h).facts, hpb, by simp, h.others, h.answer, h.holder, h.alerts.all⟩
    · have h := s.rebind_held hlost i e.tag b energy
      rw [if_neg hlost]
      exact ⟨(bound h).facts, hpb, by simp, h.others, h.answer, h.holder, h.alerts.all⟩
  · rintro i e hi rfl hp
    rw [hs.bindRequest_parked hi hp]
    have h := State.bindAt_becameBound hn i e.tag b energy
    exact ⟨h.answer, h.bound.facts, h.bays, h.book, h.raises⟩
  · intro hnew
    rw [State.bindRequest_new hnew]
    unfold State.learn
    refine ⟨fun i hi hlow => ?_, fun hfull => ⟨fun i e hi he hmin => ?_, fun hnone => ?_⟩⟩
    · rw [State.freeRosterIx_eq hi hlow]
      have h := State.bindAt_becameBound hn i tag b energy
      exact ⟨h.answer, h.bound.facts, h.bays, h.book, h.raises⟩
    · rw [State.freeRosterIx_none hfull, State.evictee_eq hi ((s.removable_iff e).2 he) fun j f hj hf =>
        hmin j f hj ((s.removable_iff f).1 hf)]
      have h := State.evict_becameBound hn i e tag b energy
      exact ⟨h.answer, h.bound.facts, h.bays, h.book, h.raises⟩
    · rw [State.freeRosterIx_none hfull, State.evictee_none fun i e hi he => hnone i e hi ((s.removable_iff e).1 he)]
      exact ⟨rfl, by simp, by simp, by simp, s.raise_raisesAll ..⟩

end Sys2Proof.Machine
end

section
/-!
PROOF. The first steps of a good report: link fields, meter accounting and the roster hand-over (R3, R30, R45 to R48, R115), and
what the rest of the arrival does to the bay's baseline.
-/

namespace Sys2Proof.Machine

open Sys2Proof

/-! ### Meter accounting (R48) -/

/-- The delta that a meter value brings over a baseline, where it is accepted. -/
def acceptedDelta (m : Nat) (baseline : Option Nat) : Option Nat :=
  match baseline with
  | none => none
  | some base => if meterDelta m base ≤ 2000 then some (meterDelta m base) else none

theorem acceptedDelta_none (m : Nat) : acceptedDelta m none = none := rfl

theorem acceptedDelta_of_le {m base : Nat} (h : meterDelta m base ≤ 2000) :
    acceptedDelta m (some base) = some (meterDelta m base) := if_pos h

/-- A discontinuity. -/
theorem acceptedDelta_of_gt {m base : Nat} (h : ¬meterDelta m base ≤ 2000) : acceptedDelta m (some base) = none := if_neg h

/-- Accounting a meter value: the baseline, and an accepted delta counted. -/
theorem State.meterAccount_eq (s : State) (b : BayNo) (held : Option Tag) (m : Nat) :
    s.meterAccount b held m =
      match acceptedDelta m (s.bay b).meterBaseline with
      | none => s.updBay b fun bay => { bay with meterBaseline := some m }
      | some d => (s.updBay b fun bay => { bay with meterBaseline := some m }).countDelta held d := by
  unfold State.meterAccount
  cases (s.bay b).meterBaseline with
  | none => rw [acceptedDelta_none]
  | some base =>
    by_cases h : meterDelta m base ≤ 2000
    · rw [acceptedDelta_of_le h]
      exact if_pos h
    · rw [acceptedDelta_of_gt h]
      exact if_neg h

/-- The delivered total after an accepted delta (R100, R115). -/
theorem State.countDelta_allocator (s : State) (held : Option Tag) (d : Nat) :
    (s.countDelta held d).allocator =
      { s.allocator with deliveredTotal := min 4294967295 (s.allocator.deliveredTotal + d) } := by
  unfold State.countDelta
  split
  · rfl
  · simp [State.addDeliveredTotal]

/-- The book after an accepted delta (R30). -/
theorem State.countDelta_book (s : State) (held : Option Tag) (d : Nat) :
    (s.countDelta held d).book =
      s.book.map fun k => if held = some k.tag then { k with delivered := min 16777215 (k.delivered + d) } else k := by
  unfold State.countDelta
  split
  · simp [State.addDeliveredTotal]
  · simp [State.addDeliveredTotal, State.addDelivered, State.updBooking, eq_comm]

theorem MarksOnly.countDelta {s x : State} (h : MarksOnly s x) (held : Option Tag) (d : Nat) : MarksOnly s (x.countDelta held d) := by
  have htotal : MarksOnly s (x.addDeliveredTotal d) := h.trans (.of_mirror rfl rfl)
  unfold State.countDelta
  split
  · exact htotal
  · exact htotal.setBook _

/-! ### The roster hand-over (R3) -/

/-- An entry as a plugged report of its tag from bay `b` leaves it. -/
def RosterEntry.reportedBy (now : Word) (b : BayNo) (plug : Option (Tag × Nat)) (entry : RosterEntry) : RosterEntry :=
  match plug with
  | none => entry
  | some (tag, e) =>
    if entry.tag = tag then
      { entry with lastSeen := now, lastEnergy := if entry.bay = some b then e else entry.lastEnergy }
    else entry

@[simp] theorem RosterEntry.reportedBy_tag (now : Word) (b : BayNo) (plug : Option (Tag × Nat)) (entry : RosterEntry) :
    (entry.reportedBy now b plug).tag = entry.tag := by
  unfold RosterEntry.reportedBy
  split
  · rfl
  · split <;> rfl

@[simp] theorem RosterEntry.reportedBy_bay (now : Word) (b : BayNo) (plug : Option (Tag × Nat)) (entry : RosterEntry) :
    (entry.reportedBy now b plug).bay = entry.bay := by
  unfold RosterEntry.reportedBy
  split
  · rfl
  · split <;> rfl

@[simp] theorem State.handOver_agingPosition (s : State) (b : BayNo) (r : Report) :
    (s.handOver b r).roster.agingPosition = s.roster.agingPosition := by
  unfold State.handOver State.rosterHandOver
  (repeat' split) <;> simp

/-- The hand-over of a plugged report changes the entry of its tag. -/
theorem PairingLaw.handOver_get {s : State} (hs : PairingLaw s) (b : BayNo) (r : Report) (j : RosterIx) :
    (s.handOver b r).roster.entries.get j =
      (s.roster.entries.get j).map (RosterEntry.reportedBy s.clock.depotSeconds b r.plug) := by
  unfold State.handOver
  cases hplug : r.plug with
  | none =>
    have hid : RosterEntry.reportedBy s.clock.depotSeconds b none = id := rfl
    rw [hid, Option.map_id]
    rfl
  | some p =>
    obtain ⟨t, e⟩ := p
    dsimp only
    unfold State.rosterHandOver
    cases hf : s.rosterFind t with
    | none =>
      have hnone := State.rosterFind_none.1 hf
      dsimp only
      cases hj : s.roster.entries.get j with
      | none => rfl
      | some entry => simp [RosterEntry.reportedBy, hnone j entry hj]
    | some i =>
      obtain ⟨entry, hi, ht⟩ := State.rosterFind_some hf
      dsimp only
      rw [hi]
      dsimp only
      rw [State.setRoster_get]
      by_cases hji : j = i
      · subst hji
        rw [if_pos rfl, hi]
        simp [RosterEntry.reportedBy, ht]
      · rw [if_neg hji]
        cases hj : s.roster.entries.get j with
        | none => rfl
        | some f =>
          have hft : f.tag ≠ t := fun hft => hji (hs.index_eq hj hi (hft.trans ht.symm))
          simp [RosterEntry.reportedBy, hft]

theorem MarksOnly.handOver {s x : State} (h : MarksOnly s x) (b : BayNo) (r : Report) : MarksOnly s (x.handOver b r) := by
  unfold State.handOver State.rosterHandOver
  split
  · split
    · exact h
    split
    · exact h
    · exact h.setRoster _ _
  · exact h

/-! ### The first steps together -/

theorem MarksOnly.reported {s x : State} (h : MarksOnly s x) (b : BayNo) (e : Exchange) (r : Report) :
    MarksOnly s (x.reported b e r) := by
  refine MarksOnly.handOver ?_ b r
  rw [State.meterAccount_eq]
  have hbase : ∀ m, MarksOnly s ((x.linkUpdate b e r).updBay b fun bay => { bay with meterBaseline := some m }) := fun m =>
    (h.updBay b _).updBay b _
  split
  · exact hbase _
  · exact (hbase _).countDelta _ _

@[simp] theorem State.linkUpdate_baseline (s : State) (b : BayNo) (x : Exchange) (r : Report) :
    ((s.linkUpdate b x r).bay b).meterBaseline = (s.bay b).meterBaseline := by
  simp [State.linkUpdate]

theorem State.reported_allocator (s : State) (b : BayNo) (x : Exchange) (r : Report) :
    (s.reported b x r).allocator =
      { s.allocator with
        deliveredTotal :=
          match acceptedDelta r.meter (s.bay b).meterBaseline with
          | none => s.allocator.deliveredTotal
          | some d => min 4294967295 (s.allocator.deliveredTotal + d) } := by
  simp only [State.reported, State.handOver_keeps]
  rw [State.meterAccount_eq, State.linkUpdate_baseline]
  split <;> simp [State.countDelta_allocator]

theorem State.reported_book (s : State) (b : BayNo) (x : Exchange) (r : Report) :
    (s.reported b x r).book =
      s.book.map fun k =>
        match acceptedDelta r.meter (s.bay b).meterBaseline with
        | none => k
        | some d => if (s.bay b).boundTag = some k.tag then { k with delivered := min 16777215 (k.delivered + d) } else k := by
  rw [State.reported, (State.handOver_keeps ..).1, State.meterAccount_eq, State.linkUpdate_baseline]
  split <;> simp [State.countDelta_book]

theorem PairingLaw.reported_get {s : State} (hs : PairingLaw s) (b : BayNo) (x : Exchange) (r : Report) (j : RosterIx) :
    (s.reported b x r).roster.entries.get j =
      (s.roster.entries.get j).map (RosterEntry.reportedBy s.clock.depotSeconds b r.plug) := by
  rw [State.reported, (hs.accounted b x r _).handOver_get]
  simp

/-! ### The baseline behind the rest of the arrival (R48) -/

/-- A bay after the state step, of the tag bound and the baseline: both as before; no tag, and the baseline as before; or a tag
newly bound, and no baseline. -/
inductive Remetered (old new : BayRecord) : Prop
  | kept (ht : new.boundTag = old.boundTag) (hm : new.meterBaseline = old.meterBaseline)
  | released (ht : new.boundTag = none) (hm : new.meterBaseline = old.meterBaseline)
  | bound (t : Tag) (ht : new.boundTag = some t) (hne : old.boundTag ≠ some t) (hm : new.meterBaseline = none)

theorem Remetered.refl (bay : BayRecord) : Remetered bay bay := .kept rfl rfl

/-- The baseline is cleared exactly where another tag than before is bound. -/
theorem Remetered.baseline {old new : BayRecord} (h : Remetered old new) :
    new.meterBaseline = if new.boundTag ≠ none ∧ new.boundTag ≠ old.boundTag then none else old.meterBaseline := by
  obtain ⟨ht, hm⟩ | ⟨ht, hm⟩ | ⟨t, ht, hne, hm⟩ := h
  · rw [if_neg (fun h => h.2 ht), hm]
  · rw [if_neg (fun h => h.1 ht), hm]
  · rw [if_pos ⟨by simp [ht], fun h => hne (h.symm.trans ht)⟩, hm]

/-- A refused bind request leaves the bays. -/
theorem State.bindRequest_refused {s : State} {t : Tag} {b : BayNo} {energy : Nat} (h : (s.bindRequest t b energy).1 = .refused) :
    (s.bindRequest t b energy).2.bays = s.bays := by
  unfold State.bindRequest State.learn at *
  split at h
  · split at h
    · cases h
    split at h
    · cases h
    · simp
  · split at h
    · split at h
      · cases h
      · unfold State.rebind at h
        split at h <;> cases h
    · cases h

/-- A bay without a tag that makes a bind request. -/
theorem State.bindBay_remetered (s : State) (b : BayNo) (t : Tag) (energy : Nat) :
    (((s.bindBay b t energy).2.bay b).boundTag = none ∧
        ((s.bindBay b t energy).2.bay b).meterBaseline = (s.bay b).meterBaseline) ∨
      (((s.bindBay b t energy).2.bay b).boundTag = some t ∧ ((s.bindBay b t energy).2.bay b).meterBaseline = none) := by
  unfold State.bindBay State.moveByAnswer
  dsimp only
  split
  · next h =>
    have hbay : (s.bindRequest t b energy).2.bay b = s.bay b := by rw [State.bay, State.bindRequest_refused h, State.bay]
    rw [State.updBay_bay_self, hbay]
    exact .inl ⟨rfl, rfl⟩
  · rw [State.updBay_bay_self]
    exact .inr ⟨rfl, rfl⟩

/-- Bay `b`'s record loses its tag at a release, and no other record changes. -/
theorem State.releaseBay_bay (s : State) (b : BayNo) (t : Tag) (c : BayNo) :
    (s.releaseBay b t).bay c = if c = b then { s.bay b with boundTag := none } else s.bay c := by
  unfold State.releaseBay State.unbind State.bay
  rw [(State.judgeDeparture_keeps ..).2.1, (State.rosterRelease_keeps ..).2.1, ← State.bay, State.updBay_bay]
  rfl

theorem Remetered.updBay {s : State} {b : BayNo} {f : BayRecord → BayRecord} (ht : (f (s.bay b)).boundTag = (s.bay b).boundTag)
    (hm : (f (s.bay b)).meterBaseline = (s.bay b).meterBaseline) : Remetered (s.bay b) ((s.updBay b f).bay b) := by
  rw [State.updBay_bay_self]
  exact .kept ht hm

/-- A bind request of another tag, the baseline as before. -/
theorem Remetered.bindBay {old : BayRecord} {s : State} {b : BayNo} (hm : (s.bay b).meterBaseline = old.meterBaseline)
    {t : Tag} (hne : old.boundTag ≠ some t) (energy : Nat) :
    Remetered old ((s.bindBay b t energy).2.bay b) := by
  obtain ⟨h1, h2⟩ | ⟨h1, h2⟩ := s.bindBay_remetered b t energy
  · exact .released h1 (h2.trans hm)
  · exact .bound t h1 hne h2

theorem Remetered.plugIn {s : State} {b : BayNo} (hb : (s.bay b).boundTag = none) (t : Tag) (energy : Nat) :
    Remetered (s.bay b) ((s.plugIn b t energy).bay b) := by
  unfold State.plugIn
  rw [State.raise_bay]
  exact .bindBay rfl (by simp [hb]) energy

theorem Remetered.retryLearning {s : State} {b : BayNo} (hb : (s.bay b).boundTag = none) (t : Tag) (energy : Nat) :
    Remetered (s.bay b) ((s.retryLearning b t energy).bay b) := by
  have h : Remetered (s.bay b) ((s.bindBay b t energy).2.bay b) := .bindBay rfl (by simp [hb]) energy
  unfold State.retryLearning
  dsimp only
  split
  · exact h
  · rwa [State.raise_bay]

theorem Remetered.exchangeVan {s : State} {b : BayNo} {old t : Tag} (hb : (s.bay b).boundTag = some old) (hne : t ≠ old)
    (energy : Nat) : Remetered (s.bay b) ((s.exchangeVan b old t energy).bay b) := by
  unfold State.exchangeVan State.plugIn
  rw [State.raise_bay]
  exact .bindBay (by simp [State.releaseBay_bay]) (by simp [hb, hne.symm]) energy

theorem Remetered.unplugBay (s : State) (b : BayNo) : Remetered (s.bay b) ((s.unplugBay b).bay b) := by
  unfold State.unplugBay
  dsimp only
  rw [State.raise_bay, State.updBay_bay_self]
  refine .released rfl ?_
  split
  · rfl
  · simp [State.releaseBay_bay]

theorem Remetered.refuseStep (s : State) (b : BayNo) : Remetered (s.bay b) ((s.refuseStep b).bay b) := by
  have h : Remetered (s.bay b) ((s.enterFaulted b).bay b) := .updBay rfl rfl
  unfold State.refuseStep State.raiseForBay
  dsimp only
  split
  · exact .refl _
  split
  · rwa [State.raise_bay, State.raise_bay]
  · rwa [State.raise_bay]

theorem Remetered.agree (s : State) (b : BayNo) (x : Exchange) (r : Report) : Remetered (s.bay b) ((s.agree b x r).bay b) := by
  unfold State.agree State.settle State.raiseForBay
  split
  · dsimp only
    split
    · rw [State.raise_bay]
      exact .updBay rfl rfl
    · rw [State.raise_bay]
      exact .updBay rfl rfl
  · exact .refl _

theorem Remetered.stepSettled (s : State) (b : BayNo) (r : Report) : Remetered (s.bay b) ((s.stepSettled b r).bay b) := by
  unfold State.stepSettled
  split
  · exact .unplugBay s b
  · next hb =>
    split
    · exact .refl _
    · next hne => exact .exchangeVan hb hne _
  · next hb => exact .plugIn hb _ _

theorem Remetered.stepAgreeing (s : State) (b : BayNo) (x : Exchange) (r : Report) :
    Remetered (s.bay b) ((s.stepAgreeing b x r).bay b) := by
  unfold State.stepAgreeing
  split
  · exact .unplugBay s b
  · next hb =>
    split
    · exact .agree s b x r
    · next hne => exact .exchangeVan hb hne _
  · next hb => exact .plugIn hb _ _

theorem Remetered.stepReturn (s : State) (b : BayNo) (r : Report) : Remetered (s.bay b) ((s.stepReturn b r).bay b) := by
  unfold State.stepReturn
  split
  · exact .unplugBay s b
  · next hb =>
    split
    · exact .updBay rfl rfl
    · next hne => exact .exchangeVan hb hne _
  · next hb => exact .plugIn hb _ _

/-- The state step at a bay that holds no binding while EMPTY, DOZING or UNLISTED. -/
theorem Remetered.stateStep {s : State} {b : BayNo}
    (hidle : (s.bay b).state = .empty ∨ (s.bay b).state = .dozing ∨ (s.bay b).state = .unlisted → (s.bay b).boundTag = none)
    (x : Exchange) (r : Report) : Remetered (s.bay b) ((s.stateStep b x r).bay b) := by
  unfold State.stateStep
  split
  case h_1 => exact .refl _
  case h_2 =>
    unfold State.stepClosing
    split
    · exact .updBay rfl rfl
    · exact .refl _
  all_goals
    rename_i hstate
    split
  any_goals exact .refuseStep s b
  · unfold State.stepEmpty
    split
    · exact .plugIn (hidle (.inl hstate)) _ _
    · exact .updBay rfl rfl
  · unfold State.stepDozing
    split
    · exact .plugIn (hidle (.inr (.inl hstate))) _ _
    · exact .refl _
  · exact .stepAgreeing s b x r
  · exact .stepSettled s b r
  · exact .stepSettled s b r
  · unfold State.stepUnlisted
    split
    · exact .unplugBay s b
    split
    · exact .refl _
    · exact .retryLearning (hidle (.inr (.inr hstate))) _ _
  · unfold State.stepFaulted State.raiseForBay
    split
    · rw [State.raise_bay]
      exact .stepReturn s b r
    · exact .refl _
  · unfold State.stepLost State.raiseForBay
    rw [State.raise_bay]
    exact .stepReturn s b r

/-! ### A report is accounted before its bay moves -/

/-- The two states differ in the roster, the book, the bays, the Allocator and the Mirror Writer alone. -/
theorem State.eq_of_metered {s t : State} (h : t.lanes = s.lanes ∧ t.meter = s.meter ∧ t.clock = s.clock ∧ t.path = s.path ∧
    t.intake = s.intake ∧ t.config = s.config ∧ t.memory = s.memory ∧ t.draws = s.draws ∧ t.pending = s.pending) :
    t = { s with bays := t.bays, book := t.book, allocator := t.allocator, roster := t.roster, mirror := t.mirror } := by
  obtain ⟨h1, h2, h3, h4, h5, h6, h7, h8, h9⟩ := h
  exact SameElsewhere.eq (s := { s with allocator := t.allocator }) ⟨h1, h2, rfl, h3, h4, h5, h6, h7, h8, h9⟩

/-- The bay as the first steps of a good report leave it. -/
theorem State.reported_bay_self (s : State) (b : BayNo) (x : Exchange) (r : Report) :
    (s.reported b x r).bay b =
      { s.bay b with
        failureCount := 0, confirmed := r.applied, unresolved := 0, unknown := false, postCeiling := r.postCeiling
        measuredPower := r.measuredPower, lastGoodTime := s.clock.depotSeconds, lastGoodInterval := s.clock.interval
        lastEnergy := r.energyOr (s.bay b).lastEnergy
        toggle := if flipsToggle x r then !(s.bay b).toggle else (s.bay b).toggle
        meterBaseline := some r.meter } := by
  rw [State.reported_bay, if_pos rfl, State.linkUpdate, State.updBay_bay_self]

/-- The toggle flips on ACCEPT after a SETPOINT or STOP that the report echoes (R47). -/
theorem flipsToggle_iff (x : Exchange) (r : Report) :
    flipsToggle x r = true ↔ r.status = .accept ∧ (x.kind = .setpoint ∨ x.kind = .stop) ∧ r.toggleEcho = x.toggle := by
  have hkind : x.kind.carriesValue = true ↔ x.kind = .setpoint ∨ x.kind = .stop := by cases x.kind <;> decide
  simp [flipsToggle, hkind, and_assoc]

theorem VanRoster.eq_of {v w : VanRoster} (he : v.entries = w.entries) (ha : v.agingPosition = w.agingPosition) : v = w := by
  cases v
  cases w
  dsimp only at he ha
  rw [he, ha]

/-- The roster as the first steps of a good report leave it. -/
theorem PairingLaw.reported_roster {s : State} (hs : PairingLaw s) (b : BayNo) (x : Exchange) (r : Report) :
    (s.reported b x r).roster =
      { s.roster with
        entries := s.roster.entries.map fun o => o.map (RosterEntry.reportedBy s.clock.depotSeconds b r.plug) } := by
  refine VanRoster.eq_of (vector_get_ext fun j => ?_) (by simp [State.reported])
  rw [hs.reported_get]
  simp [vector_get_eq]

/-- Of the bay the arrival leaves what the state step leaves. -/
theorem State.goodReport_bay (s : State) (b : BayNo) (x : Exchange) (r : Report) (c : BayNo) :
    (s.goodReport b x r).bay c = ((s.reported b x r).stateStep b x r).bay c := by
  simp [State.goodReport_eq, State.bay]

/-- A bay that R43 lets hold no binding holds none behind the first steps either. -/
theorem BindingLaw.reported_idle {s : State} (hb : BindingLaw s) {b : BayNo} {x : Exchange} {r : Report}
    (h : ((s.reported b x r).bay b).state = .empty ∨ ((s.reported b x r).bay b).state = .dozing ∨
      ((s.reported b x r).bay b).state = .unlisted) : ((s.reported b x r).bay b).boundTag = none := by
  rw [State.reported_boundTag]
  exact hb.idle (by simpa using h)

/-- Settles O42: the first steps field by field, then the baseline behind the state step. -/
theorem meterDeltaIsCounted : Obligations.MeterDeltaIsCounted := by
  intro s b x r hs hb
  have hu := (MarksOnly.refl s).reported b x r
  have haccepted : acceptedDelta r.meter (s.bay b).meterBaseline =
      match (s.bay b).meterBaseline with
      | none => none
      | some base =>
        if (r.meter + 16777216 - base) % 16777216 ≤ 2000 then some ((r.meter + 16777216 - base) % 16777216) else none := by
    unfold acceptedDelta meterDelta
    rfl
  dsimp only
  refine ⟨State.eq_of_metered ?_, hu.only, fun c hc => ?_, ?_, ?_, ?_, ?_, ?_, ?_⟩
  · simp [State.reported]
  · rw [State.reported_bay, if_neg hc]
  · rw [State.reported_bay_self]
    simp only [flipsToggle_iff]
    rfl
  · rw [State.reported_allocator, haccepted] <;> rfl
  · rw [State.reported_book, haccepted] <;> rfl
  · exact hs.reported_roster b x r
  · simp [State.goodReport_eq]
  · have h := (Remetered.stateStep (hb.reported_idle (b := b) (x := x) (r := r)) x r).baseline
    rw [← State.goodReport_bay, State.reported_boundTag] at h
    rw [h, State.reported_bay_self]

end Sys2Proof.Machine
end

section
/-!
PROOF. The reports that release a binding and make a bind request (R11, R28, R48, R49, R51 to R54, R57, R64).
-/

namespace Sys2Proof.Machine

open Sys2Proof

/-! ### The judgement of a departure (R28) -/

/-- Of a book whose tags differ, one booking's list stands for all, where bookings of other tags have the empty list. -/
theorem flatMap_of_tag {α : Type} {f : Booking → List α} {k : Booking} : ∀ {book : List Booking},
    (book.map Booking.tag).Nodup → k ∈ book → (∀ j ∈ book, j.tag ≠ k.tag → f j = []) → book.flatMap f = f k
  | [], _, hk, _ => by cases hk
  | a :: l, hn, hk, hf => by
    obtain ⟨ha, hl⟩ := List.nodup_cons.1 hn
    rw [List.flatMap_cons]
    obtain rfl | hk := List.mem_cons.1 hk
    · have hrest : l.flatMap f = [] := List.flatMap_eq_nil_iff.2 fun j hj =>
        hf j (List.mem_cons_of_mem _ hj) fun e => ha (e ▸ List.mem_map_of_mem hj)
      rw [hrest, List.append_nil]
    · have hne : a.tag ≠ k.tag := fun e => ha (e ▸ List.mem_map_of_mem hk)
      rw [hf a List.mem_cons_self hne, List.nil_append]
      exact flatMap_of_tag hl hk fun j hj => hf j (List.mem_cons_of_mem _ hj)

/-- What the release of the tag held leaves of a booking. -/
def State.judged (u : State) (held : Option Tag) (k : Booking) : Option Booking :=
  if held = some k.tag then
    if k.departure.toNat ≤ u.clock.depotSeconds.toNat + 60 * u.config.loaded.departLeadMinutes then none
    else some { k with state := if k.state = .charging ∨ k.state = .ready then .waiting else k.state }
  else some k

/-- DEPARTED, for the booking of the tag held, in the departure window. -/
def State.departedAlerts (u : State) (b : BayNo) (held : Option Tag) (energy : Tag → Nat) (k : Booking) : List Alert :=
  if held = some k.tag ∧ k.departure.toNat ≤ u.clock.depotSeconds.toNat + 60 * u.config.loaded.departLeadMinutes then
    [u.alertNow (.departed (energy k.tag) k.delivered) (some b) (some k.tag)]
  else []

theorem BookingState.released_eq (st : BookingState) : st.released = if st = .charging ∨ st = .ready then .waiting else st := by
  cases st <;> rfl

theorem filterMap_eq_self {f : Booking → Option Booking} {l : List Booking} (h : ∀ k ∈ l, f k = some k) : l.filterMap f = l :=
  (List.filterMap_congr h).trans List.filterMap_some

/-- The judgement at a release: the book behind it, and the alert. -/
theorem State.judgeDeparture_judges {s : State} (hn : (s.book.map Booking.tag).Nodup) (t : Tag) (b : BayNo) (energy : Tag → Nat) :
    (s.judgeDeparture t b (energy t)).book = s.book.filterMap (s.judged (some t)) ∧
      Raised s (s.judgeDeparture t b (energy t)) (s.book.flatMap (s.departedAlerts b (some t) energy)) := by
  have other : ∀ j : Booking, j.tag ≠ t → s.judged (some t) j = some j ∧ s.departedAlerts b (some t) energy j = [] := fun j hj => by
    simp [State.judged, State.departedAlerts, hj.symm]
  cases hk : s.booking t with
  | none =>
    have hnone := State.booking_none.1 hk
    have hsame : s.judgeDeparture t b (energy t) = s := by rw [State.judgeDeparture, hk]
    rw [hsame, filterMap_eq_self fun j hj => (other j (hnone j hj)).1,
      List.flatMap_eq_nil_iff.2 fun j hj => (other j (hnone j hj)).2]
    exact ⟨rfl, .refl s⟩
  | some k =>
    obtain ⟨hmem, rfl⟩ := State.booking_some hk
    have only : ∀ j ∈ s.book, j.tag = k.tag → j = k := fun j hj ht => State.eq_booking hn hk hj ht
    rw [flatMap_of_tag hn hmem fun j _ hj => (other j hj).2]
    unfold State.judgeDeparture
    rw [hk]
    dsimp only
    by_cases hw : s.inDepartureWindow k = true
    · have hdue : k.departure.toNat ≤ s.clock.depotSeconds.toNat + 60 * s.config.loaded.departLeadMinutes := by
        simpa [State.inDepartureWindow] using hw
      have hmarks : MarksOnly s (s.setBook (withoutTag k.tag s.book)) := (MarksOnly.refl s).setBook _
      rw [if_pos hw]
      refine ⟨?_, ?_⟩
      · rw [(State.raise_keeps ..).2.1, State.setBook_book, withoutTag, ← List.filterMap_eq_filter]
        refine List.filterMap_congr fun j hj => ?_
        by_cases ht : j.tag = k.tag
        · rw [only j hj ht]
          simp [State.judged, hdue]
        · rw [(other j ht).1]
          simp [ht]
      · rw [State.departedAlerts, if_pos ⟨rfl, hdue⟩]
        exact hmarks.raised.raise _ _ _
    · have hdue : ¬k.departure.toNat ≤ s.clock.depotSeconds.toNat + 60 * s.config.loaded.departLeadMinutes := by
        simpa [State.inDepartureWindow] using hw
      rw [if_neg hw]
      refine ⟨?_, ?_⟩
      · rw [State.moveBooking_book, ← List.filterMap_eq_map]
        refine List.filterMap_congr fun j hj => ?_
        by_cases ht : j.tag = k.tag
        · rw [only j hj ht]
          simp [State.judged, hdue, BookingState.released_eq]
        · rw [(other j ht).1]
          simp [ht]
      · rw [State.departedAlerts, if_neg fun h => hdue h.2]
        exact ((MarksOnly.refl s).moveBooking _ _).raised

/-! ### The release of a bay's binding (R11, R28) -/

/-- The bookings' tags as the first steps of a good report leave them. -/
theorem State.reported_tags (s : State) (b : BayNo) (x : Exchange) (r : Report) :
    (s.reported b x r).book.map Booking.tag = s.book.map Booking.tag := by
  rw [State.reported_book, List.map_map]
  refine List.map_congr_left fun k _ => ?_
  dsimp only [Function.comp_apply]
  split
  · rfl
  · split <;> rfl

/-- The book behind a release. -/
theorem releasedFrom_book (u : State) (b : BayNo) : (releasedFrom u b).book = u.book.filterMap (u.judged (u.bay b).boundTag) := rfl

/-- The alerts of a release: DEPARTED, then UNPLUG. -/
theorem releaseAlerts_eq (u : State) (b : BayNo) :
    releaseAlerts u b =
      u.book.flatMap (u.departedAlerts b (u.bay b).boundTag u.rosterEnergy) ++
        [u.alertNow (.unplug (u.bay b).state) (some b) (u.bay b).boundTag] := rfl

/-- The roster behind a release. -/
theorem releasedFrom_roster_of_get {u x : State} {b : BayNo}
    (he : ∀ j, x.roster.entries.get j = (u.roster.entries.get j).map (RosterEntry.parkedFrom b))
    (ha : x.roster.agingPosition = u.roster.agingPosition) : x.roster = (releasedFrom u b).roster := by
  refine VanRoster.eq_of (vector_get_ext fun j => ?_) ha
  rw [he]
  simp [releasedFrom, vector_get_eq]
  rfl

@[simp] theorem State.rosterRelease_agingPosition (s : State) (t : Tag) (b : BayNo) :
    (s.rosterRelease t b).roster.agingPosition = s.roster.agingPosition := by
  unfold State.rosterRelease
  (repeat' split) <;> simp

theorem MarksOnly.unbind {s x : State} (h : MarksOnly s x) (b : BayNo) (t : Tag) : MarksOnly s (x.unbind b t) :=
  (h.updBay b _).rosterRelease t b

/-- From `u` to `x` bay `b`'s binding, if it had one, has been released: the roster, the book, and DEPARTED where it comes. -/
structure Released (u x : State) (b : BayNo) : Prop where
  roster : x.roster = (releasedFrom u b).roster
  book : x.book = (releasedFrom u b).book
  raised : Raised u x (u.book.flatMap (u.departedAlerts b (u.bay b).boundTag u.rosterEnergy))

theorem Released.updBay {u x : State} {b : BayNo} (h : Released u x b) (c : BayNo) (f : BayRecord → BayRecord) :
    Released u (x.updBay c f) b :=
  ⟨(State.updBay_keeps ..).1.trans h.roster, (State.updBay_keeps ..).2.1.trans h.book,
    h.raised.thenMarks ((MarksOnly.refl x).updBay c f)⟩

/-- UNPLUG ends the alerts of a release. -/
theorem Released.unplug {u x : State} {b : BayNo} (h : Released u x b) :
    Raised u (x.raise (.unplug (u.bay b).state) (some b) (u.bay b).boundTag) (releaseAlerts u b) := by
  rw [releaseAlerts_eq]
  exact h.raised.raise _ _ _

/-- A bay without a binding releases none. -/
theorem PairingLaw.released_of_none {u : State} (hs : PairingLaw u) {b : BayNo} (hb : (u.bay b).boundTag = none) :
    Released u u b := by
  refine ⟨?_, ?_, ?_⟩
  · refine releasedFrom_roster_of_get (fun j => ?_) rfl
    cases hj : u.roster.entries.get j with
    | none => rfl
    | some e =>
      have he : e.bay ≠ some b := fun he => by
        cases hb.symm.trans (hs.bound hj he)
      rw [Option.map_some, RosterEntry.parkedFrom, if_neg he]
  · rw [releasedFrom_book, hb, filterMap_eq_self fun k _ => by simp [State.judged]]
  · rw [hb, List.flatMap_eq_nil_iff.2 fun k _ => by simp [State.departedAlerts]]
    exact .refl u

/-- A bay with a binding releases it. -/
theorem PairingLaw.released_of_some {u : State} (hs : PairingLaw u) (hn : (u.book.map Booking.tag).Nodup) {b : BayNo} {t : Tag}
    (hb : (u.bay b).boundTag = some t) : Released u (u.releaseBay b t) b := by
  have hunbound : MarksOnly u (u.unbind b t) := (MarksOnly.refl u).unbind b t
  have hkeeps : (u.unbind b t).book = u.book ∧ (u.unbind b t).clock = u.clock ∧ (u.unbind b t).config = u.config := by simp
  obtain ⟨hbook, hclock, hconfig⟩ := hkeeps
  obtain ⟨hjudged, hraised⟩ := State.judgeDeparture_judges (s := u.unbind b t) (by rwa [hbook]) t b u.rosterEnergy
  have hsame : (u.unbind b t).judged (some t) = u.judged (some t) := by
    unfold State.judged
    rw [hclock, hconfig]
  have halerts : (u.unbind b t).departedAlerts b (some t) u.rosterEnergy = u.departedAlerts b (some t) u.rosterEnergy := by
    unfold State.departedAlerts State.alertNow
    rw [hclock, hconfig]
  rw [hbook, hsame] at hjudged
  rw [hbook, halerts] at hraised
  refine ⟨?_, ?_, ?_⟩
  · refine releasedFrom_roster_of_get (fun j => ?_) (by simp [State.releaseBay, State.unbind])
    rw [State.releaseBay, (State.judgeDeparture_keeps ..).1, hs.unbind_get hb]
  · rw [releasedFrom_book, hb, State.releaseBay, hjudged]
  · rw [hb]
    exact hunbound.raised.append hraised

/-! ### No plug at a bay that had one (R54) -/

/-- The bay as unplug processing leaves it. -/
def BayRecord.unplugged (bay : BayRecord) : BayRecord :=
  { bay with state := .empty, boundTag := none, agreedMode := none, unlistedTag := none, emptyRounds := 0 }

/-- Unplug processing: the release with UNPLUG, and the bay EMPTY. -/
theorem PairingLaw.unplugBay_unplugs {u : State} (hs : PairingLaw u) (hn : (u.book.map Booking.tag).Nodup) (b : BayNo) :
    (u.unplugBay b).roster = (releasedFrom u b).roster ∧ (u.unplugBay b).book = (releasedFrom u b).book ∧
      (∀ c, (u.unplugBay b).bay c = if c = b then (u.bay b).unplugged else u.bay c) ∧
      Raised u (u.unplugBay b) (releaseAlerts u b) := by
  obtain ⟨x, hx, hbays, hreleased⟩ : ∃ x : State, u.unplugBay b =
      (x.updBay b BayRecord.unplugged).raise (.unplug (u.bay b).state) (some b) (u.bay b).boundTag ∧
      (∀ c, (x.updBay b BayRecord.unplugged).bay c = if c = b then (u.bay b).unplugged else u.bay c) ∧ Released u x b := by
    unfold State.unplugBay
    cases hb : (u.bay b).boundTag with
    | none => exact ⟨u, rfl, fun c => State.updBay_bay .., hs.released_of_none hb⟩
    | some t =>
      refine ⟨u.releaseBay b t, rfl, fun c => ?_, hs.released_of_some hn hb⟩
      rw [State.updBay_bay, State.releaseBay_bay, State.releaseBay_bay, if_pos rfl]
      split
      · rfl
      · rfl
  have hmoved := hreleased.updBay b BayRecord.unplugged
  rw [hx]
  exact ⟨(State.raise_keeps ..).1.trans hmoved.roster, (State.raise_keeps ..).2.1.trans hmoved.book, fun c => by
    rw [State.raise_bay, hbays], hmoved.unplug⟩

/-! ### The return from FAULTED and LOST (R53, R57) -/

/-- BAY CLEAR or BAY BACK behind a step at `y` that took bay `b` out of FAULTED or LOST at `u`. -/
def State.returned (u : State) (b : BayNo) (y : State) : State :=
  match (u.bay b).state with
  | .faulted => y.raiseForBay b (.bayClear (y.bay b).state)
  | .lost => y.raiseForBay b (.bayBack (y.bay b).state)
  | _ => y

@[simp] theorem State.returned_bay (u : State) (b : BayNo) (y : State) (c : BayNo) : (u.returned b y).bay c = y.bay c := by
  unfold State.returned State.raiseForBay
  split <;> simp

@[simp] theorem State.returned_keeps (u : State) (b : BayNo) (y : State) :
    (u.returned b y).roster = y.roster ∧ (u.returned b y).book = y.book ∧ (u.returned b y).lanes = y.lanes ∧
      (u.returned b y).meter = y.meter ∧ (u.returned b y).allocator = y.allocator ∧ (u.returned b y).clock = y.clock ∧
      (u.returned b y).path = y.path ∧ (u.returned b y).intake = y.intake ∧ (u.returned b y).config = y.config ∧
      (u.returned b y).memory = y.memory ∧ (u.returned b y).draws = y.draws ∧ (u.returned b y).pending = y.pending := by
  unfold State.returned State.raiseForBay
  split <;> simp

theorem SameElsewhere.returned {u v y : State} (h : SameElsewhere u y) (b : BayNo) : SameElsewhere u (v.returned b y) := by
  simpa [SameElsewhere] using h

theorem State.returned_faulted {u : State} {b : BayNo} (h : (u.bay b).state = .faulted) (y : State) :
    u.returned b y = y.raiseForBay b (.bayClear (y.bay b).state) := by
  rw [State.returned, h]

theorem State.returned_lost {u : State} {b : BayNo} (h : (u.bay b).state = .lost) (y : State) :
    u.returned b y = y.raiseForBay b (.bayBack (y.bay b).state) := by
  rw [State.returned, h]

/-- From another state than FAULTED and LOST no bay returns. -/
theorem State.returned_other {u : State} {b : BayNo} (hf : (u.bay b).state ≠ .faulted) (hl : (u.bay b).state ≠ .lost) (y : State) :
    u.returned b y = y := by
  unfold State.returned
  split
  · next h => exact (hf h).elim
  · next h => exact (hl h).elim
  · rfl

theorem returnAlerts_other {u : State} {b : BayNo} (hf : (u.bay b).state ≠ .faulted) (hl : (u.bay b).state ≠ .lost)
    (entered : BayState) (tag : Option Tag) : returnAlerts u b entered tag = [] := by
  unfold returnAlerts
  split
  · next h => exact (hf h).elim
  · next h => exact (hl h).elim
  · rfl

/-- The alert of the return comes last. -/
theorem Raised.returned {z u y : State} {b : BayNo} {l : List Alert} (h : Raised z y l) (hz : z.clock = u.clock) :
    Raised z (u.returned b y) (l ++ returnAlerts u b (y.bay b).state (y.bay b).boundTag) := by
  have hnow : ∀ kind, z.alertNow kind (some b) (y.bay b).boundTag = u.alertNow kind (some b) (y.bay b).boundTag := fun kind => by
    rw [State.alertNow, hz]
    rfl
  by_cases hf : (u.bay b).state = .faulted
  · have halerts : returnAlerts u b (y.bay b).state (y.bay b).boundTag =
        [z.alertNow (.bayClear (y.bay b).state) (some b) (y.bay b).boundTag] := by
      rw [hnow, returnAlerts, hf]
      rfl
    rw [State.returned_faulted hf, halerts]
    exact h.raise _ _ _
  by_cases hl : (u.bay b).state = .lost
  · have halerts : returnAlerts u b (y.bay b).state (y.bay b).boundTag =
        [z.alertNow (.bayBack (y.bay b).state) (some b) (y.bay b).boundTag] := by
      rw [hnow, returnAlerts, hl]
      rfl
    rw [State.returned_lost hl, halerts]
    exact h.raise _ _ _
  · rw [State.returned_other hf hl, returnAlerts_other hf hl, List.append_nil]
    exact h

/-! ### A bind request of the bay (R49, R52) -/

/-- A state with a given roster and book. -/
theorem SameElsewhere.eq_with {u t : State} (h : SameElsewhere u t) {ro : VanRoster} {book : List Booking} (hr : t.roster = ro)
    (hb : t.book = book) : t = { u with bays := t.bays, roster := ro, book := book, mirror := t.mirror } := by
  subst hr hb
  exact h.eq

/-- Bay `b`'s move by the roster's answer. -/
theorem State.moveByAnswer_bay (s : State) (b : BayNo) (t : Tag) (a : RosterAnswer) (c : BayNo) :
    (s.moveByAnswer b t a).bay c =
      if c = b then
        (if a = .refused then
          { s.bay b with state := .unlisted, boundTag := none, agreedMode := none, unlistedTag := some t, emptyRounds := 0 }
        else
          { s.bay b with
            state := .agreeing, boundTag := some t, agreedMode := none, unlistedTag := none, emptyRounds := 0
            meterBaseline := none })
      else s.bay c := by
  unfold State.moveByAnswer
  split <;> rw [State.updBay_bay]

theorem MarksOnly.moveByAnswer {s x : State} (h : MarksOnly s x) (b : BayNo) (t : Tag) (a : RosterAnswer) :
    MarksOnly s (x.moveByAnswer b t a) := by
  unfold State.moveByAnswer
  split
  · exact h.updBay _ _
  · exact h.updBay _ _

/-- What `y` shows of a bind request of bay `b` made at `v`, with the alerts behind those of the request. -/
structure AskedAt (v y : State) (b : BayNo) (t : Tag) (energy : Nat) (l : List Alert) : Prop where
  roster : y.roster = (v.bindRequest t b energy).2.roster
  book : y.book = (v.bindRequest t b energy).2.book
  bay : ∀ c, y.bay c = ((v.bindRequest t b energy).2.moveByAnswer b t (v.bindRequest t b energy).1).bay c
  raised : Raised (v.bindRequest t b energy).2 y l

theorem State.bindBay_askedAt (v : State) (b : BayNo) (t : Tag) (energy : Nat) :
    AskedAt v (v.bindBay b t energy).2 b t energy [] :=
  ⟨by simp [State.bindBay], by simp [State.bindBay], fun _ => rfl, ((MarksOnly.refl _).moveByAnswer b t _).raised⟩

theorem AskedAt.raise {v y : State} {b : BayNo} {t : Tag} {energy : Nat} {l : List Alert} (h : AskedAt v y b t energy l)
    (kind : AlertKind) (bay : Option BayNo) (tag : Option Tag) :
    AskedAt v (y.raise kind bay tag) b t energy (l ++ [v.alertNow kind bay tag]) := by
  have hraised := h.raised.raise kind bay tag
  have hclock : (v.bindRequest t b energy).2.alertNow kind bay tag = v.alertNow kind bay tag := by
    simp [State.alertNow]
  rw [hclock] at hraised
  exact ⟨(State.raise_keeps ..).1.trans h.roster, (State.raise_keeps ..).2.1.trans h.book, fun c => by rw [State.raise_bay, h.bay c],
    hraised⟩

/-- A bind request made at `v` as O41 tells it, with the alert of a return from FAULTED or LOST at `u`. -/
theorem AskedAt.boundBy {u v y : State} {b : BayNo} {t : Tag} {energy : Nat} {l : List Alert} (h : AskedAt v y b t energy l)
    (hv : v.clock = u.clock) (hblocks : SameElsewhere u y)
    (hl : l = if (u.bay b).state = .unlisted ∧ (v.bindRequest t b energy).1 = .refused then []
      else [u.alertNow (.plugIn (v.bindRequest t b energy).1) (some b) (some t)]) :
    BoundBy u v (u.returned b y) b t energy := by
  have hq : (v.bindRequest t b energy).2.clock = u.clock := by simp [hv]
  have hraised := h.raised.returned (u := u) (b := b) hq
  have hbay := h.bay b
  rw [State.moveByAnswer_bay, if_pos rfl] at hbay
  have hstate : (y.bay b).state = if (v.bindRequest t b energy).1 = .refused then .unlisted else .agreeing := by
    rw [hbay]
    split <;> rfl
  have htag : (y.bay b).boundTag = if (v.bindRequest t b energy).1 = .refused then none else some t := by
    rw [hbay]
    split <;> rfl
  rw [hl, hstate, htag] at hraised
  refine ⟨(hblocks.returned b).eq_with ?_ ?_, ?_, fun c hc => ?_, hraised.ring, hraised.all⟩
  · simpa using h.roster
  · simpa using h.book
  · rw [State.returned_bay, hbay]
  · rw [State.returned_bay, h.bay c, State.moveByAnswer_bay, if_neg hc]

/-- Learning, at a bay that is not UNLISTED. -/
theorem State.plugIn_boundBy {u v : State} {b : BayNo} (hu : (u.bay b).state ≠ .unlisted)
    (hblocks : SameElsewhere u v) (t : Tag) (energy : Nat) : BoundBy u v (u.returned b (v.plugIn b t energy)) b t energy := by
  refine ((v.bindBay_askedAt b t energy).raise (.plugIn (v.bindRequest t b energy).1) (some b) (some t)).boundBy hblocks.clock
    (by simpa [SameElsewhere] using hblocks) ?_
  rw [if_neg fun h => hu h.1, State.alertNow, hblocks.clock]
  rfl

/-- An UNLISTED bay's retry. -/
theorem State.retryLearning_boundBy {u : State} {b : BayNo} (hu : (u.bay b).state = .unlisted) (t : Tag) (energy : Nat) :
    BoundBy u u (u.retryLearning b t energy) b t energy := by
  have hasked := u.bindBay_askedAt b t energy
  have hother := fun y => State.returned_other (u := u) (b := b) (by simp [hu]) (by simp [hu]) y
  rw [← hother (u.retryLearning b t energy)]
  have hblocks : SameElsewhere u (u.retryLearning b t energy) := by simp [SameElsewhere]
  unfold State.retryLearning at hblocks ⊢
  dsimp only at hblocks ⊢
  by_cases hr : (u.bindBay b t energy).1 = .refused
  · rw [if_pos hr] at hblocks ⊢
    exact hasked.boundBy rfl hblocks (if_pos ⟨hu, hr⟩).symm
  · rw [if_neg hr] at hblocks ⊢
    exact (hasked.raise _ _ _).boundBy rfl hblocks (if_neg fun h => hr h.2).symm

/-! ### Another tag than the bound one (R51) -/

/-- An exchange of vans: the release with UNPLUG and the mode cleared, at `v`; then learning. -/
theorem PairingLaw.exchangeVan_releases {u : State} (hs : PairingLaw u) (hn : (u.book.map Booking.tag).Nodup) {b : BayNo} {old : Tag}
    (hb : (u.bay b).boundTag = some old) (t : Tag) (energy : Nat) :
    ∃ v, u.exchangeVan b old t energy = v.plugIn b t energy ∧ SameElsewhere u v ∧ Raised u v (releaseAlerts u b) ∧
      v = { releasedFrom u b with
        bays := vput u.bays b { u.bay b with boundTag := none, agreedMode := none }, mirror := v.mirror } := by
  have hreleased := hs.released_of_some hn hb
  have hunplug := hreleased.unplug
  rw [hb] at hunplug
  refine ⟨_, rfl, by simp [SameElsewhere], hunplug.thenMarks ((MarksOnly.refl _).updBay _ _), ?_⟩
  generalize hv : ((u.releaseBay b old).raise (.unplug (u.bay b).state) (some b) (some old)).updBay b
    (fun bay => { bay with agreedMode := none }) = v
  have hbays : v.bays = vput u.bays b { u.bay b with boundTag := none, agreedMode := none } := vector_get_ext fun c => by
    rw [← State.bay, ← hv, State.updBay_bay, State.raise_bay, State.raise_bay, State.releaseBay_bay, State.releaseBay_bay,
      if_pos rfl, vput_get]
    split
    · rfl
    · rfl
  have hsame : SameElsewhere u v := by simp [SameElsewhere, ← hv]
  have heq := hsame.eq_with (ro := (releasedFrom u b).roster) (book := (releasedFrom u b).book)
    (by rw [← hv, ← hreleased.roster]; simp) (by rw [← hv, ← hreleased.book]; simp)
  rw [hbays] at heq
  exact heq

/-! ### The state step (R49 to R57) -/

/-- LOST, and FAULTED on ACCEPT, are left by the return step. -/
theorem State.stateStep_leaves {u : State} {b : BayNo} {r : Report} (hr : r.status ≠ .refuse)
    (h : (u.bay b).state = .lost ∨ ((u.bay b).state = .faulted ∧ r.status = .accept)) (x : Exchange) :
    u.stateStep b x r = u.returned b (u.stepReturn b r) := by
  obtain hl | ⟨hf, ha⟩ := h
  · rw [State.stateStep, hl, State.returned_lost hl]
    exact if_neg hr
  · rw [State.stateStep, hf, State.returned_faulted hf]
    exact (if_neg hr).trans (if_pos ha)

/-- No plug at a bay that had one is processed as an unplug. -/
theorem State.stateStep_noPlug {u : State} {b : BayNo} {r : Report} (hr : r.status ≠ .refuse) (hp : r.plug = none)
    (h : ((u.bay b).state = .agreeing ∨ (u.bay b).state = .plugged ∨ (u.bay b).state = .incompatible) ∨
      (u.bay b).state = .unlisted ∨ (u.bay b).state = .lost ∨ ((u.bay b).state = .faulted ∧ r.status = .accept)) (x : Exchange) :
    u.stateStep b x r = u.returned b (u.unplugBay b) := by
  obtain (h | h | h) | h | h := h
  · rw [State.stateStep, h, State.returned_other (by simp [h]) (by simp [h])]
    refine (if_neg hr).trans ?_
    rw [State.stepAgreeing, hp]
  · rw [State.stateStep, h, State.returned_other (by simp [h]) (by simp [h])]
    refine (if_neg hr).trans ?_
    rw [State.stepSettled, hp]
  · rw [State.stateStep, h, State.returned_other (by simp [h]) (by simp [h])]
    refine (if_neg hr).trans ?_
    rw [State.stepSettled, hp]
  · rw [State.stateStep, h, State.returned_other (by simp [h]) (by simp [h])]
    refine (if_neg hr).trans ?_
    rw [State.stepUnlisted, hp]
  · rw [State.stateStep_leaves hr h, State.stepReturn, hp]

/-- Another tag than the bound one is an exchange of vans. -/
theorem State.stateStep_otherTag {u : State} {b : BayNo} {r : Report} (hr : r.status ≠ .refuse) {tag held : Tag} {e : Nat}
    (hp : r.plug = some (tag, e)) (hb : (u.bay b).boundTag = some held) (hne : held ≠ tag)
    (h : ((u.bay b).state = .agreeing ∨ (u.bay b).state = .plugged ∨ (u.bay b).state = .incompatible) ∨
      (u.bay b).state = .lost ∨ ((u.bay b).state = .faulted ∧ r.status = .accept)) (x : Exchange) :
    u.stateStep b x r = u.returned b (u.exchangeVan b held tag e) := by
  obtain (h | h | h) | h := h
  · rw [State.stateStep, h, State.returned_other (by simp [h]) (by simp [h])]
    refine (if_neg hr).trans ?_
    rw [State.stepAgreeing, hp, hb]
    exact if_neg hne.symm
  · rw [State.stateStep, h, State.returned_other (by simp [h]) (by simp [h])]
    refine (if_neg hr).trans ?_
    rw [State.stepSettled, hp, hb]
    exact if_neg hne.symm
  · rw [State.stateStep, h, State.returned_other (by simp [h]) (by simp [h])]
    refine (if_neg hr).trans ?_
    rw [State.stepSettled, hp, hb]
    exact if_neg hne.symm
  · rw [State.stateStep_leaves hr h, State.stepReturn, hp, hb]
    exact congrArg _ (if_neg hne.symm)

/-- A tag at a bay without a binding is learned. -/
theorem State.stateStep_newTag {u : State} {b : BayNo} {r : Report} (hr : r.status ≠ .refuse) {tag : Tag} {e : Nat}
    (hp : r.plug = some (tag, e)) (hb : (u.bay b).boundTag = none)
    (h : (u.bay b).state = .empty ∨ (u.bay b).state = .dozing ∨ (u.bay b).state = .lost ∨
      ((u.bay b).state = .faulted ∧ r.status = .accept)) (x : Exchange) :
    u.stateStep b x r = u.returned b (u.plugIn b tag e) := by
  obtain h | h | h := h
  · rw [State.stateStep, h, State.returned_other (by simp [h]) (by simp [h])]
    refine (if_neg hr).trans ?_
    rw [State.stepEmpty, hp]
  · rw [State.stateStep, h, State.returned_other (by simp [h]) (by simp [h])]
    refine (if_neg hr).trans ?_
    rw [State.stepDozing, hp]
  · rw [State.stateStep_leaves hr h, State.stepReturn, hp, hb]

/-- An UNLISTED bay tries again, but for its own tag while another bay holds it. -/
theorem State.stateStep_retry {u : State} {b : BayNo} {r : Report} (hr : r.status ≠ .refuse) {tag : Tag} {e : Nat}
    (hp : r.plug = some (tag, e)) (hu : (u.bay b).state = .unlisted)
    (h : (u.bay b).unlistedTag ≠ some tag ∨ u.boundElsewhere tag b = false) (x : Exchange) :
    u.stateStep b x r = u.retryLearning b tag e := by
  rw [State.stateStep, hu]
  refine (if_neg hr).trans ?_
  rw [State.stepUnlisted, hp]
  refine if_neg fun hboth => ?_
  obtain ⟨helse, htag⟩ := Bool.and_eq_true_iff.1 hboth
  obtain h | h := h
  · exact h (by simpa using htag)
  · rw [h] at helse
    cases helse

/-- A tag whose entry is PARKED, or that has none, is bound nowhere. -/
theorem State.boundElsewhere_of_parked {u : State} {tag : Tag}
    (h : ∀ i e, u.roster.entries.get i = some e → e.tag = tag → e.bay = none) (b : BayNo) : u.boundElsewhere tag b = false := by
  have hbay : u.boundBay tag = none := by
    unfold State.boundBay State.rosterEntry
    cases hf : u.rosterFind tag with
    | none => rfl
    | some i =>
      obtain ⟨e, hi, ht⟩ := State.rosterFind_some hf
      simp [hi, h i e hi ht]
  rw [State.boundElsewhere, hbay]

/-! ### The whole arrival -/

/-- The energy of a report that does not name the tag held at arrival moves no booking. -/
theorem State.bookHandOver_other {y : State} {b : BayNo} {held : Option Tag} {r : Report}
    (h : ∀ t e, r.plug = some (t, e) → held ≠ some t) : y.bookHandOver b held r = y := by
  unfold State.bookHandOver
  split
  · next _ t e k hp => exact if_neg fun hk => h t e hp (by rw [hk.1])
  · rfl
  · rfl

/-- Only a PLUGGED bay's van gets a default booking. -/
theorem State.defaultBookingCheck_other {y : State} {b : BayNo} (h : (y.bay b).state ≠ .plugged) : y.defaultBookingCheck b = y := by
  unfold State.defaultBookingCheck
  split
  · next hp _ => exact (h hp).elim
  · rfl

/-- Behind a state step that leaves the bay other than PLUGGED, a report of another tag than the one held does no more. -/
theorem State.goodReport_of_step {s y : State} {b : BayNo} {x : Exchange} {r : Report}
    (hy : (s.reported b x r).stateStep b x r = y) (h : ∀ t e, r.plug = some (t, e) → ((s.reported b x r).bay b).boundTag ≠ some t)
    (hstate : (y.bay b).state ≠ .plugged) : s.goodReport b x r = y := by
  rw [State.reported_boundTag] at h
  rw [State.goodReport_eq, hy, State.bookHandOver_other h, State.defaultBookingCheck_other hstate]

/-- A bind request leaves the bay AGREEING or UNLISTED. -/
theorem bay_of_boundBy {u v t : State} {b : BayNo} {tag : Tag} {energy : Nat} (h : BoundBy u v t b tag energy) :
    (t.bay b).state ≠ .plugged := by
  obtain ⟨_, hbay, _⟩ := h
  rw [hbay]
  split <;> simp

/-- Settles O41: case by case of the state step, behind the first steps of the report. -/
theorem reportReleasesAndBinds : Obligations.ReportReleasesAndBinds := by
  intro s b x r hs hb ⟨_, hn, _⟩ hr
  dsimp only
  have hu : PairingLaw (s.reported b x r) := hs.reported b x r
  have hnu : ((s.reported b x r).book.map Booking.tag).Nodup := by rwa [State.reported_tags]
  have hentry := fun j => hs.reported_get b x r j
  have hidle := hb.reported_idle (b := b) (x := x) (r := r)
  have arrival := fun {y : State} => State.goodReport_of_step (s := s) (y := y) (b := b) (x := x) (r := r)
  generalize s.reported b x r = u at *
  have bound : ∀ {v y tag e}, u.stateStep b x r = y → r.plug = some (tag, e) → (u.bay b).boundTag ≠ some tag →
      BoundBy u v y b tag e → BoundBy u v (s.goodReport b x r) b tag e := fun hy hp hne h => by
    have hplug : ∀ t e, r.plug = some (t, e) → (u.bay b).boundTag ≠ some t := fun t e ht => by
      cases hp.symm.trans ht
      exact hne
    rwa [arrival hy hplug (bay_of_boundBy h)]
  refine ⟨fun hp h => ?_, fun tag e hp => ⟨fun held hheld hne h => ?_, fun hnone h => ?_, fun hunlisted h => ?_⟩⟩
  · obtain ⟨hroster, hbook, hbays, hraised⟩ := hu.unplugBay_unplugs hnu b
    have hbay := hbays b
    rw [if_pos rfl] at hbay
    have hsame : SameElsewhere u (u.unplugBay b) := by simp [SameElsewhere]
    have hreturned := hraised.returned (u := u) (b := b) rfl
    rw [hbay] at hreturned
    rw [arrival (State.stateStep_noPlug hr hp h x) (by simp [hp]) (by simp [hbay, BayRecord.unplugged])]
    refine ⟨(hsame.returned b).eq_with (by simpa using hroster) (by simpa using hbook), by rw [State.returned_bay, hbay]; rfl,
      fun c hc => ?_, hreturned.ring, hreturned.all⟩
    rw [State.returned_bay, hbays, if_neg hc]
  · obtain ⟨v, hv, hsame, hraised, heq⟩ := hu.exchangeVan_releases hnu hheld tag e
    have hnot : (u.bay b).state ≠ .unlisted := fun hunlisted => by simp [hunlisted] at h
    refine ⟨v, heq, hraised.ring, hraised.all, ?_⟩
    refine bound ?_ hp (by simp [hheld, hne]) (State.plugIn_boundBy hnot hsame tag e)
    rw [State.stateStep_otherTag hr hp hheld hne h, hv]
  · have hnot : (u.bay b).state ≠ .unlisted := fun hunlisted => by simp [hunlisted] at h
    exact bound (State.stateStep_newTag hr hp hnone h x) hp (by simp [hnone])
      (State.plugIn_boundBy hnot ⟨rfl, rfl, rfl, rfl, rfl, rfl, rfl, rfl, rfl, rfl⟩ tag e)
  · have helse : (u.bay b).unlistedTag ≠ some tag ∨ u.boundElsewhere tag b = false := by
      refine h.imp_right fun h => State.boundElsewhere_of_parked (fun i f hf ht => ?_) b
      rw [hentry] at hf
      obtain ⟨g, hg, rfl⟩ := Option.map_eq_some_iff.1 hf
      rw [RosterEntry.reportedBy_bay]
      exact h i g hg (by rwa [RosterEntry.reportedBy_tag] at ht)
    exact bound (State.stateStep_retry hr hp hunlisted helse x) hp (by simp [hidle (.inr (.inr hunlisted))])
      (State.retryLearning_boundBy hunlisted tag e)

end Sys2Proof.Machine
end

section
/-!
PROOF. The law of the book (R20, R21): where a booking is placed, that every operation but BOOK and the default booking leaves some
of the bookings at their tags, indices and departures, and that every step keeps the law.
-/

namespace Sys2Proof.Machine

open Sys2Proof

/-! ### A list of bookings -/

/-- The law of the book, of a list of bookings (R20, R21). -/
structure LawfulBook (book : List Booking) : Prop where
  room : book.length ≤ 160
  tags : (book.map Booking.tag).Nodup
  indices : (book.map Booking.index).Nodup
  order : book.Pairwise fun a b => a.departure.toNat ≤ b.departure.toNat

theorem bookLaw_iff (s : State) : BookLaw s ↔ LawfulBook s.book :=
  ⟨fun ⟨h1, h2, h3, h4⟩ => ⟨h1, h2, h3, h4⟩, fun ⟨h1, h2, h3, h4⟩ => ⟨h1, h2, h3, h4⟩⟩

/-- What the law of the book reads of a booking. -/
def Booking.key (k : Booking) : Tag × BookIx × Word := (k.tag, k.index, k.departure)

/-- Of a lawful book, any of the bookings in their order are one, whatever else of them has changed. -/
theorem LawfulBook.of_keys {old new : List Booking} (h : LawfulBook old)
    (hs : (new.map Booking.key).Sublist (old.map Booking.key)) : LawfulBook new where
  room := le_trans (by simpa using hs.length_le) h.room
  tags := by
    have := hs.map Prod.fst
    rw [List.map_map, List.map_map] at this
    exact h.tags.sublist this
  indices := by
    have := hs.map fun key => key.2.1
    rw [List.map_map, List.map_map] at this
    exact h.indices.sublist this
  order := by
    have horder : (old.map Booking.key).Pairwise fun a b => a.2.2.toNat ≤ b.2.2.toNat := List.pairwise_map.2 h.order
    have hnew := horder.sublist hs
    rwa [List.pairwise_map] at hnew

/-- Placing a booking puts it behind those of the same or an earlier departure, and before the others (R21). -/
theorem placeBooking_splits (b : Booking) : ∀ {book : List Booking},
    (book.Pairwise fun x y => x.departure.toNat ≤ y.departure.toNat) →
      ∃ before after, placeBooking b book = before ++ b :: after ∧ before ++ after = book ∧
        (∀ j ∈ before, j.departure.toNat ≤ b.departure.toNat) ∧ ∀ j ∈ after, b.departure.toNat < j.departure.toNat
  | [], _ => ⟨[], [], rfl, rfl, by simp, by simp⟩
  | x :: rest, h => by
    obtain ⟨hx, hrest⟩ := List.pairwise_cons.1 h
    unfold placeBooking
    split
    · next hlt =>
      refine ⟨[], x :: rest, rfl, rfl, by simp, fun j hj => ?_⟩
      obtain rfl | hj := List.mem_cons.1 hj
      · exact hlt
      · exact hlt.trans_le (hx j hj)
    · next hle =>
      obtain ⟨before, after, hplace, rfl, hbefore, hafter⟩ := placeBooking_splits b hrest
      exact ⟨x :: before, after, by rw [hplace]; rfl, rfl, List.forall_mem_cons.2 ⟨not_lt.1 hle, hbefore⟩, hafter⟩

/-- A lawful book with room takes a booking of another tag and another internal index. -/
theorem LawfulBook.place {book : List Booking} (h : LawfulBook book) {b : Booking} (hroom : book.length < 160)
    (htag : ∀ k ∈ book, k.tag ≠ b.tag) (hindex : ∀ k ∈ book, k.index ≠ b.index) : LawfulBook (placeBooking b book) where
  room := by rw [(placeBooking_perm b book).length_eq]; exact hroom
  tags := by
    rw [((placeBooking_perm b book).map _).nodup_iff, List.map_cons, List.nodup_cons]
    refine ⟨fun hm => ?_, h.tags⟩
    obtain ⟨k, hk, he⟩ := List.mem_map.1 hm
    exact htag k hk he
  indices := placeBooking_indices hindex h.indices
  order := by
    obtain ⟨before, after, hplace, rfl, hbefore, hafter⟩ := placeBooking_splits b h.order
    obtain ⟨hfront, hback, hcross⟩ := List.pairwise_append.1 h.order
    rw [hplace]
    refine List.pairwise_append.2 ⟨hfront, List.pairwise_cons.2 ⟨fun j hj => (hafter j hj).le, hback⟩, fun i hi j hj => ?_⟩
    obtain rfl | hj := List.mem_cons.1 hj
    · exact hbefore i hi
    · exact hcross i hi j hj

/-- A booking of the book without a tag. -/
theorem mem_withoutTag {t : Tag} {book : List Booking} {j : Booking} : j ∈ withoutTag t book ↔ j ∈ book ∧ j.tag ≠ t := by
  simp [withoutTag]

/-- The book without a tag that it does not hold. -/
theorem withoutTag_eq_self {t : Tag} {book : List Booking} (h : ∀ k ∈ book, k.tag ≠ t) : withoutTag t book = book :=
  List.filter_eq_self.2 fun k hk => by simpa using h k hk

/-- Of bookings with different tags, one is taken away with a tag that is held. -/
theorem withoutTag_length {book : List Booking} (hn : (book.map Booking.tag).Nodup) {k : Booking} (hk : k ∈ book) :
    (withoutTag k.tag book).length + 1 = book.length := by
  obtain ⟨front, rest, rfl⟩ := List.append_of_mem hk
  rw [List.map_append, List.map_cons, List.nodup_middle, List.nodup_cons, List.mem_append, not_or] at hn
  obtain ⟨⟨hfront, hrest⟩, _⟩ := hn
  have apart : ∀ l : List Booking, k.tag ∉ l.map Booking.tag → l.filter (fun b => b.tag != k.tag) = l := fun l hl =>
    withoutTag_eq_self fun j hj he => hl (he ▸ List.mem_map_of_mem hj)
  simp [withoutTag, apart front hfront, apart rest hrest]
  omega

/-- No booking but the one taken away stood at its internal index. -/
theorem withoutTag_index_free {book : List Booking} (hn : (book.map Booking.index).Nodup) {k : Booking} (hk : k ∈ book) :
    ∀ j ∈ withoutTag k.tag book, j.index ≠ k.index := fun j hj he => by
  obtain ⟨hj, hne⟩ := mem_withoutTag.1 hj
  exact hne (congrArg Booking.tag (List.inj_on_of_nodup_map hn hj hk he))

/-- The bookings that a book loses leave a lawful one. -/
theorem LawfulBook.dropTag {book : List Booking} (h : LawfulBook book) (t : Tag) : LawfulBook (withoutTag t book) :=
  h.of_keys (List.filter_sublist.map _)

/-! ### What leaves at most some of the bookings -/

/-- The bookings at `t` are some of those at `s`, in their order, each at its tag, index and departure. -/
def Thins (s t : State) : Prop := (t.book.map Booking.key).Sublist (s.book.map Booking.key)

theorem Thins.law {s t : State} (h : Thins s t) (hs : BookLaw s) : BookLaw t :=
  (bookLaw_iff t).2 (((bookLaw_iff s).1 hs).of_keys h)

namespace Thins

theorem refl (s : State) : Thins s s := List.Sublist.refl _

/-- An empty book is thin. -/
theorem of_empty {s t : State} (h : t.book = []) : Thins s t := by
  rw [Thins, h]
  exact List.nil_sublist _

variable {s x y : State} (h : Thins s x)

include h

/-- A change outside the book. -/
theorem next (hb : y.book = x.book) : Thins s y := by rwa [Thins, hb]

theorem setBook {book : List Booking} (hb : (book.map Booking.key).Sublist (x.book.map Booking.key)) : Thins s (x.setBook book) :=
  hb.trans h

theorem dropTag (t : Tag) : Thins s (x.setBook (withoutTag t x.book)) := h.setBook (List.filter_sublist.map _)

/-- A change of a tag's booking in its place. -/
theorem updBooking (t : Tag) {f : Booking → Booking} (hf : ∀ k, (f k).key = k.key) : Thins s (x.updBooking t f) :=
  h.setBook (by
    rw [List.map_map, List.map_congr_left fun k _ => show (Booking.key ∘ _) k = k.key from ?_]
    dsimp only [Function.comp_apply]
    split
    · exact hf k
    · rfl)

theorem moveBooking (t : Tag) (st : BookingState) : Thins s (x.moveBooking t st) := h.updBooking t fun _ => rfl

theorem raise (kind : AlertKind) (bay : Option BayNo) (tag : Option Tag) : Thins s (x.raise kind bay tag) := h.next (by simp)

theorem updBay (b : BayNo) (f : BayRecord → BayRecord) : Thins s (x.updBay b f) := h.next (by simp)

/-- A tag's booking has moved, with READY. -/
theorem moveReady (t : Tag) (st : BookingState) (kind : AlertKind) (b : BayNo) :
    Thins s ((x.moveBooking t st).raise kind (some b) (some t)) := (h.moveBooking t st).raise _ _ _

theorem bindClaim (t : Tag) (b : BayNo) (energy : Nat) : Thins s (x.bindClaim t b energy) := by
  unfold State.bindClaim
  split
  · exact h
  split
  · split
    · exact h.moveReady ..
    · exact h.moveBooking ..
  · split
    · exact h.moveReady ..
    · exact h
  · exact h
  · exact h

theorem energyClaim (t : Tag) (b : BayNo) (energy : Nat) : Thins s (x.energyClaim t b energy) := by
  unfold State.energyClaim
  split
  · exact h
  split
  · split
    · exact h.moveReady ..
    · exact h
  · split
    · exact h.moveReady ..
    · exact h
  · split
    · exact h.moveBooking ..
    · exact h
  · exact h

theorem judgeDeparture (t : Tag) (b : BayNo) (energy : Nat) : Thins s (x.judgeDeparture t b energy) := by
  unfold State.judgeDeparture
  split
  · exact h
  split
  · exact (h.dropTag t).raise _ _ _
  · exact h.moveBooking t _

theorem closingClaim (t : Tag) : Thins s (x.closingClaim t) := by
  unfold State.closingClaim
  split
  · exact h
  · exact h.moveBooking t _

theorem countDelta (held : Option Tag) (delta : Nat) : Thins s (x.countDelta held delta) := by
  have htotal : Thins s (x.addDeliveredTotal delta) := h.next rfl
  cases held with
  | none => exact htotal
  | some t => exact htotal.updBooking t fun _ => rfl

/-- The scan drops bookings and changes states. -/
theorem bookScan : Thins s x.bookScan := by
  refine List.Sublist.trans ?_ h
  rw [State.bookScan_book]
  generalize x.book = book
  induction book with
  | nil => exact .refl _
  | cons k book ih =>
    rw [List.filterMap_cons]
    unfold scannedAt
    split
    · exact ih.cons _
    · next k' hk =>
      have hkey : k'.key = k.key := by
        split at hk
        · cases hk
        split at hk <;> cases hk <;> rfl
      rw [List.map_cons, List.map_cons, hkey]
      exact ih.cons_cons _

/-! A good report up to its default booking (R45). -/

theorem bindRequest (t : Tag) (b : BayNo) (energy : Nat) : Thins s (x.bindRequest t b energy).2 := by
  have hbind : ∀ i, Thins s (x.bindAt i t b energy) := fun i => h.next (by simp)
  unfold State.bindRequest State.learn
  split
  · split
    · exact (hbind _).bindClaim _ _ _
    split
    · exact ((hbind _).raise _ _ _).bindClaim _ _ _
    · exact h.raise _ _ _
  split
  · split
    · exact hbind _
    · exact h.next (by simp)
  · exact (hbind _).bindClaim _ _ _

theorem plugIn (b : BayNo) (t : Tag) (energy : Nat) : Thins s (x.plugIn b t energy) :=
  (h.bindRequest t b energy).next (by simp [State.plugIn, State.bindBay])

theorem retryLearning (b : BayNo) (t : Tag) (energy : Nat) : Thins s (x.retryLearning b t energy) := by
  refine (h.bindRequest t b energy).next ?_
  unfold State.retryLearning
  dsimp only
  split <;> simp [State.bindBay]

theorem releaseBay (b : BayNo) (t : Tag) : Thins s (x.releaseBay b t) :=
  Thins.judgeDeparture (h.next (by simp)) t b _

theorem exchangeVan (b : BayNo) (old t : Tag) (energy : Nat) : Thins s (x.exchangeVan b old t energy) :=
  (((h.releaseBay b old).raise _ _ _).updBay _ _).plugIn _ _ _

theorem unplugBay (b : BayNo) : Thins s (x.unplugBay b) := by
  unfold State.unplugBay
  dsimp only
  split
  · exact (h.updBay _ _).raise _ _ _
  · exact ((h.releaseBay _ _).updBay _ _).raise _ _ _

theorem stepReturn (b : BayNo) (r : Report) : Thins s (x.stepReturn b r) := by
  unfold State.stepReturn
  split
  · exact h.unplugBay b
  · split
    · exact h.updBay b _
    · exact h.exchangeVan _ _ _ _
  · exact h.plugIn _ _ _

theorem stepSettled (b : BayNo) (r : Report) : Thins s (x.stepSettled b r) := by
  unfold State.stepSettled
  split
  · exact h.unplugBay b
  · split
    · exact h
    · exact h.exchangeVan _ _ _ _
  · exact h.plugIn _ _ _

theorem refuseStep (b : BayNo) : Thins s (x.refuseStep b) := h.next (by simp)

theorem stateStep (b : BayNo) (e : Exchange) (r : Report) : Thins s (x.stateStep b e r) := by
  unfold State.stateStep
  split
  case h_1 => exact h
  case h_2 => exact h.next (by simp)
  all_goals split
  any_goals exact h.refuseStep b
  · unfold State.stepEmpty
    split
    · exact h.plugIn _ _ _
    · exact h.updBay _ _
  · unfold State.stepDozing
    split
    · exact h.plugIn _ _ _
    · exact h
  · unfold State.stepAgreeing
    split
    · exact h.unplugBay b
    · split
      · exact h.next (by simp)
      · exact h.exchangeVan _ _ _ _
    · exact h.plugIn _ _ _
  · exact h.stepSettled b r
  · exact h.stepSettled b r
  · unfold State.stepUnlisted
    split
    · exact h.unplugBay b
    split
    · exact h
    · exact h.retryLearning _ _ _
  · unfold State.stepFaulted
    split
    · exact (h.stepReturn b r).next (by simp)
    · exact h
  · exact (h.stepReturn b r).next (by simp [State.stepLost])

theorem reported (b : BayNo) (e : Exchange) (r : Report) : Thins s (x.reported b e r) := by
  have hbase : ∀ m, Thins s ((x.linkUpdate b e r).updBay b fun bay => { bay with meterBaseline := some m }) := fun m =>
    h.next (by simp)
  refine Thins.next (x := (x.linkUpdate b e r).meterAccount b (x.bay b).boundTag r.meter) ?_ (State.handOver_keeps ..).1
  rw [State.meterAccount_eq]
  split
  · exact hbase _
  · exact (hbase _).countDelta _ _

theorem bookHandOver (b : BayNo) (held : Option Tag) (r : Report) : Thins s (x.bookHandOver b held r) := by
  unfold State.bookHandOver
  split
  · split
    · exact h.energyClaim _ _ _
    · exact h
  · exact h
  · exact h

end Thins

/-! ### What adds a booking (R22, R34) -/

/-- A default booking is made where there is room, at a free index, for a tag without one. -/
theorem BookLaw.defaultCheck {s : State} (hs : BookLaw s) (t : Tag) : BookLaw (s.defaultCheck t) := by
  unfold State.defaultCheck
  split
  · next hw =>
    simp only [State.wantsDefault, Bool.and_eq_true, Bool.not_eq_true', decide_eq_true_eq] at hw
    obtain ⟨⟨⟨⟨hbooked, _⟩, _⟩, hroom⟩, _⟩ := hw
    split
    · exact hs
    · next hi =>
      exact (bookLaw_iff _).2 (((bookLaw_iff s).1 hs).place hroom (State.isBooked_eq_false.1 hbooked) (freeBookIx_free hi))
  · exact hs

theorem BookLaw.goodReport {s : State} (hs : BookLaw s) (b : BayNo) (x : Exchange) (r : Report) :
    BookLaw (s.goodReport b x r) := by
  rw [State.goodReport_eq]
  have hclaimed := ((((Thins.refl s).reported b x r).stateStep b x r).bookHandOver b (s.bay b).boundTag r).law hs
  unfold State.defaultBookingCheck
  split
  · exact hclaimed.defaultCheck _
  · exact hclaimed

/-- Where BOOK passes its checks there is room for a new tag. -/
theorem State.bookCheck_room {s : State} {r : Request} (h : s.bookCheck r = none) (hb : s.booking r.vanTag = none) :
    s.book.length < 160 := by
  unfold State.bookCheck at h
  (repeat' split at h) <;> try cases h
  next hfull =>
    by_contra hlen
    exact hfull ⟨not_lt.1 hlen, by simp [State.isBooked, hb]⟩

theorem BookLaw.answerBook {s : State} (hs : BookLaw s) (r : Request) : BookLaw (s.answerBook r).state := by
  have hbook := (bookLaw_iff s).1 hs
  unfold State.answerBook
  split
  · exact hs
  next hcheck =>
  unfold State.takeBook
  split
  · next old hold =>
    obtain ⟨hmem, htag⟩ := State.booking_some hold
    rw [← htag]
    have hlength := withoutTag_length hbook.tags hmem
    have hroom := hbook.room
    exact (bookLaw_iff _).2 ((hbook.dropTag old.tag).place (by omega)
      (fun k hk => by rw [State.bookingFor, ← htag]; exact (mem_withoutTag.1 hk).2) (withoutTag_index_free hbook.indices hmem))
  · next hnone =>
    split
    · exact hs
    · next hi =>
      exact (bookLaw_iff _).2
        (hbook.place (State.bookCheck_room hcheck hnone) (State.booking_none.1 hnone) (freeBookIx_free hi))

/-! ### Every command -/

/-- The commands that may add a booking. -/
def mayAddBooking : Instr → Bool
  | .reportComplete _ | .responseWindowExpiry _ | .book => true
  | _ => false

theorem Thins.answerRequest {s : State} {is : Request → Bool} {owner : Request → State → Answer}
    (ho : ∀ req, Thins s (owner req s.dequeue).state) : Thins s (s.answerRequest is owner) :=
  State.answerRequest_of (P := Thins s) (.refl s) ho fun _ _ _ _ hx => hx.next (by simp)

theorem Thins.answerSetBay {s x : State} (h : Thins s x) (r : Request) {action : State → BayNo → State}
    (ha : ∀ b, Thins s (action x b)) : Thins s (x.answerSetBay r action).state := by
  unfold State.answerSetBay
  split
  · exact h
  split
  · exact h
  · exact ha _

/-- Closing a bay moves the booking of the tag that it releases (R29). -/
theorem Thins.disableBay {s x : State} (h : Thins s x) (b : BayNo) : Thins s (x.disableBay b) := by
  have hrelease : Thins s (x.releaseForClosing b) := by
    unfold State.releaseForClosing
    split
    · exact h
    · exact Thins.closingClaim (h.next (by simp)) _
  unfold State.disableBay
  split
  · exact h
  · exact h
  all_goals exact hrelease.updBay _ _

theorem State.hostAccess_book {s t : State} {write : Bool} {addr : Addr} {data : Word} {enables : BitVec 4}
    (h : s.hostAccess write addr data enables = .next t) : t.book = s.book := by
  unfold State.hostAccess at h
  split at h
  · cases h
  split at h
  · cases h
  · cases h
    simp

/-- The end of an exchange reaches the book through a good report alone. -/
theorem BookLaw.endExchange {s : State} (hs : BookLaw s) (l : LaneNo) (x : Exchange) (r : Receiver) :
    BookLaw (s.endExchange l x r) := by
  have hhanded : BookLaw (s.handOutcome l x (judgeExchange x r)) := by
    unfold State.handOutcome
    split
    · exact ((Thins.refl s).next (by simp)).law hs
    · split
      · exact hs.goodReport _ _ _
      · exact ((Thins.refl s).next (by simp)).law hs
  exact ((Thins.refl _).next (by simp [State.endExchange])).law hhanded

/-- A power-on and the RESET line empty the book. -/
theorem State.startUp_book (s : State) (straps : Straps) (level : Level) (offsets : Option Offsets) (g : Generations) :
    (s.startUp straps level offsets g).book = [] := by
  obtain ⟨_, hbook, _⟩ := s.startUp_isReset straps level offsets g
  exact hbook

/-- Every other command leaves some of the bookings. -/
theorem exec_thins {i : Instr} {s t : State} (h : exec i s = .next t) (hi : mayAddBooking i = false) : Thins s t := by
  have hs := Thins.refl s
  have hd : Thins s s.dequeue := hs.next rfl
  cases i with
  | reportComplete _ | responseWindowExpiry _ | book => cases hi
  | powerOn straps level => cases h; exact .of_empty (s.startUp_book ..)
  | resetLine straps level => cases h; exact .of_empty (s.startUp_book ..)
  | restart => cases h; exact .answerRequest fun _ => .of_empty (by simp)
  | hostAccess _ _ _ _ | planWordWrite _ _ _ _ | heartbeatWrite _ _ | alertConsumerIndexWrite _ _ | triggerWrite _ _ _
    | mirrorWriteStopped _ _ _ | fencedRead _ => exact hs.next (State.hostAccess_book h)
  | tick =>
    cases h
    split
    · have hclock : Thins s s.draw.clockTick := hs.next (by simp)
      exact hclock.bookScan.next (by simp [State.tickIn, (s.draw.clockTick.blocksTick_scans _).1])
    · exact hs
  | cancel =>
    cases h
    refine .answerRequest fun r => ?_
    unfold State.answerCancel
    split
    · exact hd.dropTag _
    · exact hd
  | forget =>
    cases h
    refine .answerRequest fun r => ?_
    unfold State.answerForget
    (repeat' split) <;> exact hd.next (by simp)
  | setClock => cases h; exact .answerRequest fun r => hd.next (by simp [State.answerSetClock])
  | setBayDisable => cases h; exact .answerRequest fun r => hd.answerSetBay r hd.disableBay
  | setBayEnable | setBaySetCap | setBaySetPermittedModes =>
    cases h
    exact .answerRequest fun r => hd.answerSetBay r fun b => hd.next (by simp)
  | setLimits =>
    cases h
    refine .answerRequest fun r => ?_
    unfold State.answerSetLimits
    (repeat' split) <;> exact hd.next rfl
  | calibrate =>
    cases h
    exact hs.next (State.takeRequest_keeps State.book s _ _ rfl fun n r => by simp)
  | unknownRequest => cases h; exact .answerRequest fun _ => hd
  | _ =>
    cases h
    (repeat' split) <;> exact hs.next (by simp)

/-- Every command keeps the law of the book. -/
theorem exec_bookLaw {i : Instr} {s t : State} (hs : BookLaw s) (h : exec i s = .next t) : BookLaw t := by
  cases hi : mayAddBooking i
  · exact (exec_thins h hi).law hs
  cases i with
  | reportComplete l =>
    cases h
    split
    · split
      · exact hs.endExchange _ _ _
      · exact hs
    · exact hs
  | responseWindowExpiry l =>
    cases h
    split
    · exact hs.endExchange _ _ _
    · exact hs
  | book =>
    cases h
    have hd : BookLaw s.dequeue := hs
    exact State.answerRequest_of (P := BookLaw) hs (fun r => hd.answerBook r) fun x _ _ _ hx =>
      ((Thins.refl x).next (by simp)).law hx
  | _ => cases hi

/-- Settles O52: command by command, from what thins the book and what adds a booking. -/
theorem stepsKeepTheBookOrdered : Obligations.StepsKeepTheBookOrdered := by
  intro s t hs hstep
  unfold step at hstep
  split at hstep
  · cases hstep
    exact hs
  · next c rest _ => exact exec_bookLaw (s := { s with pending := rest }) hs hstep

end Sys2Proof.Machine
end

section
/-!
PROOF. The requests of the Book and the Roster: BOOK with its checks and its place, CANCEL and FORGET by tag (R16, R22 to R25, R40).
-/

namespace Sys2Proof.Machine

open Sys2Proof

/-! ### An answer of the Book or the Roster -/

/-- An owner's answer has marked records, and has changed nothing outside roster and book. -/
structure PlanAnswer (s a : State) : Prop where
  marks : MarksOnly s a
  blocks : SameElsewhere s a
  bays : a.bays = s.bays

theorem PlanAnswer.refl (s : State) : PlanAnswer s s := ⟨.refl s, by simp [SameElsewhere], rfl⟩

theorem PlanAnswer.setBook (s : State) (book : List Booking) : PlanAnswer s (s.setBook book) :=
  ⟨(MarksOnly.refl s).setBook book, by simp [SameElsewhere], by simp⟩

theorem PlanAnswer.mark {s a : State} (h : PlanAnswer s a) (r : RecordId) : PlanAnswer s (a.mark r) :=
  ⟨h.marks.mark r, h.blocks, h.bays⟩

theorem PlanAnswer.setRoster (s : State) (i : RosterIx) (e : Option RosterEntry) : PlanAnswer s (s.setRoster i e) :=
  ⟨(MarksOnly.refl s).setRoster i e, by simp [SameElsewhere], by simp⟩

theorem PlanAnswer.takeBook (s : State) (r : Request) : PlanAnswer s (s.takeBook r).state := by
  unfold State.takeBook
  split
  · exact (PlanAnswer.setBook s _).mark _
  · split
    · exact .refl s
    · exact .setBook s _

theorem PlanAnswer.answerBook (s : State) (r : Request) : PlanAnswer s (s.answerBook r).state := by
  unfold State.answerBook
  split
  · exact .refl s
  · exact .takeBook s r

theorem PlanAnswer.answerCancel (s : State) (r : Request) : PlanAnswer s (s.answerCancel r).state := by
  unfold State.answerCancel
  split
  · exact .setBook s _
  · exact .refl s

theorem PlanAnswer.answerForget (s : State) (r : Request) : PlanAnswer s (s.answerForget r).state := by
  unfold State.answerForget
  split
  · exact .refl s
  split
  · exact .refl s
  · exact .setRoster s _ _

theorem PlanAnswer.backlog {s a : State} (h : PlanAnswer s a) : a.mirror.backlog = s.mirror.backlog := by
  have hm := h.marks.only
  unfold OnlyDirty at hm
  rw [hm]

/-- What is dirty stays so as a result is stored. -/
theorem State.storeResult_dirty {a : State} {r : RecordId} (h : a.mirror.dirty.has r = true) (n : SlotNo) (code : ResultCode)
    (detail : Nat) : (a.storeResult n code detail).mirror.dirty.has r = true := by
  unfold State.storeResult
  split
  · exact h
  · simpa [State.mark, DirtySet.has_mark] using .inl h

/-- Two states with a given roster and book that agree outside them, Plan Intake, the Path Unit and the Mirror Writer. -/
theorem State.eq_of_stored {s t : State} {ro : VanRoster} {book : List Booking} (hr : t.roster = ro) (hb : t.book = book)
    (h : t.bays = s.bays ∧ t.lanes = s.lanes ∧ t.meter = s.meter ∧ t.allocator = s.allocator ∧ t.clock = s.clock ∧
      t.config = s.config ∧ t.memory = s.memory ∧ t.draws = s.draws ∧ t.pending = s.pending) :
    t = { s with roster := ro, book := book, intake := t.intake, mirror := t.mirror, path := t.path } := by
  obtain ⟨hbays, h2, h3, h4, h5, h6, h7, h8, h9⟩ := h
  have heq := SameElsewhere.eq (s := { s with intake := t.intake, path := t.path }) (t := t) ⟨h2, h3, h4, h5, rfl, rfl, h6, h7, h8, h9⟩
  rwa [hr, hb, hbays] at heq

section

variable {s : State} {n : SlotNo} {req : Request} {rest : List SlotNo} {a : Answer} (hq : PlanAnswer s.dequeue a.state)

include hq

/-- The answer is stored in the slot of its request. -/
theorem PlanAnswer.answered (h : Requested s n req rest) : Answered s (a.store n) n req rest a.code a.detail := by
  obtain ⟨_, _, _, _, hpath, hintake, _⟩ := hq.blocks
  exact State.storeResult_answered h hintake hpath hq.backlog _ _

/-- The part behind the answer, outside Plan Intake, the Path Unit and the Mirror Writer. -/
theorem PlanAnswer.stored_eq {ro : VanRoster} {book : List Booking} (hr : a.state.roster = ro) (hb : a.state.book = book) :
    a.store n = { s with
      roster := ro, book := book, intake := (a.store n).intake, mirror := (a.store n).mirror, path := (a.store n).path } := by
  obtain ⟨h1, h2, h3, h4, _, _, h5, h6, h7, h8⟩ := hq.blocks
  refine State.eq_of_stored ?_ ?_ ?_ <;> simp only [Answer.store, State.storeResult_keeps]
  · exact hr
  · exact hb
  · exact ⟨hq.bays, h1, h2, h3, h4, h5, h6, h7, h8⟩

/-- The Mirror Writer behind the answer. -/
theorem PlanAnswer.stored_mirror :
    (a.store n).mirror =
      { s.mirror with dirty := (a.store n).mirror.dirty, backlog := (a.store n).mirror.backlog } := by
  have hm : a.state.mirror = { s.mirror with dirty := a.state.mirror.dirty } := hq.marks.only
  unfold Answer.store State.storeResult
  split
  · rw [hm]
  · simp only [State.mark, State.setSlot_keeps]
    rw [hm]

end

/-! ### The lowest free index of the book (R20) -/

/-- A lower internal index than the lowest free one holds a booking. -/
theorem freeBookIx_lowest {book : List Booking} {i j : BookIx} (h : freeBookIx book = some i) (hj : j < i) :
    ∃ k ∈ book, k.index = j := by
  obtain ⟨_, m, hm, hget, hlower⟩ := List.find?_eq_some_iff_getElem.1 h
  have hmi : m = i.val := by simpa using congrArg Fin.val hget
  have hheld := hlower j.val (hmi ▸ Fin.lt_def.1 hj)
  simpa [List.all_eq_true] using hheld

/-- A book with room has a free internal index. -/
theorem freeBookIx_of_room {book : List Booking} (h : book.length < 160) : ∃ i, freeBookIx book = some i := by
  by_contra hnone
  have hheld : ∀ i : BookIx, i ∈ book.map Booking.index := fun i => by
    have hall := List.find?_eq_none.1 (Option.eq_none_iff_forall_ne_some.2 fun i hi => hnone ⟨i, hi⟩) i (List.mem_finRange i)
    simpa [List.all_eq_true] using hall
  have hcount := (List.nodup_finRange 160).length_le_of_subset (l₂ := book.map Booking.index) fun i _ => hheld i
  rw [List.length_finRange, List.length_map] at hcount
  omega

/-! ### Records that a change of the book marks (R40) -/

/-- A record that comes to show another booking or rank is dirty. -/
theorem State.setBook_marks_record {s : State} {book : List Booking} {i : BookIx} (h : bookView book 1 i ≠ bookView s.book 1 i) :
    (s.setBook book).mirror.dirty.has (.booking i) = true := by
  simp [State.setBook, DirtySet.has, h]

/-- A change of the count marks the header. -/
theorem State.setBook_marks_header {s : State} {book : List Booking} (h : book.length ≠ s.book.length) :
    (s.setBook book).mirror.dirty.has .header = true := by
  simp [State.setBook, DirtySet.has, h]

/-- The booking of a lawful book is shown at its index. -/
theorem LawfulBook.bookView_ne_none {book : List Booking} (h : LawfulBook book) {k : Booking} (hk : k ∈ book) :
    bookView book 1 k.index ≠ none := by
  obtain ⟨front, rest, rfl⟩ := List.append_of_mem hk
  rw [bookView_append h.indices]
  exact nofun

/-! ### BOOK (R22 to R24) -/

/-- The checks of R22, as O46 lists them. -/
theorem State.bookCheck_eq (s : State) (req : Request) : s.bookCheck req = bookRefusal s req req.vanTag := by
  have hbooked : (!s.isBooked req.vanTag) = true ↔ ¬∃ k ∈ s.book, k.tag = req.vanTag := by
    simpa using State.isBooked_eq_false (s := s) (t := req.vanTag)
  unfold State.bookCheck bookRefusal Request.word Request.preconditionFlag
  refine if_congr (by simp) rfl (if_congr Iff.rfl rfl (if_congr ?_ rfl (if_congr Iff.rfl rfl (if_congr Iff.rfl rfl ?_))))
  · rw [Nat.lt_one_iff]
  · refine if_congr ?_ rfl rfl
    rw [hbooked, not_or, not_lt]

/-- A booking has been made for the request at an internal index, with a delivered figure to start from. -/
structure BookTaken (s : State) (r : Request) (i : BookIx) (delivered : Nat) : Prop where
  book : (s.takeBook r).state.book = placeBooking (s.bookingFor r i delivered) (withoutTag r.vanTag s.book)
  code : (s.takeBook r).code = .done
  detail : (s.takeBook r).detail = bookDetail (s.takeBook r).state.book i
  record : (s.takeBook r).state.mirror.dirty.has (.booking i) = true
  replaced : ∀ old, s.booking r.vanTag = some old → i = old.index ∧ delivered = old.delivered
  fresh : s.booking r.vanTag = none →
    delivered = 0 ∧ freeBookIx s.book = some i ∧ (s.takeBook r).state.mirror.dirty.has .header = true

/-- BOOK of a tag without a booking takes the lowest free index (R23). -/
theorem State.takeBook_new {s : State} {r : Request} (hs : LawfulBook s.book) (h : s.booking r.vanTag = none) {i : BookIx}
    (hi : freeBookIx s.book = some i) : BookTaken s r i 0 := by
  have htake : s.takeBook r =
      { state := s.setBook (placeBooking (s.bookingFor r i 0) s.book), code := .done
        detail := bookDetail (placeBooking (s.bookingFor r i 0) s.book) i } := by
    rw [State.takeBook, h]
    dsimp only
    rw [hi]
  have hunbooked := State.booking_none.1 h
  refine ⟨?_, by rw [htake], by rw [htake]; rfl, ?_, by rw [h]; exact nofun, fun _ => ⟨rfl, hi, ?_⟩⟩
  · rw [htake, withoutTag_eq_self hunbooked]
    rfl
  · obtain ⟨before, after, hplace, _⟩ := placeBooking_splits (s.bookingFor r i 0) hs.order
    have hindices := placeBooking_indices (b := s.bookingFor r i 0) (freeBookIx_free hi) hs.indices
    have hview := bookView_append (rank := 1) (hplace ▸ hindices)
    rw [htake]
    refine State.setBook_marks_record fun hsame => ?_
    rw [hplace] at hsame
    cases hview.symm.trans (hsame.trans (bookView_none (freeBookIx_free hi)))
  · rw [htake]
    refine State.setBook_marks_header ?_
    rw [(placeBooking_perm _ _).length_eq, List.length_cons]
    omega

/-- BOOK of a booked tag keeps the internal index and the delivered figure (R24). -/
theorem State.takeBook_replaced {s : State} {r : Request} {old : Booking} (h : s.booking r.vanTag = some old) :
    BookTaken s r old.index old.delivered := by
  have htake : s.takeBook r =
      { state := (s.setBook (placeBooking (s.bookingFor r old.index old.delivered) (withoutTag r.vanTag s.book))).mark (.booking old.index)
        code := .done
        detail := bookDetail (placeBooking (s.bookingFor r old.index old.delivered) (withoutTag r.vanTag s.book)) old.index } := by
    rw [State.takeBook, h]
  refine ⟨by rw [htake]; rfl, by rw [htake], by rw [htake]; rfl, ?_, fun k hk => ?_, fun hnone => ?_⟩
  · rw [htake]
    simp [State.mark, DirtySet.has_mark]
  · cases h.symm.trans hk
    exact ⟨rfl, rfl⟩
  · cases h.symm.trans hnone

/-- BOOK that passes its checks makes a booking. -/
theorem State.takeBook_taken {s : State} {r : Request} (hs : LawfulBook s.book) (h : s.bookCheck r = none) :
    ∃ i delivered, BookTaken s r i delivered := by
  cases hb : s.booking r.vanTag with
  | none =>
    obtain ⟨i, hi⟩ := freeBookIx_of_room (State.bookCheck_room h hb)
    exact ⟨i, 0, State.takeBook_new hs hb hi⟩
  | some old => exact ⟨old.index, old.delivered, State.takeBook_replaced hb⟩

/-- The detail of BOOK DONE holds index and rank. -/
theorem bookDetail_append {before after : List Booking} {k : Booking} (h : LawfulBook (before ++ k :: after)) :
    bookDetail (before ++ k :: after) k.index = k.index.val + 256 * (before.length + 1) := by
  have hroom := h.room
  rw [List.length_append, List.length_cons] at hroom
  have hrank : rankIn (before ++ k :: after) k.index = 1 + before.length := by
    rw [rankIn, bookView_append h.indices]
    rfl
  rw [bookDetail, hrank, field, field]
  omega

/-- The state of a booking newly taken for a BOUND tag (R23). -/
theorem State.freshBookingState_bound {s : State} {t : Tag} {e : RosterEntry} (h : s.rosterEntry t = some e) (hb : e.bay.isSome = true)
    (target : Nat) : s.freshBookingState t target = if target ≤ e.lastEnergy then .ready else .charging := by
  rw [State.freshBookingState, h]
  exact if_neg (by simpa [Option.isSome_iff_ne_none] using hb)

/-- The state of a booking newly taken for a tag that no bay holds (R23). -/
theorem State.freshBookingState_unbound {s : State} {t : Tag} (h : ∀ e, s.rosterEntry t = some e → e.bay = none) (target : Nat) :
    s.freshBookingState t target = .waiting := by
  unfold State.freshBookingState
  split
  · rfl
  · next e he => exact if_pos (by simp [h e he])

/-- A requested BOOK is answered by the Book. -/
theorem Requested.book {s : State} {n : SlotNo} {req : Request} {rest : List SlotNo} (h : Requested s n req rest)
    (hcode : req.code = 0x01) : exec .book s = .next ((s.dequeue.answerBook req).store n) := by
  refine congrArg Host.Outcome.next ?_
  rw [State.answerRequest, h.takeRequest _ (by simp [hcode])]

/-- Settles O46: the checks in their order, then the booking that BOOK takes, at the place that its departure gives it. -/
theorem bookIsCheckedAndPlaced : Obligations.BookIsCheckedAndPlaced := by
  intro s n req rest h hcode hlaw
  have hs : LawfulBook s.book := (bookLaw_iff s).1 hlaw
  have hq := PlanAnswer.answerBook s.dequeue req
  have hanswered := hq.answered h
  have hcheck : s.dequeue.bookCheck req = bookRefusal s req req.vanTag := s.bookCheck_eq req
  have hbook : ((s.dequeue.answerBook req).store n).book = (s.dequeue.answerBook req).state.book := by simp [Answer.store]
  have hroster : (s.dequeue.answerBook req).state.roster = s.roster := by
    unfold State.answerBook State.takeBook
    (repeat' split) <;> simp
  refine ⟨_, h.book hcode, hq.stored_eq hroster hbook.symm, hq.stored_mirror, fun code detail hrefused => ?_, fun hpassed => ?_⟩
  · have hanswer : s.dequeue.answerBook req = { state := s.dequeue, code := code, detail := detail } := by
      rw [State.answerBook, hcheck.trans hrefused]
    rw [hanswer] at hanswered hbook ⊢
    exact ⟨hanswered, hbook⟩
  · have hpass := hcheck.trans hpassed
    have hanswer : s.dequeue.answerBook req = s.dequeue.takeBook req := by rw [State.answerBook, hpass]
    have hnew : LawfulBook (s.dequeue.takeBook req).state.book := by
      have hd : BookLaw s.dequeue := hlaw
      exact hanswer ▸ (bookLaw_iff _).1 (hd.answerBook req)
    obtain ⟨i, delivered, ht⟩ := State.takeBook_taken (s := s.dequeue) hs hpass
    have hwithout : LawfulBook (withoutTag req.vanTag s.book) := hs.dropTag _
    obtain ⟨before, after, hplace, hrest, hbefore, hafter⟩ :=
      placeBooking_splits (s.dequeue.bookingFor req i delivered) hwithout.order
    have hsplit := ht.book.trans hplace
    have hdetail : (s.dequeue.takeBook req).detail = i.val + 256 * (before.length + 1) := by
      rw [ht.detail, hsplit]
      exact bookDetail_append (k := s.dequeue.bookingFor req i delivered) (hsplit ▸ hnew)
    rw [hanswer] at hanswered hbook ⊢
    rw [ht.code, hdetail] at hanswered
    refine ⟨s.dequeue.bookingFor req i delivered, before, after, hbook.trans hsplit, hrest, hbefore, hafter, hanswered, rfl, rfl, rfl, rfl,
      rfl, fun e he hbound => State.freshBookingState_bound (s := s.dequeue) he hbound _, fun hunbound => ?_, ht.replaced,
      State.storeResult_dirty ht.record _ _ _, fun hnone => ?_⟩
    · refine State.freshBookingState_unbound (s := s.dequeue) (fun e he => ?_) _
      obtain hnone | ⟨e', he', hbay⟩ := hunbound
      · cases hnone.symm.trans he
      · cases he'.symm.trans he
        exact hbay
    · obtain ⟨hdelivered, hfree, hheader⟩ := ht.fresh hnone
      exact ⟨hdelivered, freeBookIx_free hfree, State.storeResult_dirty hheader _ _ _, fun j hj => freeBookIx_lowest hfree hj⟩

/-! ### CANCEL (R25) -/

/-- A requested CANCEL is answered by the Book. -/
theorem Requested.cancel {s : State} {n : SlotNo} {req : Request} {rest : List SlotNo} (h : Requested s n req rest)
    (hcode : req.code = 0x02) : exec .cancel s = .next ((s.dequeue.answerCancel req).store n) := by
  refine congrArg Host.Outcome.next ?_
  rw [State.answerRequest, h.takeRequest _ (by simp [hcode])]

/-- CANCEL of a booked tag. -/
theorem State.answerCancel_booked {s : State} {r : Request} (hs : LawfulBook s.book) {k : Booking} (hk : k ∈ s.book)
    (ht : k.tag = r.vanTag) :
    s.answerCancel r = { state := s.setBook (withoutTag r.vanTag s.book), code := .done, detail := k.index.val } := by
  cases hb : s.booking r.vanTag with
  | none => exact (State.booking_none.1 hb k hk ht).elim
  | some j =>
    have hkj : k = j := State.eq_booking hs.tags hb hk ht
    rw [State.answerCancel, hb, hkj]

/-- CANCEL of a tag without a booking. -/
theorem State.answerCancel_unbooked {s : State} {r : Request} (h : ∀ k ∈ s.book, k.tag ≠ r.vanTag) :
    s.answerCancel r = { state := s, code := .notFound, detail := 0 } := by
  rw [State.answerCancel, State.booking_none.2 h]

/-! ### FORGET (R16) -/

/-- A requested FORGET is answered by the Roster. -/
theorem Requested.forget {s : State} {n : SlotNo} {req : Request} {rest : List SlotNo} (h : Requested s n req rest)
    (hcode : req.code = 0x03) : exec .forget s = .next ((s.dequeue.answerForget req).store n) := by
  refine congrArg Host.Outcome.next ?_
  rw [State.answerRequest, h.takeRequest _ (by simp [hcode])]

/-- FORGET of a PARKED tag. -/
theorem PairingLaw.answerForget_parked {s : State} (hs : PairingLaw s) {r : Request} {i : RosterIx} {e : RosterEntry}
    (hi : s.roster.entries.get i = some e) (ht : e.tag = r.vanTag) (hb : e.bay = none) :
    s.answerForget r = { state := s.setRoster i none, code := .done, detail := i.val } := by
  have hfind := hs.rosterFind hi
  rw [ht] at hfind
  rw [State.answerForget, hfind]
  simp [hi, hb]

/-- FORGET of a BOUND tag. -/
theorem PairingLaw.answerForget_bound {s : State} (hs : PairingLaw s) {r : Request} {i : RosterIx} {e : RosterEntry}
    (hi : s.roster.entries.get i = some e) (ht : e.tag = r.vanTag) {b : BayNo} (hb : e.bay = some b) :
    s.answerForget r = { state := s, code := .inUse, detail := b.val } := by
  have hfind := hs.rosterFind hi
  rw [ht] at hfind
  rw [State.answerForget, hfind]
  simp [hi, hb]

/-- FORGET of an unknown tag. -/
theorem State.answerForget_unknown {s : State} {r : Request} (h : ∀ i e, s.roster.entries.get i = some e → e.tag ≠ r.vanTag) :
    s.answerForget r = { state := s, code := .notFound, detail := 0 } := by
  rw [State.answerForget, State.rosterFind_none.2 h]

/-- An index that is freed lowers the roster count by one. -/
theorem countP_vput_none {v : Vector (Option RosterEntry) 128} {i : RosterIx} (h : (v.get i).isSome = true) :
    (vput v i none).toList.countP Option.isSome + 1 = v.toList.countP Option.isSome := by
  have hi : i.val < v.toList.length := by simp
  have hget : v.toList[i.val] = v.get i := by simp [vector_get_eq]
  have hpos : 0 < v.toList.countP Option.isSome :=
    List.countP_pos_iff.2 ⟨v.get i, by rw [← hget]; exact List.getElem_mem hi, h⟩
  rw [vput, Vector.toList_set, List.countP_set hi, hget, if_pos h, if_neg (by simp)]
  exact Nat.sub_add_cancel hpos

/-- A free index is stored where an entry stood: its record and the header are dirty. -/
theorem State.setRoster_none {s : State} {i : RosterIx} {e : RosterEntry} (h : s.roster.entries.get i = some e) :
    s.setRoster i none =
      (State.mark { s with roster := { s.roster with entries := vput s.roster.entries i none } } (.roster i)).mark .header := by
  simp [State.setRoster, h]

/-- Behind a CANCEL that found a booking: its record and the header are dirty. -/
theorem LawfulBook.dropTag_marks {s : State} (hs : LawfulBook s.book) {k : Booking} (hk : k ∈ s.book) :
    (s.setBook (withoutTag k.tag s.book)).mirror.dirty.has (.booking k.index) = true ∧
      (s.setBook (withoutTag k.tag s.book)).mirror.dirty.has .header = true := by
  refine ⟨State.setBook_marks_record fun hsame => ?_, State.setBook_marks_header fun hsame => ?_⟩
  · exact hs.bookView_ne_none hk (hsame.symm.trans (bookView_none (withoutTag_index_free hs.indices hk)))
  · have hlength := withoutTag_length hs.tags hk
    omega

/-- The roster behind a FORGET that freed an index: the count, and the records that are dirty. -/
theorem State.setRoster_none_frees {s : State} {i : RosterIx} {e : RosterEntry} (h : s.roster.entries.get i = some e) :
    (s.setRoster i none).rosterCount + 1 = s.rosterCount ∧ (s.setRoster i none).mirror.dirty.has (.roster i) = true ∧
      (s.setRoster i none).mirror.dirty.has .header = true := by
  rw [State.setRoster_none h]
  exact ⟨countP_vput_none (by rw [h]; rfl), by simp [State.mark, DirtySet.has_mark], by simp [State.mark, DirtySet.has_mark]⟩

/-- Settles O47: the answers to CANCEL and FORGET, case by case of the tag. -/
theorem cancelAndForgetRemoveByTag : Obligations.CancelAndForgetRemoveByTag := by
  intro s n req rest h
  refine ⟨fun hcode hlaw => ?_, fun hcode hpairing => ?_⟩
  · have hs : LawfulBook s.dequeue.book := (bookLaw_iff s).1 hlaw
    have hq := PlanAnswer.answerCancel s.dequeue req
    have hanswered := hq.answered h
    have hbook : ((s.dequeue.answerCancel req).store n).book = (s.dequeue.answerCancel req).state.book := by simp [Answer.store]
    have hroster : (s.dequeue.answerCancel req).state.roster = s.roster := by
      unfold State.answerCancel
      split <;> simp
    refine ⟨_, h.cancel hcode, hq.stored_eq hroster hbook.symm, hq.stored_mirror, fun k hk ht => ?_, fun hnone => ?_⟩
    · have hlength := withoutTag_length hs.tags hk
      have hfree := withoutTag_index_free hs.indices hk
      obtain ⟨hrecord, hheader⟩ := hs.dropTag_marks hk
      have ht : k.tag = req.vanTag := ht
      rw [ht] at hlength hfree hrecord hheader
      rw [State.answerCancel_booked hs hk ht] at hanswered hbook ⊢
      exact ⟨hanswered, hbook, (congrArg (·.length + 1) hbook).trans hlength, fun j hj => hfree j (by rwa [hbook] at hj),
        State.storeResult_dirty hrecord _ _ _, State.storeResult_dirty hheader _ _ _⟩
    · rw [State.answerCancel_unbooked (s := s.dequeue) hnone] at hanswered hbook ⊢
      exact ⟨hanswered, hbook⟩
  · have hs : PairingLaw s.dequeue := hpairing
    have hq := PlanAnswer.answerForget s.dequeue req
    have hanswered := hq.answered h
    have hroster : ((s.dequeue.answerForget req).store n).roster = (s.dequeue.answerForget req).state.roster := by simp [Answer.store]
    have hbook : (s.dequeue.answerForget req).state.book = s.book := by
      unfold State.answerForget
      (repeat' split) <;> simp
    have haging : (s.dequeue.answerForget req).state.roster.agingPosition = s.roster.agingPosition := by
      unfold State.answerForget
      (repeat' split) <;> simp
    refine ⟨_, h.forget hcode, hq.stored_eq hroster.symm hbook, hq.stored_mirror, by rw [hroster, haging],
      fun i e hi ht => ⟨fun hparked => ?_, fun b hbound => ?_⟩, fun hnone => ?_⟩
    · obtain ⟨hcount, hrecord, hheader⟩ := State.setRoster_none_frees (s := s.dequeue) hi
      rw [hs.answerForget_parked hi ht hparked] at hanswered hroster ⊢
      refine ⟨hanswered, ?_, fun j hj => ?_, ?_, State.storeResult_dirty hrecord _ _ _, State.storeResult_dirty hheader _ _ _⟩
      · rw [hroster]
        exact (State.setRoster_get ..).trans (if_pos rfl)
      · rw [hroster]
        exact (State.setRoster_get ..).trans (if_neg hj)
      · rw [State.rosterCount, hroster]
        exact hcount
    · rw [hs.answerForget_bound hi ht hbound] at hanswered hroster ⊢
      exact ⟨hanswered, hroster⟩
    · rw [State.answerForget_unknown (s := s.dequeue) hnone] at hanswered hroster ⊢
      exact ⟨hanswered, hroster⟩

end Sys2Proof.Machine
end

section
/-!
PROOF. The last step of a good report's arrival: the energy of the van that the bay holds moves its booking, and an unbooked van of a
PLUGGED bay gets the default booking of an AUTONOMOUS plan (R27, R34, R35, R45).
-/

namespace Sys2Proof.Machine

open Sys2Proof

/-! ### The energy of a report (R27) -/

/-- READY comes with an energy that brings the tag's booking to its target from CHARGING or SHORT. -/
def State.energyReady (s : State) (t : Tag) (energy : Nat) : Prop :=
  ∃ k, s.booking t = some k ∧ (k.state = .charging ∨ k.state = .short) ∧ k.target ≤ energy

theorem State.energyReady_iff {s : State} {t : Tag} {k : Booking} (hk : s.booking t = some k) (energy : Nat) :
    s.energyReady t energy ↔ (k.state = .charging ∨ k.state = .short) ∧ k.target ≤ energy :=
  ⟨fun ⟨j, hj, h⟩ => by cases hk.symm.trans hj; exact h, fun h => ⟨k, hk, h⟩⟩

/-- The energy of a report raises READY, or nothing. -/
theorem State.energyClaim_cases (s : State) (t : Tag) (b : BayNo) (energy : Nat) :
    (s.energyReady t energy ∧ Raised s (s.energyClaim t b energy) [s.alertNow (.ready energy) (some b) (some t)]) ∨
      (¬s.energyReady t energy ∧ Raised s (s.energyClaim t b energy) []) := by
  have moved : ∀ st, Raised s (s.moveBooking t st) [] := fun st => ((MarksOnly.refl s).moveBooking t st).raised
  cases hk : s.booking t with
  | none =>
    rw [State.energyClaim, hk]
    exact .inr ⟨fun ⟨k, hk', _⟩ => (by cases hk.symm.trans hk'), .refl s⟩
  | some k =>
    rw [s.energyReady_iff hk, State.energyClaim, hk]
    dsimp only
    cases k.state with
    | charging | short =>
      dsimp only
      by_cases he : k.target ≤ energy
      · rw [if_pos he]
        exact .inl ⟨⟨by simp, he⟩, (moved _).raise _ _ _⟩
      · rw [if_neg he]
        exact .inr ⟨fun h => he h.2, .refl s⟩
    | ready =>
      dsimp only
      split
      · exact .inr ⟨by simp, moved _⟩
      · exact .inr ⟨by simp, .refl s⟩
    | waiting => exact .inr ⟨by simp, .refl s⟩

/-- A tag's booking has moved to the state that a function of bookings gives it. -/
theorem State.moveBooking_book_of {s : State} (hn : (s.book.map Booking.tag).Nodup) {t : Tag} {k : Booking} (hk : s.booking t = some k)
    {st : BookingState} {f : Booking → Booking} (hf : f k = { k with state := st }) :
    (s.moveBooking t st).book = s.book.map fun j => if j.tag = t then f j else j := by
  rw [State.moveBooking_book]
  refine map_tag_congr fun j hj ht => ?_
  rw [State.eq_booking hn hk hj ht, hf]

/-- A tag's booking stands where a function of bookings leaves it. -/
theorem State.book_of_kept {s : State} (hn : (s.book.map Booking.tag).Nodup) {t : Tag} {k : Booking} (hk : s.booking t = some k)
    {f : Booking → Booking} (hf : f k = k) : s.book = s.book.map fun j => if j.tag = t then f j else j :=
  (map_tag_id fun j hj ht => by rw [State.eq_booking hn hk hj ht, hf]).symm

/-- A booking whose state the energy leaves. -/
theorem energyClaimed_eq_self {hysteresis energy : Nat} {k : Booking}
    (h : (energyClaimed hysteresis energy k).state = k.state) : energyClaimed hysteresis energy k = k := by
  show { k with state := (energyClaimed hysteresis energy k).state } = k
  rw [h]

/-- The book behind the energy of a report from the bay that holds the tag. -/
theorem State.energyClaim_book {s : State} (hn : (s.book.map Booking.tag).Nodup) (t : Tag) (b : BayNo) (energy : Nat) :
    (s.energyClaim t b energy).book =
      s.book.map fun k => if k.tag = t then energyClaimed s.config.loaded.readyHysteresis energy k else k := by
  cases hk : s.booking t with
  | none =>
    rw [State.energyClaim, hk]
    exact (map_tag_id fun k hmem ht => (State.booking_none.1 hk k hmem ht).elim).symm
  | some k =>
    have moved : ∀ st, energyClaimed s.config.loaded.readyHysteresis energy k = { k with state := st } →
        (s.moveBooking t st).book =
          s.book.map fun j => if j.tag = t then energyClaimed s.config.loaded.readyHysteresis energy j else j := fun _ hf =>
      State.moveBooking_book_of hn hk hf
    have kept := State.book_of_kept hn hk (f := energyClaimed s.config.loaded.readyHysteresis energy)
    rw [State.energyClaim, hk]
    dsimp only
    cases hst : k.state with
    | charging | short =>
      dsimp only
      split
      · next he =>
        rw [(State.raise_keeps ..).2.1]
        exact moved _ (by simp [energyClaimed, hst, he])
      · next he => exact kept (energyClaimed_eq_self (by simp [energyClaimed, hst, he]))
    | ready =>
      dsimp only
      split
      · next he => exact moved _ (by simp [energyClaimed, hst, he])
      · next he => exact kept (energyClaimed_eq_self (by simp [energyClaimed, hst, he]))
    | waiting => exact kept (energyClaimed_eq_self (by simp [energyClaimed, hst]))

/-- A booking as a report's energy leaves it, with the tag that the reporting bay holds. -/
def Booking.toldBy (hysteresis : Nat) (held : Option Tag) (plug : Option (Tag × Nat)) (k : Booking) : Booking :=
  match plug with
  | none => k
  | some (tag, e) => if k.tag = tag ∧ held = some tag then energyClaimed hysteresis e k else k

theorem Booking.toldBy_key (hysteresis : Nat) (held : Option Tag) (plug : Option (Tag × Nat)) (k : Booking) :
    (k.toldBy hysteresis held plug).key = k.key := by
  unfold Booking.toldBy
  split
  · rfl
  · split <;> rfl

/-- The book behind the hand-over of a report's energy by a bay that still holds the tag it held. -/
theorem State.bookHandOver_book {y : State} (hn : (y.book.map Booking.tag).Nodup) {b : BayNo} {held : Option Tag}
    (hheld : (y.bay b).boundTag = held) (r : Report) :
    (y.bookHandOver b held r).book = y.book.map (Booking.toldBy y.config.loaded.readyHysteresis held r.plug) := by
  have same : (∀ k, Booking.toldBy y.config.loaded.readyHysteresis held r.plug k = k) →
      y.book = y.book.map (Booking.toldBy y.config.loaded.readyHysteresis held r.plug) := fun h => by
    rw [funext h, List.map_id']
  unfold State.bookHandOver
  split
  · next tag e h hp =>
    rw [hp] at same ⊢
    by_cases ht : tag = h
    · subst ht
      rw [if_pos ⟨rfl, hheld⟩, State.energyClaim_book hn]
      exact List.map_congr_left fun k _ => if_congr (by simp) rfl rfl
    · rw [if_neg fun c => ht c.1]
      exact same fun k => if_neg fun c => ht (Option.some.inj c.2).symm
  · next hp =>
    rw [hp] at same ⊢
    exact same fun k => if_neg fun c => by cases c.2
  · next hp =>
    rw [hp] at same ⊢
    exact same fun _ => rfl

/-! ### A state step that leaves the binding (R49 to R57) -/

/-- Where bay `b` holds at `y` the tag that it held at `s`, or none as before, roster and book are as at `s`. -/
def StandsWhereKept (s y : State) (b : BayNo) : Prop :=
  (y.bay b).boundTag = (s.bay b).boundTag → y.roster = s.roster ∧ y.book = s.book

theorem StandsWhereKept.of_same {s y : State} (hr : y.roster = s.roster) (hb : y.book = s.book) (b : BayNo) : StandsWhereKept s y b :=
  fun _ => ⟨hr, hb⟩

theorem StandsWhereKept.refl (s : State) (b : BayNo) : StandsWhereKept s s b := .of_same rfl rfl b

theorem StandsWhereKept.raise {s y : State} {b : BayNo} (h : StandsWhereKept s y b) (kind : AlertKind) (bay : Option BayNo)
    (tag : Option Tag) : StandsWhereKept s (y.raise kind bay tag) b := by
  intro hkept
  rw [State.raise_bay] at hkept
  simpa using h hkept

/-- A refused bind request leaves roster and book. -/
theorem State.bindRequest_refused_same {s : State} {t : Tag} {b : BayNo} {energy : Nat} (h : (s.bindRequest t b energy).1 = .refused) :
    (s.bindRequest t b energy).2.roster = s.roster ∧ (s.bindRequest t b energy).2.book = s.book := by
  unfold State.bindRequest State.learn at *
  split at h
  · split at h
    · cases h
    split at h
    · cases h
    · simp
  · split at h
    · split at h
      · cases h
      · unfold State.rebind at h
        split at h <;> cases h
    · cases h

/-- A bay without a binding that binds has another tag, and one that is refused changes nothing. -/
theorem StandsWhereKept.bindBay {s : State} {b : BayNo} (hb : (s.bay b).boundTag = none) (t : Tag) (energy : Nat) :
    StandsWhereKept s (s.bindBay b t energy).2 b := by
  intro hkept
  rw [State.bindBay] at hkept ⊢
  dsimp only at hkept ⊢
  rw [State.moveByAnswer_bay, if_pos rfl, hb] at hkept
  by_cases hr : (s.bindRequest t b energy).1 = .refused
  · simpa using State.bindRequest_refused_same hr
  · rw [if_neg hr] at hkept
    cases hkept

theorem StandsWhereKept.plugIn {s : State} {b : BayNo} (hb : (s.bay b).boundTag = none) (t : Tag) (energy : Nat) :
    StandsWhereKept s (s.plugIn b t energy) b := (StandsWhereKept.bindBay hb t energy).raise _ _ _

theorem StandsWhereKept.retryLearning {s : State} {b : BayNo} (hb : (s.bay b).boundTag = none) (t : Tag) (energy : Nat) :
    StandsWhereKept s (s.retryLearning b t energy) b := by
  unfold State.retryLearning
  dsimp only
  split
  · exact .bindBay hb t energy
  · exact (StandsWhereKept.bindBay hb t energy).raise _ _ _

/-- An exchange of vans leaves the bay with the new tag or none. -/
theorem StandsWhereKept.exchangeVan {s : State} {b : BayNo} {old t : Tag} (hb : (s.bay b).boundTag = some old) (hne : t ≠ old)
    (energy : Nat) : StandsWhereKept s (s.exchangeVan b old t energy) b := by
  intro hkept
  unfold State.exchangeVan State.plugIn at hkept
  rw [State.raise_bay, hb] at hkept
  obtain ⟨hnone, _⟩ | ⟨hsome, _⟩ := State.bindBay_remetered _ b t energy
  · cases hnone.symm.trans hkept
  · cases hsome.symm.trans hkept
    exact (hne rfl).elim

/-- An unplug leaves the bay with no tag. -/
theorem StandsWhereKept.unplugBay (s : State) (b : BayNo) : StandsWhereKept s (s.unplugBay b) b := by
  intro hkept
  unfold State.unplugBay at hkept ⊢
  dsimp only at hkept ⊢
  rw [State.raise_bay, State.updBay_bay_self] at hkept
  rw [← hkept]
  simp

theorem StandsWhereKept.stepSettled (s : State) (b : BayNo) (r : Report) : StandsWhereKept s (s.stepSettled b r) b := by
  unfold State.stepSettled
  split
  · exact .unplugBay s b
  · next hb =>
    split
    · exact .refl s b
    · next hne => exact .exchangeVan hb hne _
  · next hb => exact .plugIn hb _ _

theorem StandsWhereKept.stepAgreeing (s : State) (b : BayNo) (x : Exchange) (r : Report) : StandsWhereKept s (s.stepAgreeing b x r) b := by
  unfold State.stepAgreeing
  split
  · exact .unplugBay s b
  · next hb =>
    split
    · exact .of_same (by simp) (by simp) b
    · next hne => exact .exchangeVan hb hne _
  · next hb => exact .plugIn hb _ _

theorem StandsWhereKept.stepReturn (s : State) (b : BayNo) (r : Report) : StandsWhereKept s (s.stepReturn b r) b := by
  unfold State.stepReturn
  split
  · exact .unplugBay s b
  · next hb =>
    split
    · exact .of_same (by simp) (by simp) b
    · next hne => exact .exchangeVan hb hne _
  · next hb => exact .plugIn hb _ _

theorem StandsWhereKept.refuseStep (s : State) (b : BayNo) : StandsWhereKept s (s.refuseStep b) b := .of_same (by simp) (by simp) b

/-- The state step at a bay that holds no binding while EMPTY, DOZING or UNLISTED. -/
theorem StandsWhereKept.stateStep {s : State} {b : BayNo}
    (hidle : (s.bay b).state = .empty ∨ (s.bay b).state = .dozing ∨ (s.bay b).state = .unlisted → (s.bay b).boundTag = none)
    (x : Exchange) (r : Report) : StandsWhereKept s (s.stateStep b x r) b := by
  unfold State.stateStep
  split
  case h_1 => exact .refl s b
  case h_2 => exact .of_same (by simp) (by simp) b
  all_goals
    rename_i hstate
    split
  any_goals exact .refuseStep s b
  · unfold State.stepEmpty
    split
    · exact .plugIn (hidle (.inl hstate)) _ _
    · exact .of_same (by simp) (by simp) b
  · unfold State.stepDozing
    split
    · exact .plugIn (hidle (.inr (.inl hstate))) _ _
    · exact .refl s b
  · exact .stepAgreeing s b x r
  · exact .stepSettled s b r
  · exact .stepSettled s b r
  · unfold State.stepUnlisted
    split
    · exact .unplugBay s b
    split
    · exact .refl s b
    · exact .retryLearning (hidle (.inr (.inr hstate))) _ _
  · unfold State.stepFaulted
    split
    · exact (StandsWhereKept.stepReturn s b r).raise _ _ _
    · exact .refl s b
  · exact (StandsWhereKept.stepReturn s b r).raise _ _ _

/-! ### The default booking (R34, R35) -/

/-- The default booking of a tag at an internal index. -/
def State.defaultBooking (s : State) (t : Tag) (i : BookIx) : Booking where
  index := i
  tag := t
  departure := BitVec.ofNat 32 s.defaultDeparture
  target := s.config.loaded.defaultTarget
  precondition := none
  origin := .byDefault
  state := s.freshBookingState t s.config.loaded.defaultTarget
  delivered := 0

/-- When a default booking is made (R34). -/
theorem State.wantsDefault_iff (s : State) (t : Tag) :
    s.wantsDefault t = true ↔
      (∀ k ∈ s.book, k.tag ≠ t) ∧ s.clock.plan = .autonomous ∧ s.clock.valid = true ∧ s.book.length < 160 ∧
        s.defaultDeparture ≤ 4294967295 := by
  have hplan : s.clock.plan.isAutonomous = true ↔ s.clock.plan = .autonomous := by cases s.clock.plan <;> decide
  rw [← State.isBooked_eq_false]
  simp only [State.wantsDefault, Bool.and_eq_true, Bool.not_eq_true', decide_eq_true_eq, hplan, and_assoc]

/-- The default booking takes the lowest free index and its place by departure. -/
theorem State.defaultCheck_makes {s : State} (hs : LawfulBook s.book) {t : Tag} (hw : s.wantsDefault t = true) :
    ∃ i before after, freeBookIx s.book = some i ∧ (s.defaultCheck t).book = before ++ s.defaultBooking t i :: after ∧
      before ++ after = s.book ∧ (∀ j ∈ before, j.departure.toNat ≤ (s.defaultBooking t i).departure.toNat) ∧
      ∀ j ∈ after, (s.defaultBooking t i).departure.toNat < j.departure.toNat := by
  obtain ⟨_, _, _, hroom, _⟩ := (s.wantsDefault_iff t).1 hw
  obtain ⟨i, hi⟩ := freeBookIx_of_room hroom
  obtain ⟨before, after, hplace, hrest⟩ := placeBooking_splits (s.defaultBooking t i) hs.order
  refine ⟨i, before, after, hi, ?_, hrest⟩
  rw [State.defaultCheck, if_pos hw, hi, ← hplace]
  rfl

/-- The next default departure: today's time of day while it lies ahead, and tomorrow's otherwise (R35). -/
theorem nextDeparture_eq (t timeOfDay : Nat) :
    nextDeparture t timeOfDay =
      if t < t / 86400 * 86400 + timeOfDay then t / 86400 * 86400 + timeOfDay else t / 86400 * 86400 + timeOfDay + 86400 := by
  unfold nextDeparture
  dsimp only
  split <;> split <;> omega

theorem State.rosterEntry_of_roster {s t : State} (h : t.roster = s.roster) (tag : Tag) : t.rosterEntry tag = s.rosterEntry tag := by
  rw [State.rosterEntry, State.rosterEntry, State.rosterFind_of_roster h, h]

/-- The part before the default booking check of a report that leaves the bay's binding: the book is the one that the first steps
leave, with the van's booking moved by the energy, and the roster is theirs. -/
theorem State.goodReport_kept {s : State} (hb : BindingLaw s) (hs : BookLaw s) {b : BayNo} {x : Exchange} {r : Report}
    (hkept : ((s.goodReport b x r).bay b).boundTag = ((s.reported b x r).bay b).boundTag) :
    ∃ z : State, s.goodReport b x r = z.defaultBookingCheck b ∧ LawfulBook z.book ∧ z.bay b = (s.goodReport b x r).bay b ∧
      z.roster = (s.reported b x r).roster ∧ z.clock = s.clock ∧ z.config = s.config ∧
      z.book = (s.reported b x r).book.map
        (Booking.toldBy s.config.loaded.readyHysteresis ((s.reported b x r).bay b).boundTag r.plug) := by
  have hstepped := ((Thins.refl s).reported b x r).stateStep b x r
  have hnodup := ((bookLaw_iff _).1 (hstepped.law hs)).tags
  rw [State.goodReport_bay] at hkept
  obtain ⟨hroster, hbook⟩ := StandsWhereKept.stateStep hb.reported_idle x r hkept
  have htold := State.bookHandOver_book hnodup (hkept.trans (s.reported_boundTag b x r b)) r
  refine ⟨_, s.goodReport_eq b x r, (bookLaw_iff _).1 ((hstepped.bookHandOver b _ r).law hs), ?_, by simp [hroster],
    by simp [State.reported], by simp [State.reported], ?_⟩
  · rw [State.goodReport_bay]
    simp [State.bay]
  · rw [htold, hbook, State.reported_boundTag]
    simp [State.reported]

/-- Settles O43: the energy's move of the van's booking, and behind it the default booking check. -/
theorem bookFollowsTheVan : Obligations.BookFollowsTheVan := by
  intro s b x r hb hs u t hkept claimed now today next wanted
  obtain ⟨z, ht, hlaw, hbay, hroster, hclock, hconfig, hbook⟩ := State.goodReport_kept hb hs hkept
  have hclaimed : z.book = claimed := hbook
  have hnext : z.defaultDeparture = next := by
    rw [State.defaultDeparture, nextDeparture_eq, hclock, hconfig]
  have hheld : ∀ P : Tag × BookIx × Word → Prop, (∀ k ∈ z.book, P k.key) ↔ ∀ k ∈ u.book, P k.key := fun P => by
    rw [hbook]
    simp only [List.forall_mem_map, Booking.toldBy_key]
    rfl
  have hwanted : ∀ tag, wanted tag ↔ (z.bay b).state = .plugged ∧ (z.bay b).boundTag = some tag ∧ z.wantsDefault tag = true :=
    fun tag => by
      have htags : (∀ k ∈ z.book, k.tag ≠ tag) ↔ ∀ k ∈ u.book, k.tag ≠ tag := hheld fun key => key.1 ≠ tag
      rw [State.wantsDefault_iff, htags, hbay, hclock, hnext, hbook, List.length_map]
  have htbook : t.book = (z.defaultBookingCheck b).book := congrArg State.book ht
  refine ⟨fun hnot => ?_, fun tag hw => ?_⟩
  · rw [htbook, ← hclaimed]
    unfold State.defaultBookingCheck
    split
    · next tag hstate htag =>
      have hno : ¬z.wantsDefault tag = true := fun h => hnot tag ((hwanted tag).2 ⟨hstate, htag, h⟩)
      rw [State.defaultCheck, if_neg hno]
    · rfl
  · obtain ⟨hstate, htag, hwants⟩ := (hwanted tag).1 hw
    obtain ⟨i, before, after, hi, hmade, hrest, hbefore, hafter⟩ := State.defaultCheck_makes hlaw hwants
    have hcheck : z.defaultBookingCheck b = z.defaultCheck tag := by rw [State.defaultBookingCheck, hstate, htag]
    refine ⟨z.defaultBooking tag i, before, after, by rw [htbook, hcheck, hmade], hrest.trans hclaimed, hbefore, hafter, ?_,
      (hheld fun key => key.2.1 ≠ i).1 (freeBookIx_free hi), fun j hj => ?_, fun e he hbound => ?_, fun hparked => ?_⟩
    · rw [State.defaultBooking, hnext, hconfig]
    · by_contra hnone
      obtain ⟨k, hk, hkj⟩ := freeBookIx_lowest hi hj
      exact (hheld fun key => key.2.1 ≠ j).2 (fun k hk hkj => hnone ⟨k, hk, hkj⟩) k hk hkj
    · exact State.freshBookingState_bound ((State.rosterEntry_of_roster hroster tag).trans he) (Option.isSome_iff_ne_none.2 hbound) _
    · exact State.freshBookingState_unbound (fun e he => hparked e ((State.rosterEntry_of_roster hroster tag).symm.trans he)) _

end Sys2Proof.Machine
end

section
/-!
PROOF. The reports that bind and release nothing: where each moves its bay, with the bay's alerts and READY behind them (R27, R49 to
R57, R64).
-/

namespace Sys2Proof.Machine

open Sys2Proof

/-! ### A move of one bay -/

/-- From `u` to `y` bay `b` has come to a record, with bay alerts that carry the tag it held at `u`; the other bays, the roster and the
book are as at `u`. -/
structure Moved (u y : State) (b : BayNo) (bay : BayRecord) (kinds : List AlertKind) : Prop where
  bays : ∀ c, y.bay c = if c = b then bay else u.bay c
  roster : y.roster = u.roster
  book : y.book = u.book
  raised : Raised u y (kinds.map fun kind => u.alertNow kind (some b) (u.bay b).boundTag)

theorem Moved.refl (u : State) (b : BayNo) : Moved u u b (u.bay b) [] :=
  ⟨fun c => by
    split
    · next e => rw [e]
    · rfl, rfl, rfl, .refl u⟩

theorem Moved.updBay (u : State) (b : BayNo) (f : BayRecord → BayRecord) : Moved u (u.updBay b f) b (f (u.bay b)) [] :=
  ⟨fun c => State.updBay_bay .., by simp, by simp, ((MarksOnly.refl u).updBay b f).raised⟩

theorem Moved.bay {u y : State} {b : BayNo} {bay : BayRecord} {kinds : List AlertKind} (h : Moved u y b bay kinds) : y.bay b = bay := by
  rw [h.bays, if_pos rfl]

/-- One more alert for a bay that keeps its tag. -/
theorem Moved.raiseForBay {u y : State} {b : BayNo} {bay : BayRecord} {kinds : List AlertKind} (h : Moved u y b bay kinds)
    (ht : bay.boundTag = (u.bay b).boundTag) (kind : AlertKind) : Moved u (y.raiseForBay b kind) b bay (kinds ++ [kind]) := by
  refine ⟨fun c => ?_, by simp [h.roster], by simp [h.book], ?_⟩
  · rw [State.raiseForBay, State.raise_bay, h.bays]
  · rw [State.raiseForBay, h.bay, ht, List.map_append]
    exact h.raised.raise _ _ _

/-! ### The steps that keep the binding (R49, R50, R53, R55, R57) -/

/-- CLOSING ends once the applied setpoint is 0. -/
theorem State.stepClosing_moved (u : State) (b : BayNo) (r : Report) :
    Moved u (u.stepClosing b r) b (if r.applied = 0 then { u.bay b with state := .disabled } else u.bay b) [] := by
  unfold State.stepClosing
  split
  · exact .updBay u b _
  · exact .refl u b

/-- REFUSE at a bay that is not FAULTED. -/
theorem State.refuseStep_moved {u : State} {b : BayNo} (h : (u.bay b).state ≠ .faulted) :
    Moved u (u.refuseStep b) b { u.bay b with state := .faulted, agreedMode := none, unlistedTag := none, emptyRounds := 0 }
      ((if (u.bay b).state = .lost then [.bayBack .faulted] else []) ++ [.bayFault (u.bay b).state]) := by
  have hfaulted : Moved u (u.enterFaulted b) b
      { u.bay b with state := .faulted, agreedMode := none, unlistedTag := none, emptyRounds := 0 } [] := .updBay u b _
  unfold State.refuseStep
  dsimp only
  rw [if_neg h]
  by_cases hl : (u.bay b).state = .lost
  · rw [if_pos hl, if_pos hl]
    exact (hfaulted.raiseForBay rfl _).raiseForBay rfl _
  · rw [if_neg hl, if_neg hl]
    exact hfaulted.raiseForBay rfl _

/-- A van set with a common mode agrees on the highest. -/
theorem State.settle_agreed {u : State} {b : BayNo} {van post : ModeSet} {m : ChargeMode}
    (h : highestMode (van &&& post &&& (u.bay b).permitted) = some m) :
    Moved u (u.settle b van post) b { u.bay b with state := .plugged, agreedMode := some m }
      [.modeAgreed m (van &&& post &&& (u.bay b).permitted)] := by
  unfold State.settle
  dsimp only
  rw [h]
  exact (Moved.updBay u b _).raiseForBay rfl _

/-- A van set without one is INCOMPATIBLE. -/
theorem State.settle_incompatible {u : State} {b : BayNo} {van post : ModeSet}
    (h : highestMode (van &&& post &&& (u.bay b).permitted) = none) :
    Moved u (u.settle b van post) b { u.bay b with state := .incompatible } [.incompatible van post] := by
  unfold State.settle
  dsimp only
  rw [h]
  exact (Moved.updBay u b _).raiseForBay rfl _

/-- A REFUSE report at a bay that is neither DISABLED nor CLOSING. -/
theorem State.stateStep_refuse {u : State} {b : BayNo} {r : Report} (hr : r.status = .refuse) (hd : (u.bay b).state ≠ .disabled)
    (hc : (u.bay b).state ≠ .closing) (x : Exchange) : u.stateStep b x r = u.refuseStep b := by
  unfold State.stateStep
  split
  · next h => exact (hd h).elim
  · next h => exact (hc h).elim
  all_goals exact if_pos hr

/-- The bound tag at an AGREEING bay. -/
theorem State.stateStep_agreeing {u : State} {b : BayNo} {r : Report} (hr : r.status ≠ .refuse) {tag : Tag} {e : Nat}
    (hp : r.plug = some (tag, e)) (hb : (u.bay b).boundTag = some tag) (h : (u.bay b).state = .agreeing) (x : Exchange) :
    u.stateStep b x r = u.agree b x r := by
  rw [State.stateStep, h]
  refine (if_neg hr).trans ?_
  rw [State.stepAgreeing, hp, hb]
  exact if_pos rfl

/-- The bound tag at a PLUGGED or INCOMPATIBLE bay. -/
theorem State.stateStep_settled {u : State} {b : BayNo} {r : Report} (hr : r.status ≠ .refuse) {tag : Tag} {e : Nat}
    (hp : r.plug = some (tag, e)) (hb : (u.bay b).boundTag = some tag)
    (h : (u.bay b).state = .plugged ∨ (u.bay b).state = .incompatible) (x : Exchange) : u.stateStep b x r = u := by
  have hsettled : u.stepSettled b r = u := by
    rw [State.stepSettled, hp, hb]
    exact if_pos rfl
  obtain h | h := h
  · rw [State.stateStep, h]
    exact (if_neg hr).trans hsettled
  · rw [State.stateStep, h]
    exact (if_neg hr).trans hsettled

theorem State.agreeAgain_state (u : State) (b : BayNo) : ((u.agreeAgain b).bay b).state = .agreeing := by
  simp [State.agreeAgain]

/-- The bound tag takes a bay from FAULTED or LOST back to AGREEING. -/
theorem State.stateStep_back {u : State} {b : BayNo} {r : Report} (hr : r.status ≠ .refuse) {tag : Tag} {e : Nat}
    (hp : r.plug = some (tag, e)) (hb : (u.bay b).boundTag = some tag)
    (h : (u.bay b).state = .lost ∨ ((u.bay b).state = .faulted ∧ r.status = .accept)) (x : Exchange) :
    u.stateStep b x r = u.returned b (u.agreeAgain b) := by
  rw [State.stateStep_leaves hr h, State.stepReturn, hp, hb]
  exact congrArg _ (if_pos rfl)

/-- An UNLISTED bay's own tag while another bay holds it. -/
theorem State.stateStep_stillElsewhere {u : State} {b : BayNo} {r : Report} (hr : r.status ≠ .refuse) {tag : Tag} {e : Nat}
    (hp : r.plug = some (tag, e)) (hu : (u.bay b).state = .unlisted) (ht : (u.bay b).unlistedTag = some tag)
    (helse : u.boundElsewhere tag b = true) (x : Exchange) : u.stateStep b x r = u := by
  rw [State.stateStep, hu]
  refine (if_neg hr).trans ?_
  rw [State.stepUnlisted, hp]
  exact if_pos (by simp [helse, ht])

/-- A tag whose entry names another bay. -/
theorem PairingLaw.boundElsewhere {u : State} (hs : PairingLaw u) {i : RosterIx} {e : RosterEntry} {p b : BayNo}
    (hi : u.roster.entries.get i = some e) (hp : e.bay = some p) (hpb : p ≠ b) : u.boundElsewhere e.tag b = true := by
  have hbay : u.boundBay e.tag = some p := by simp [State.boundBay, State.rosterEntry, hs.rosterFind hi, hi, hp]
  rw [State.boundElsewhere, hbay]
  simpa using hpb

/-! ### The whole arrival (R27, R45) -/

/-- The energy of a report, behind a step that leaves book, clock and the bay's tag, raises READY where R27 has it. -/
theorem State.bookHandOver_raised {u y : State} {b : BayNo} (hbook : y.book = u.book) (hclock : y.clock = u.clock)
    (htag : (y.bay b).boundTag = (u.bay b).boundTag) (r : Report) :
    Raised y (y.bookHandOver b (u.bay b).boundTag r) (readyAlerts u b r) := by
  have hready : ∀ t e, y.energyReady t e ↔ u.energyReady t e := fun t e => by
    rw [State.energyReady, State.energyReady, State.booking, State.booking, hbook]
  unfold State.bookHandOver readyAlerts
  rw [htag]
  cases r.plug with
  | none => exact .refl y
  | some plug =>
    obtain ⟨t, e⟩ := plug
    cases (u.bay b).boundTag with
    | none => exact .refl y
    | some held =>
      dsimp only
      by_cases ht : t = held
      · subst ht
        have hnow : y.alertNow (.ready e) (some b) (some t) = u.alertNow (.ready e) (some b) (some t) := by
          rw [State.alertNow, hclock]
          rfl
        have hcases := y.energyClaim_cases t b e
        rw [if_pos ⟨rfl, rfl⟩]
        rw [hready, hnow] at hcases
        obtain ⟨hc, h⟩ | ⟨hc, h⟩ := hcases
        · rwa [if_pos ⟨rfl, hc⟩]
        · rwa [if_neg fun c => hc c.2]
      · rw [if_neg fun c => ht c.1, if_neg fun c => ht c.1]
        exact .refl y

theorem MarksOnly.defaultBookingCheck (z : State) (b : BayNo) : MarksOnly z (z.defaultBookingCheck b) := by
  unfold State.defaultBookingCheck State.defaultCheck
  split
  · split
    · split
      · exact .refl z
      · exact (MarksOnly.refl z).setBook _
    · exact .refl z
  · exact .refl z

/-- Behind a state step that moves the bay and keeps its tag, the arrival is that move, with READY behind the bay's alerts. -/
theorem State.goodReport_moved {s : State} {b : BayNo} {x : Exchange} {r : Report} {bay : BayRecord} {kinds : List AlertKind}
    (h : Moved (s.reported b x r) ((s.reported b x r).stateStep b x r) b bay kinds)
    (ht : bay.boundTag = ((s.reported b x r).bay b).boundTag) :
    (s.goodReport b x r).bay b = bay ∧ (∀ c, c ≠ b → (s.goodReport b x r).bay c = (s.reported b x r).bay c) ∧
      (s.goodReport b x r).roster = (s.reported b x r).roster ∧
      Raised (s.reported b x r) (s.goodReport b x r)
        ((kinds.map fun kind => (s.reported b x r).alertNow kind (some b) ((s.reported b x r).bay b).boundTag) ++
          readyAlerts (s.reported b x r) b r) := by
  refine ⟨by rw [State.goodReport_bay, h.bay], fun c hc => by rw [State.goodReport_bay, h.bays, if_neg hc], ?_, ?_⟩
  · simp [State.goodReport_eq, h.roster]
  · have htold := State.bookHandOver_raised h.book h.raised.clock ((congrArg BayRecord.boundTag h.bay).trans ht) r
    rw [State.goodReport_eq, ← s.reported_boundTag b x r b]
    exact (h.raised.append htold).thenMarks (.defaultBookingCheck _ b)

/-- Settles O40: case by case of the state step, behind the first steps of the report. -/
theorem goodReportMovesTheBay : Obligations.GoodReportMovesTheBay := by
  intro s b x r hs u old t moves
  have hclock : u.clock = s.clock := by simp [u, State.reported]
  have hconfig : u.config = s.config := by simp [u, State.reported]
  have arrival : ∀ {bay kinds}, Moved u (u.stateStep b x r) b bay kinds → bay.boundTag = old.boundTag → moves bay kinds := by
    intro bay kinds h ht
    obtain ⟨hbay, hbays, hroster, hraised⟩ := State.goodReport_moved h ht
    have hall := hraised.all
    simp only [State.alertNow] at hall
    rw [show (s.reported b x r).clock = s.clock from hclock] at hall
    exact ⟨hbay, hbays, hroster, hraised.ring, hall⟩
  have stays : u.stateStep b x r = u → moves old [] := fun h => arrival (h.symm ▸ .refl u b) rfl
  have back : ∀ kind, u.stateStep b x r = (u.agreeAgain b).raiseForBay b kind →
      moves { old with state := .agreeing, agreedMode := none } [kind] := fun kind h =>
    arrival (h ▸ (Moved.updBay u b _).raiseForBay rfl kind) rfl
  refine ⟨fun hst => ?_, fun hst => ?_, fun hr hst => ?_, fun hr hd hc hf => ?_, fun hr hp hst => ?_, fun hr hp hst => ?_,
    fun hr hst => ?_, fun tag e hr hp hst htag ⟨i, entry, p, hi, hentry, hbound, hpb⟩ => ?_, fun tag e hr hp hb =>
    ⟨fun hst => ?_, fun hst => ?_, fun hst ha => ?_, fun hst => ?_⟩⟩
  · exact stays (by rw [State.stateStep, show (u.bay b).state = _ from hst])
  · have hstep : u.stateStep b x r = u.stepClosing b r := by rw [State.stateStep, show (u.bay b).state = _ from hst]
    exact arrival (hstep ▸ u.stepClosing_moved b r) (by split <;> rfl)
  · have hst : (u.bay b).state = .faulted := hst
    exact stays ((State.stateStep_refuse hr (by simp [hst]) (by simp [hst]) x).trans (if_pos hst))
  · exact arrival ((State.stateStep_refuse hr hd hc x).symm ▸ State.refuseStep_moved hf) rfl
  · have hstep : u.stateStep b x r = u.countEmptyRound b := by
      rw [State.stateStep, show (u.bay b).state = _ from hst]
      refine (if_neg hr).trans ?_
      rw [State.stepEmpty, hp]
    rw [← hconfig]
    exact arrival (hstep ▸ .updBay u b _) rfl
  · refine stays ?_
    rw [State.stateStep, show (u.bay b).state = _ from hst]
    refine (if_neg hr).trans ?_
    rw [State.stepDozing, hp]
  · refine stays ?_
    rw [State.stateStep, show (u.bay b).state = _ from hst]
    exact (if_neg (by simp [hr])).trans (if_neg (by simp [hr]))
  · have hu : PairingLaw u := hs.reported b x r
    have hreported : u.roster.entries.get i = some (entry.reportedBy s.clock.depotSeconds b r.plug) := by
      rw [hs.reported_get, hi]
      rfl
    have helse := hu.boundElsewhere hreported (p := p) (b := b) (by simpa using hbound) hpb
    rw [RosterEntry.reportedBy_tag, hentry] at helse
    exact stays (State.stateStep_stillElsewhere hr hp hst htag helse x)
  · exact stays (State.stateStep_settled hr hp hb hst x)
  · exact back _ (by rw [State.stateStep_back hr hp hb (.inl hst) x, State.returned_lost hst, State.agreeAgain_state])
  · exact back _ (by rw [State.stateStep_back hr hp hb (.inr ⟨hst, ha⟩) x, State.returned_faulted hst, State.agreeAgain_state])
  · intro settles legacy
    have hstep := State.stateStep_agreeing hr hp hb hst x
    have settled : ∀ van, agreementSet x r = some van → settles van := fun van hvan => by
      rw [State.agree, hvan] at hstep
      dsimp only [settles]
      split
      · next m hm => exact arrival (hstep ▸ State.settle_agreed hm) rfl
      · next hm => exact arrival (hstep ▸ State.settle_incompatible hm) rfl
    refine ⟨fun van hvan => settled van (by rw [agreementSet, hvan]), fun hvan hlegacy => settled 1 ?_, fun hvan hlegacy => stays ?_⟩
    · rw [agreementSet, hvan]
      exact if_pos hlegacy
    · have hnone : agreementSet x r = none := by
        rw [agreementSet, hvan]
        exact if_neg hlegacy
      rw [hstep, State.agree, hnone]

end Sys2Proof.Machine
end

section
/-!
PROOF. What a command can do to a bay's record (R43 to R59): the moves of a good report, of a bind request made by another bay, of
rounds and publications, of a failed exchange and of SET BAY. `BayChange` tells them all; the laws of failure counts and of bindings,
modes and unlisted tags are read off it.
-/

namespace Sys2Proof.Machine

open Sys2Proof

/-! ### A bay that loses its tag to another (R9, R10, R59) -/

/-- What a bind request of another bay does to a bay's record. -/
inductive LosesTag (old : BayRecord) : BayRecord → Prop
  | kept : LosesTag old old
  | migrated (hlost : old.state = .lost) : LosesTag old { old with boundTag := none }
  | clashed (t : Tag) :
      LosesTag old { old with state := .unlisted, boundTag := none, agreedMode := none, unlistedTag := some t }

/-- A rebind takes the tag from its holder. -/
theorem State.rebind_losesTag (s : State) (i : RosterIx) (p : BayNo) (t : Tag) (b : BayNo) (energy : Nat) :
    LosesTag (s.bay p) ((s.rebind i p t b energy).2.bay p) ∧
      ∀ c, c ≠ p → (s.rebind i p t b energy).2.bay c = s.bay c := by
  by_cases h : (s.bay p).state = .lost
  · have hre := State.rebind_lost h i t b energy
    exact ⟨by rw [hre.holder]; exact .migrated h, hre.others⟩
  · have hre := State.rebind_held h i t b energy
    exact ⟨by rw [hre.holder]; exact .clashed t, hre.others⟩

/-- A bind request takes at most a tag from another bay, and leaves the record of the bay that makes it. -/
theorem State.bindRequest_losesTag (s : State) (t : Tag) (b : BayNo) (energy : Nat) :
    (s.bindRequest t b energy).2.bay b = s.bay b ∧ ∀ c, LosesTag (s.bay c) ((s.bindRequest t b energy).2.bay c) := by
  have kept : ∀ y : State, y.bays = s.bays → y.bay b = s.bay b ∧ ∀ c, LosesTag (s.bay c) (y.bay c) := fun y h => by
    have hbay : ∀ c, y.bay c = s.bay c := fun c => by rw [State.bay, h, State.bay]
    exact ⟨hbay b, fun c => by rw [hbay]; exact .kept⟩
  unfold State.bindRequest
  split
  · exact kept _ (by simp)
  split
  · next i _ _ p _ =>
    split
    · exact kept _ (by simp)
    · next hpb =>
      obtain ⟨hholder, hothers⟩ := s.rebind_losesTag i p t b energy
      refine ⟨hothers b (Ne.symm hpb), fun c => ?_⟩
      by_cases hc : c = p
      · rwa [hc]
      · rw [hothers c hc]
        exact .kept
  · exact kept _ (by simp)

/-! ### The state step at the reporting bay (R49 to R57) -/

/-- What the state step does to the record of the reporting bay. -/
inductive Stepped (old : BayRecord) : BayRecord → Prop
  | kept (hlost : old.state ≠ .lost) : Stepped old old
  | counted (hempty : old.state = .empty) (n : Nat) : Stepped old { old with emptyRounds := n }
  | closed (hclosing : old.state = .closing) : Stepped old { old with state := .disabled }
  | refused : Stepped old { old with state := .faulted, agreedMode := none, unlistedTag := none, emptyRounds := 0 }
  | unplugged : Stepped old old.unplugged
  | bound (t : Tag) :
      Stepped old
        { old with
          state := .agreeing, boundTag := some t, agreedMode := none, unlistedTag := none, emptyRounds := 0
          meterBaseline := none }
  | unlisted (t : Tag) :
      Stepped old
        { old with state := .unlisted, boundTag := none, agreedMode := none, unlistedTag := some t, emptyRounds := 0 }
  | returned (hleft : old.state = .faulted ∨ old.state = .lost) (hbound : old.boundTag.isSome = true) :
      Stepped old { old with state := .agreeing, agreedMode := none }
  | agreed (hagreeing : old.state = .agreeing) (m : ChargeMode) :
      Stepped old { old with state := .plugged, agreedMode := some m }
  | incompatible (hagreeing : old.state = .agreeing) : Stepped old { old with state := .incompatible }

/-- From `u` to `y` bay `b` has taken a state step, and the others have lost at most a tag to it. -/
structure BayStep (u y : State) (b : BayNo) : Prop where
  own : Stepped (u.bay b) (y.bay b)
  others : ∀ c, c ≠ b → LosesTag (u.bay c) (y.bay c)

namespace BayStep

variable {u : State} {b : BayNo}

theorem kept (h : (u.bay b).state ≠ .lost) : BayStep u u b := ⟨.kept h, fun _ _ => .kept⟩

theorem updBay {f : BayRecord → BayRecord} (h : Stepped (u.bay b) (f (u.bay b))) : BayStep u (u.updBay b f) b :=
  ⟨by rwa [State.updBay_bay_self], fun c hc => by rw [State.updBay_bay_of_ne _ _ hc]; exact .kept⟩

theorem raise {y : State} (h : BayStep u y b) (kind : AlertKind) (bay : Option BayNo) (tag : Option Tag) :
    BayStep u (y.raise kind bay tag) b :=
  ⟨by rw [State.raise_bay]; exact h.own, fun c hc => by rw [State.raise_bay]; exact h.others c hc⟩

/-- A bind request with its move, made behind a release of what the bay held. -/
theorem bindBay {x : State} {held : Option Tag} {mode : Option ChargeMode}
    (hx : ∀ c, x.bay c = if c = b then { u.bay b with boundTag := held, agreedMode := mode } else u.bay c) (t : Tag) (energy : Nat) :
    BayStep u (x.bindBay b t energy).2 b := by
  refine ⟨?_, fun c hc => ?_⟩
  · rw [State.bindBay, State.moveByAnswer_bay, if_pos rfl, (x.bindRequest_losesTag t b energy).1, hx, if_pos rfl]
    split
    · exact .unlisted t
    · exact .bound t
  · have h := (x.bindRequest_losesTag t b energy).2 c
    rw [hx, if_neg hc] at h
    rwa [State.bindBay, State.moveByAnswer_bay, if_neg hc]

/-- The record as it is, spelled as one that holds its own tag and mode. -/
theorem own_bay (u : State) (b c : BayNo) :
    u.bay c = if c = b then { u.bay b with boundTag := (u.bay b).boundTag, agreedMode := (u.bay b).agreedMode } else u.bay c := by
  split
  · next e => rw [e]
  · rfl

theorem plugIn (u : State) (b : BayNo) (t : Tag) (energy : Nat) : BayStep u (u.plugIn b t energy) b :=
  (bindBay (own_bay u b) t energy).raise _ _ _

theorem retryLearning (u : State) (b : BayNo) (t : Tag) (energy : Nat) : BayStep u (u.retryLearning b t energy) b := by
  have h := bindBay (own_bay u b) t energy
  unfold State.retryLearning
  dsimp only
  split
  · exact h
  · exact h.raise _ _ _

theorem exchangeVan (u : State) (b : BayNo) (old t : Tag) (energy : Nat) : BayStep u (u.exchangeVan b old t energy) b := by
  unfold State.exchangeVan State.plugIn
  refine (bindBay (held := none) (mode := none) (fun c => ?_) t energy).raise _ _ _
  rw [State.updBay_bay, State.raise_bay, State.raise_bay, State.releaseBay_bay, State.releaseBay_bay, if_pos rfl]
  split <;> rfl

theorem unplugBay (u : State) (b : BayNo) : BayStep u (u.unplugBay b) b := by
  unfold State.unplugBay
  dsimp only
  split
  · exact (updBay (f := BayRecord.unplugged) .unplugged).raise _ _ _
  · refine BayStep.raise ⟨?_, fun c hc => ?_⟩ _ _ _
    · rw [State.updBay_bay_self, State.releaseBay_bay, if_pos rfl]
      exact .unplugged
    · rw [State.updBay_bay_of_ne _ _ hc, State.releaseBay_bay, if_neg hc]
      exact .kept

theorem refuseStep (u : State) (b : BayNo) : BayStep u (u.refuseStep b) b := by
  have h : BayStep u (u.enterFaulted b) b := updBay .refused
  unfold State.refuseStep
  dsimp only
  split
  · next hf => exact .kept (by simp [hf])
  split
  · exact (h.raise _ _ _).raise _ _ _
  · exact h.raise _ _ _

theorem agree (hstate : (u.bay b).state = .agreeing) (x : Exchange) (r : Report) : BayStep u (u.agree b x r) b := by
  unfold State.agree State.settle
  split
  · dsimp only
    split
    · exact (updBay (.agreed hstate _)).raise _ _ _
    · exact (updBay (.incompatible hstate)).raise _ _ _
  · exact .kept (by simp [hstate])

theorem stepAgreeing (hstate : (u.bay b).state = .agreeing) (x : Exchange) (r : Report) : BayStep u (u.stepAgreeing b x r) b := by
  unfold State.stepAgreeing
  split
  · exact unplugBay u b
  · split
    · exact agree hstate x r
    · exact exchangeVan u b _ _ _
  · exact plugIn u b _ _

theorem stepSettled (hlost : (u.bay b).state ≠ .lost) (r : Report) : BayStep u (u.stepSettled b r) b := by
  unfold State.stepSettled
  split
  · exact unplugBay u b
  · split
    · exact .kept hlost
    · exact exchangeVan u b _ _ _
  · exact plugIn u b _ _

theorem stepReturn (hleft : (u.bay b).state = .faulted ∨ (u.bay b).state = .lost) (r : Report) : BayStep u (u.stepReturn b r) b := by
  unfold State.stepReturn
  split
  · exact unplugBay u b
  · next hbound =>
    split
    · exact updBay (.returned hleft (by rw [hbound]; rfl))
    · exact exchangeVan u b _ _ _
  · exact plugIn u b _ _

theorem stepUnlisted (hlost : (u.bay b).state ≠ .lost) (r : Report) : BayStep u (u.stepUnlisted b r) b := by
  unfold State.stepUnlisted
  split
  · exact unplugBay u b
  split
  · exact .kept hlost
  · exact retryLearning u b _ _

/-- The state step, state by state. -/
theorem stateStep (u : State) (b : BayNo) (x : Exchange) (r : Report) : BayStep u (u.stateStep b x r) b := by
  unfold State.stateStep
  split <;> rename_i hstate
  case h_1 => exact .kept (by simp [hstate])
  case h_2 =>
    unfold State.stepClosing
    split
    · exact updBay (.closed hstate)
    · exact .kept (by simp [hstate])
  all_goals split
  any_goals exact refuseStep u b
  · unfold State.stepEmpty
    split
    · exact plugIn u b _ _
    · exact updBay (.counted hstate _)
  · unfold State.stepDozing
    split
    · exact plugIn u b _ _
    · exact .kept (by simp [hstate])
  · exact stepAgreeing hstate x r
  · exact stepSettled (by simp [hstate]) r
  · exact stepSettled (by simp [hstate]) r
  · exact stepUnlisted (by simp [hstate]) r
  · unfold State.stepFaulted
    split
    · exact (stepReturn (.inl hstate) r).raise _ _ _
    · exact .kept (by simp [hstate])
  · exact (stepReturn (.inr hstate) r).raise _ _ _

end BayStep

/-- The whole arrival of a good report: the link updates at the bay, then its state step (R45). -/
theorem State.goodReport_step (s : State) (b : BayNo) (x : Exchange) (r : Report) :
    Stepped ((s.reported b x r).bay b) ((s.goodReport b x r).bay b) ∧
      ∀ c, c ≠ b → LosesTag (s.bay c) ((s.goodReport b x r).bay c) := by
  obtain ⟨hown, hothers⟩ := BayStep.stateStep (s.reported b x r) b x r
  refine ⟨by rwa [State.goodReport_bay], fun c hc => ?_⟩
  have h := hothers c hc
  rwa [State.reported_bay, if_neg hc, ← State.goodReport_bay] at h

/-! ### Every good report updates the link (R46, R47) -/

/-- The state step leaves a record but for its state, its bindings, its empty rounds and its meter baseline. -/
theorem Stepped.only {old new : BayRecord} (h : Stepped old new) :
    new =
      { old with
        state := new.state, boundTag := new.boundTag, agreedMode := new.agreedMode, unlistedTag := new.unlistedTag
        emptyRounds := new.emptyRounds, meterBaseline := new.meterBaseline } := by
  cases h <;> rfl

/-- Settles O39: the link updates, which the state step behind them leaves. -/
theorem goodReportUpdatesTheLink : Obligations.GoodReportUpdatesTheLink := by
  intro s b x r old new
  obtain ⟨hstep, _⟩ := s.goodReport_step b x r
  have hnew := hstep.only
  rw [State.reported_bay_self] at hnew
  dsimp only [new]
  rw [hnew]
  refine ⟨rfl, rfl, rfl, rfl, rfl, rfl, rfl, rfl, rfl, rfl, ?_, rfl, rfl, rfl, rfl⟩
  simp only [flipsToggle_iff]
  rfl

end Sys2Proof.Machine
end

section
/-!
PROOF. A failed exchange is counted (R56).
-/

namespace Sys2Proof.Machine

open Sys2Proof

/-- The record of a bay in service after a failed exchange. -/
def BayRecord.afterFailure (limit : Nat) (kind : FailureKind) (old : BayRecord) : BayRecord :=
  if min limit (old.failureCount + 1) = limit ∧ old.state ≠ .lost ∧ old.state ≠ .closing then
    { old with
      failureCount := min limit (old.failureCount + 1), lastFailure := kind, state := .lost, agreedMode := none
      unlistedTag := none, emptyRounds := 0 }
  else { old with failureCount := min limit (old.failureCount + 1), lastFailure := kind }

theorem BayState.inService_iff (st : BayState) : st.inService = true ↔ st ≠ .disabled := by cases st <;> decide

theorem BayState.canBeLost_iff {st : BayState} (h : st ≠ .disabled) : st.canBeLost = true ↔ st ≠ .lost ∧ st ≠ .closing := by
  cases st
  case disabled => exact absurd rfl h
  all_goals decide

/-- An alert over marks alone. -/
theorem MarksOnly.raises {s x : State} (h : MarksOnly s x) (kind : AlertKind) (bay : Option BayNo) (tag : Option Tag) :
    Raises s.mirror (x.raise kind bay tag).mirror { kind := kind, bay := bay, tag := tag, time := s.clock.depotSeconds } := by
  obtain ⟨hring, hdirty, hstored⟩ := x.raise_raises kind bay tag
  have hm : x.mirror = { s.mirror with dirty := x.mirror.dirty } := h.only
  refine ⟨h.only.onlyRing.trans hring, fun r hr => hdirty r (h.dirty r hr), ?_⟩
  rw [h.clock, hm] at hstored
  exact hstored

/-- A failed exchange at a bay in service that stays in its state, or enters LOST with BAY LOST. -/
theorem State.failedExchange_eq {s : State} {b : BayNo} (h : (s.bay b).state ≠ .disabled) (kind : FailureKind) :
    s.failedExchange b kind =
      if min s.config.loaded.failureLimit ((s.bay b).failureCount + 1) = s.config.loaded.failureLimit ∧
          (s.bay b).state ≠ .lost ∧ (s.bay b).state ≠ .closing then
        (s.updBay b fun bay =>
          { bay with
            failureCount := min s.config.loaded.failureLimit (bay.failureCount + 1), lastFailure := kind }).enterLost b kind
      else
        s.updBay b fun bay =>
          { bay with
            failureCount := min s.config.loaded.failureLimit (bay.failureCount + 1), lastFailure := kind } := by
  unfold State.failedExchange
  rw [if_pos ((BayState.inService_iff _).2 h)]
  dsimp only
  rw [State.updBay_bay_self]
  refine if_congr ?_ rfl rfl
  rw [BayState.canBeLost_iff h, eq_comm, le_antisymm_iff, and_iff_left (min_le_left _ _)]

/-- What a failed exchange does to the bays. -/
theorem State.failedExchange_bay {s : State} {b : BayNo} (h : (s.bay b).state ≠ .disabled) (kind : FailureKind) (c : BayNo) :
    (s.failedExchange b kind).bay c =
      if c = b then (s.bay b).afterFailure s.config.loaded.failureLimit kind else s.bay c := by
  rw [State.failedExchange_eq h, BayRecord.afterFailure]
  split
  · rw [State.enterLost, State.raiseForBay, State.raise_bay, State.updBay_bay, State.updBay_bay_self]
    split
    · rfl
    · next hc => rw [State.updBay_bay_of_ne _ _ hc]
  · rw [State.updBay_bay]

/-- Settles O44: the record from the two cases of the count, the alert over the marks of the bay's changes. -/
theorem failedExchangeIsCounted : Obligations.FailedExchangeIsCounted := by
  intro s b kind hservice old t limit count
  refine ⟨SameElsewhere.eq_with (by simp [SameElsewhere, t]) (by simp [t]) (by simp [t]),
    fun c hc => (State.failedExchange_bay hservice kind c).trans (if_neg hc), ?_⟩
  have hbay := State.failedExchange_bay hservice kind b
  have hcounted := (MarksOnly.refl s).updBay b fun bay =>
    { bay with failureCount := min limit (bay.failureCount + 1), lastFailure := kind }
  rw [if_pos rfl, BayRecord.afterFailure] at hbay
  dsimp only [t]
  split
  · next hlost =>
    refine ⟨hbay.trans (if_pos hlost), ?_⟩
    rw [State.failedExchange_eq hservice, if_pos hlost, State.enterLost, State.raiseForBay, State.updBay_bay_self, State.updBay_bay_self]
    exact (hcounted.updBay b _).raises _ _ _
  · next hkept =>
    refine ⟨hbay.trans (if_neg hkept), ?_⟩
    rw [State.failedExchange_eq hservice, if_neg hkept]
    exact hcounted.only

end Sys2Proof.Machine
end

section
/-!
PROOF. Every step keeps the law of failure counts (R56) and the law of bindings, modes and unlisted tags (R43). `BayChange` says once
what a command can do to a bay's record; both laws are read off it.
-/

namespace Sys2Proof.Machine

open Sys2Proof

theorem State.bay_of_bays {s t : State} (h : t.bays = s.bays) (b : BayNo) : t.bay b = s.bay b := by
  rw [State.bay, h, State.bay]

/-! ### Rounds and publications (R58, R70, R71, R110) -/

/-- What arming, missing and sending leave of a bay's record: the armed flag, U and the missed slots may change, and a DOZE takes an
EMPTY bay into DOZING. -/
structure Visited (old new : BayRecord) : Prop where
  only : new =
    { old with state := new.state, armed := new.armed, unresolved := new.unresolved, missedSlots := new.missedSlots }
  state : new.state = old.state ∨ (old.state = .empty ∧ new.state = .dozing)

theorem Visited.refl (bay : BayRecord) : Visited bay bay := ⟨rfl, .inl rfl⟩

theorem Visited.trans {old mid new : BayRecord} (h : Visited old mid) (g : Visited mid new) : Visited old new := by
  refine ⟨?_, ?_⟩
  · have honly := g.only
    rw [h.only] at honly
    exact honly
  · obtain hs | ⟨he, hd⟩ := h.state
    · rw [← hs]
      exact g.state
    · obtain hs | ⟨he', _⟩ := g.state
      · exact .inr ⟨he, hs.trans hd⟩
      · cases hd.symm.trans he'

/-- From `s` to `t` every bay has at most been visited. -/
def VisitsBays (s t : State) : Prop := ∀ b, Visited (s.bay b) (t.bay b)

/-- DOZE is formed for an EMPTY bay alone (R72). -/
theorem State.frameFor_doze {s : State} {l : LaneNo} {d : Drop} (h : (s.frameFor l d).exchange.kind = .doze) :
    (s.bay (bayAt l d)).state = .empty := by
  have htable : (tableFrame s.config.loaded (s.allocator.front.get (bayAt l d)) d (s.bay (bayAt l d))).exchange.kind = .doze := by
    unfold State.frameFor standDownFrame at h
    dsimp only at h
    split at h
    · cases h
    · cases h
    · exact h
  cases hstate : (s.bay (bayAt l d)).state
  case empty => rfl
  all_goals
    rw [tableFrame, hstate] at htable
    dsimp only at htable
    (try split at htable) <;> cases htable

/-- Of the bays a publication leaves what the started rounds leave. -/
theorem State.publish_bays (s : State) (sn : Snapshot) :
    (s.publish sn).bays = (s.swapPlanes sn).armBays.clearSkips.startRounds.bays := by
  simp [State.publish]

namespace VisitsBays

variable {s x : State} (h : VisitsBays s x)

theorem refl (s : State) : VisitsBays s s := fun _ => .refl _

theorem of_bays {y : State} (hy : y.bays = s.bays) : VisitsBays s y := fun b => by
  rw [State.bay_of_bays hy]
  exact .refl _

include h

theorem trans {y : State} (g : VisitsBays x y) : VisitsBays s y := fun b => (h b).trans (g b)

theorem next {y : State} (hy : y.bays = x.bays) : VisitsBays s y := h.trans (.of_bays hy)

theorem updBay {b : BayNo} {f : BayRecord → BayRecord} (hf : Visited (x.bay b) (f (x.bay b))) : VisitsBays s (x.updBay b f) :=
  h.trans fun c => by
    rw [State.updBay_bay]
    split
    · next e => rwa [e]
    · exact .refl _

/-- A fold of operations that visit. -/
theorem foldl {α : Type} {g : State → α → State} (hg : ∀ y a, VisitsBays y (g y a)) (l : List α) : VisitsBays s (l.foldl g x) := by
  induction l generalizing x with
  | nil => exact h
  | cons a l ih => exact ih (h.trans (hg x a))

theorem visit (l : LaneNo) (start : Nat) : VisitsBays s (x.visit l start) := by
  unfold State.visit
  split
  · next d _ =>
    have hsent : Visited (x.bay (bayAt l d)) (sendToBay (x.frameFor l d).exchange (x.bay (bayAt l d))) := by
      refine ⟨rfl, ?_⟩
      unfold sendToBay
      dsimp only
      split
      · next hdoze => exact .inr ⟨State.frameFor_doze hdoze, rfl⟩
      · exact .inl rfl
    exact (h.updBay hsent).next (by simp [State.formFrame])
  · exact h.next (by simp)

theorem beginRound (l : LaneNo) : VisitsBays s (x.beginRound l) := (h.next (by simp)).visit l 0

theorem takeRoundStart (l : LaneNo) : VisitsBays s (x.takeRoundStart l) := by
  unfold State.takeRoundStart
  split
  · have hmissed : VisitsBays s ((x.abandonedDrops l).foldl (fun acc d => acc.missSlot (bayAt l d)) x) :=
      h.foldl (fun y d => (refl y).updBay (b := bayAt l d) ⟨rfl, .inl rfl⟩) _
    exact (hmissed.next (State.overrunAlert_keeps ..).2.2.1).beginRound l
  · exact h.beginRound l

theorem startRounds : VisitsBays s x.startRounds := by
  refine h.foldl (fun y l => ?_) _
  split
  · unfold State.startRound
    split
    · exact .of_bays (by simp)
    · exact (refl y).takeRoundStart l
  · exact refl y

theorem afterExchange (l : LaneNo) : VisitsBays s (x.afterExchange l) := by
  unfold State.afterExchange
  split
  · exact (h.next (by simp)).takeRoundStart l
  split
  · exact h.visit l _
  · exact h

theorem armBays : VisitsBays s x.armBays := by
  refine h.foldl (fun y b => ?_) _
  split
  · exact (refl y).updBay ⟨rfl, .inl rfl⟩
  · exact refl y

theorem publish (sn : Snapshot) : VisitsBays s (x.publish sn) := by
  have harmed : VisitsBays s (x.swapPlanes sn).armBays := (h.next (by simp)).armBays
  have hstarted := (harmed.next (y := (x.swapPlanes sn).armBays.clearSkips) (by simp)).startRounds
  exact hstarted.next (State.publish_bays x sn)

theorem skip (reason : SkipReason) : VisitsBays s (x.skip reason) := by
  have hstarted := (h.next (y := x.countSkip reason) (by simp)).startRounds
  exact hstarted.next (by simp [State.skip])

theorem onSample (p : Nat) : VisitsBays s (x.onSample p) := by
  unfold State.onSample
  split
  · exact h.next (by simp)
  · exact h.skip _

theorem sampleDone (codes : Option Codes) (interval : Word) : VisitsBays s (x.sampleDone codes interval) := by
  unfold State.sampleDone State.validSample State.invalidSample
  split
  · exact (h.next (by simp)).onSample _
  split
  · split
    · exact h.onSample _
    · exact h.skip _
  · exact h.skip _

theorem tickIn (order : TickOrder) : VisitsBays s (x.tickIn order) := by
  have hblocks : VisitsBays s (x.clockTick.blocksTick order) := h.next (by simp)
  unfold State.tickIn State.tickSample
  split
  · exact hblocks
  · exact hblocks.sampleDone _ _

end VisitsBays

/-! ### The changes of a record -/

/-- A release on CLOSING clears the bay's bound tag (R61). -/
theorem State.releaseForClosing_bay (s : State) (b c : BayNo) :
    (s.releaseForClosing b).bay c = if c = b then { s.bay b with boundTag := none } else s.bay c := by
  unfold State.releaseForClosing
  split
  · next hnone =>
    split
    · next e => rw [e, ← hnone]
    · rfl
  · unfold State.unbind State.bay
    rw [(State.closingClaim_keeps ..).2.1, (State.rosterRelease_keeps ..).2.1, ← State.bay, State.updBay_bay]
    rfl

/-- What a command can do to a bay's record, the resets apart. -/
inductive BayChange (limit : Nat) (old : BayRecord) : BayRecord → Prop
  | visited {new : BayRecord} (h : Visited old new) : BayChange limit old new
  | losesTag {new : BayRecord} (h : LosesTag old new) : BayChange limit old new
  | reported {linked new : BayRecord}
      (hlinked : linked =
        { old with
          failureCount := 0, confirmed := linked.confirmed, unresolved := linked.unresolved, unknown := linked.unknown
          postCeiling := linked.postCeiling, measuredPower := linked.measuredPower, lastGoodTime := linked.lastGoodTime
          lastGoodInterval := linked.lastGoodInterval, lastEnergy := linked.lastEnergy, toggle := linked.toggle
          meterBaseline := linked.meterBaseline })
      (h : Stepped linked new) : BayChange limit old new
  | failed (kind : FailureKind) : BayChange limit old (old.afterFailure limit kind)
  | enabled (hdisabled : old.state = .disabled) :
      BayChange limit old
        { old with
          state := .empty, toggle := false, unresolved := 0, confirmed := 0, unknown := true, meterBaseline := none,
          failureCount := 0, lastFailure := .noFailure, emptyRounds := 0, armed := false }
  | reopened (hclosing : old.state = .closing) : BayChange limit old { old with state := .empty, emptyRounds := 0 }
  | closing :
      BayChange limit old
        { old with state := .closing, boundTag := none, agreedMode := none, unlistedTag := none, emptyRounds := 0 }
  | capped (cap : Nat) : BayChange limit old { old with cap := cap }
  | permitted (ms : ModeSet) : BayChange limit old { old with permitted := ms }
  | agreesAgain (ms : ModeSet) (hsettled : old.state = .plugged ∨ old.state = .incompatible) :
      BayChange limit old { old with permitted := ms, state := .agreeing, agreedMode := none }

theorem BayChange.refl (limit : Nat) (bay : BayRecord) : BayChange limit bay bay := .visited (.refl bay)

/-- From `s` to `t` the failure limit stays and every bay's record has gone through changes. -/
structure Changes (s t : State) : Prop where
  limit : t.config.loaded.failureLimit = s.config.loaded.failureLimit
  bays : ∀ b, Relation.ReflTransGen (BayChange s.config.loaded.failureLimit) (s.bay b) (t.bay b)

namespace Changes

theorem refl (s : State) : Changes s s := ⟨rfl, fun _ => .refl⟩

variable {s x : State} (h : Changes s x)

include h

theorem step {y : State} (hc : y.config = x.config) (hy : ∀ b, BayChange s.config.loaded.failureLimit (x.bay b) (y.bay b)) :
    Changes s y := ⟨by rw [hc, h.limit], fun b => (h.bays b).tail (hy b)⟩

theorem visits {y : State} (hc : y.config = x.config) (hy : VisitsBays x y) : Changes s y := h.step hc fun b => .visited (hy b)

theorem next {y : State} (hc : y.config = x.config) (hy : y.bays = x.bays) : Changes s y := h.visits hc (.of_bays hy)

/-- The bays stay, and of the loaded set the failure limit. -/
theorem sameBays {y : State} (hl : y.config.loaded = x.config.loaded) (hy : y.bays = x.bays) : Changes s y :=
  ⟨by rw [hl, h.limit], fun b => by rw [State.bay_of_bays hy]; exact h.bays b⟩

theorem updBay {b : BayNo} {f : BayRecord → BayRecord} (hf : BayChange s.config.loaded.failureLimit (x.bay b) (f (x.bay b))) :
    Changes s (x.updBay b f) :=
  h.step (by simp) fun c => by
    rw [State.updBay_bay]
    split
    · next e => rwa [e]
    · exact .refl _ _

theorem goodReport (b : BayNo) (e : Exchange) (r : Report) : Changes s (x.goodReport b e r) := by
  obtain ⟨hown, hothers⟩ := x.goodReport_step b e r
  rw [State.reported_bay_self] at hown
  refine h.step (by simp) fun c => ?_
  by_cases hc : c = b
  · subst hc
    exact .reported rfl hown
  · exact .losesTag (hothers c hc)

theorem failedExchange (b : BayNo) (kind : FailureKind) : Changes s (x.failedExchange b kind) := by
  by_cases hd : (x.bay b).state = .disabled
  · have hsame : x.failedExchange b kind = x := if_neg fun hs => (BayState.inService_iff _).1 hs hd
    rwa [hsame]
  · refine h.step (by simp) fun c => ?_
    rw [State.failedExchange_bay hd, h.limit]
    split
    · next e => rw [e]; exact .failed kind
    · exact .refl _ _

theorem endExchange (l : LaneNo) (e : Exchange) (r : Receiver) : Changes s (x.endExchange l e r) := by
  have hhanded : Changes s (x.handOutcome l e (judgeExchange e r)) := by
    unfold State.handOutcome
    split
    · exact h.next (by simp) (by simp)
    split
    · exact h.goodReport _ _ _
    · exact h.failedExchange _ _
  exact (hhanded.next (by simp) (State.updLane_keeps ..).2.2.1).visits (by simp) ((VisitsBays.refl _).afterExchange l)

theorem enableBay (b : BayNo) : Changes s (x.enableBay b) := by
  unfold State.enableBay
  split
  · next hst => exact h.updBay (.enabled hst)
  · next hst => exact h.updBay (.reopened hst)
  all_goals exact h

theorem disableBay (b : BayNo) : Changes s (x.disableBay b) := by
  have hclosed : Changes s ((x.releaseForClosing b).updBay b fun bay =>
      { bay with state := .closing, boundTag := none, agreedMode := none, unlistedTag := none, emptyRounds := 0 }) := by
    refine h.step (by simp) fun c => ?_
    rw [State.updBay_bay, State.releaseForClosing_bay, State.releaseForClosing_bay, if_pos rfl]
    split
    · next e => rw [e]; exact .closing
    · exact .refl _ _
  unfold State.disableBay
  split
  · exact h
  · exact h
  all_goals exact hclosed

theorem setPermitted (ms : ModeSet) (b : BayNo) : Changes s (State.setPermitted ms x b) := by
  refine h.updBay ?_
  split
  · next hst => exact .agreesAgain ms (.inl hst)
  · next hst => exact .agreesAgain ms (.inr hst)
  all_goals exact .permitted ms

theorem answerSetBay (r : Request) {action : State → BayNo → State} (ha : ∀ b, Changes s (action x b)) :
    Changes s (x.answerSetBay r action).state := by
  unfold State.answerSetBay
  split
  · exact h
  split
  · exact h
  · exact ha _

end Changes

theorem Changes.answerRequest {s : State} {is : Request → Bool} {owner : Request → State → Answer}
    (ho : ∀ req, Changes s (owner req s.dequeue).state) : Changes s (s.answerRequest is owner) :=
  State.answerRequest_of (P := Changes s) (.refl s) ho fun _ _ _ _ hx => hx.next (by simp) (by simp)

/-! ### Every command -/

/-- The commands that give every bay the record of a reset. -/
def resetsBays : Instr → Bool
  | .powerOn _ _ | .resetLine _ _ | .configImageLoaded _ _ | .configReadTimeout | .restart => true
  | _ => false

theorem State.hostAccess_bays {s t : State} {write : Bool} {addr : Addr} {data : Word} {enables : BitVec 4}
    (h : s.hostAccess write addr data enables = .next t) : t.bays = s.bays := by
  unfold State.hostAccess at h
  split at h
  · cases h
  split at h
  · cases h
  · cases h
    simp

/-- The end of a calibration leaves the loaded set. -/
theorem State.completeCalibration_loaded (s : State) (origin : CalOrigin) (a1 a2 a3 : Nat) :
    (s.completeCalibration origin a1 a2 a3).config.loaded = s.config.loaded := by
  have hleft : ∀ x : State, x.leaveCalibrating.config.loaded = x.config.loaded := fun x => by
    unfold State.leaveCalibrating
    split <;> rfl
  unfold State.completeCalibration
  dsimp only
  split <;> simp [hleft]

/-- Every other command leads each bay's record through changes. -/
theorem exec_changes {i : Instr} {s t : State} (h : exec i s = .next t) (hi : resetsBays i = false) : Changes s t := by
  have hs := Changes.refl s
  have hd : Changes s s.dequeue := hs.next rfl rfl
  cases i with
  | powerOn _ _ | resetLine _ _ | configImageLoaded _ _ | configReadTimeout | restart => cases hi
  | hostAccess _ _ _ _ | planWordWrite _ _ _ _ | heartbeatWrite _ _ | alertConsumerIndexWrite _ _ | triggerWrite _ _ _
    | mirrorWriteStopped _ _ _ | fencedRead _ => exact hs.next (State.hostAccess_config h) (State.hostAccess_bays h)
  | startUpEnd =>
    cases h
    split
    · exact hs.sameBays (by simp) (by simp)
    · exact hs
  | tick =>
    cases h
    split
    · exact hs.visits (by simp) (VisitsBays.tickIn (.of_bays (by simp)) _)
    · exact hs
  | sampleCompletion l1 l2 l3 =>
    cases h
    split
    · exact hs
    · dsimp only
      split
      · exact hs.next rfl rfl
      · exact hs.visits (by simp) (VisitsBays.sampleDone (.of_bays (by simp)) _ _)
  | publication =>
    cases h
    split
    · exact hs.visits (by simp) ((VisitsBays.refl s).publish _)
    · exact hs
  | reportComplete l =>
    cases h
    split
    · split
      · exact hs.endExchange _ _ _
      · exact hs
    · exact hs
  | responseWindowExpiry l =>
    cases h
    split
    · exact hs.endExchange _ _ _
    · exact hs
  | calibrationCompletion l1 l2 l3 =>
    cases h
    split
    · exact hs.sameBays (by rw [State.completeCalibration_loaded]) (by simp)
    · exact hs
    · exact hs
  | book =>
    cases h
    refine .answerRequest fun r => ?_
    unfold State.answerBook State.takeBook
    (repeat' split) <;> exact hd.next (by simp) (by simp)
  | cancel =>
    cases h
    refine .answerRequest fun r => ?_
    unfold State.answerCancel
    split <;> exact hd.next (by simp) (by simp)
  | forget =>
    cases h
    refine .answerRequest fun r => ?_
    unfold State.answerForget
    (repeat' split) <;> exact hd.next (by simp) (by simp)
  | setClock => cases h; exact .answerRequest fun r => hd.next (by simp [State.answerSetClock]) (by simp [State.answerSetClock])
  | setBayEnable => cases h; exact .answerRequest fun r => hd.answerSetBay r hd.enableBay
  | setBayDisable => cases h; exact .answerRequest fun r => hd.answerSetBay r hd.disableBay
  | setBaySetCap => cases h; exact .answerRequest fun r => hd.answerSetBay r fun b => hd.updBay (.capped _)
  | setBaySetPermittedModes => cases h; exact .answerRequest fun r => hd.answerSetBay r (hd.setPermitted _)
  | setLimits =>
    cases h
    refine .answerRequest fun r => ?_
    unfold State.answerSetLimits
    (repeat' split) <;> exact hd.next rfl rfl
  | calibrate =>
    cases h
    exact hs.next (State.takeRequest_keeps State.config s _ _ rfl fun n r => by simp)
      (State.takeRequest_keeps State.bays s _ _ rfl fun n r => by simp)
  | unknownRequest => cases h; exact .answerRequest fun _ => hd
  | _ =>
    cases h
    (repeat' split) <;> exact hs.next (by simp) (by simp)

@[simp] theorem State.configFailed_bays (s : State) (reason : ConfigReason) :
    (s.configFailed reason).bays = resetBays Params.defaults s.config.straps := by
  simp [State.configFailed]

/-- The resets give every bay the record of a reset, but for one that cannot arise. -/
theorem exec_resetsBays {i : Instr} {s t : State} (h : exec i s = .next t) (hi : resetsBays i = true) :
    Changes s t ∨ ∃ p straps, t.bays = resetBays p straps := by
  have hs := Changes.refl s
  cases i with
  | powerOn straps level => cases h; exact .inr (s.startUp_rosterEmpty ..).2
  | resetLine straps level => cases h; exact .inr (s.startUp_rosterEmpty ..).2
  | configImageLoaded acked image =>
    cases h
    split
    · split
      · exact .inr ⟨_, _, State.takeParams_bays ..⟩
      · exact .inr ⟨_, _, State.configFailed_bays ..⟩
    · exact .inl hs
  | configReadTimeout =>
    cases h
    split
    · exact .inr ⟨_, _, State.configFailed_bays ..⟩
    · exact .inl hs
  | restart =>
    cases h
    refine State.answerRequest_of (P := fun t => Changes s t ∨ ∃ p straps, t.bays = resetBays p straps) (.inl hs)
      (fun _ => .inr (State.depotRestart_rosterEmpty _).2) fun x n c d hx => ?_
    exact hx.imp (fun hx => hx.next (by simp) (by simp)) fun hx => by simpa using hx
  | _ => cases hi

theorem resetBay_state (p : Params) (straps : Straps) (b : BayNo) :
    (resetBay p straps b).state = .empty ∨ (resetBay p straps b).state = .disabled := by
  unfold resetBay resetBayState
  split
  · exact .inl rfl
  · exact .inr rfl

/-! ### Laws of a bay's record -/

/-- A property of every bay's record, under the failure limit of the loaded set, that every change keeps and that a reset gives is kept
by every step. -/
theorem step_keepsBays {P : Nat → BayRecord → Prop} (hchange : ∀ n old new, BayChange n old new → P n old → P n new)
    (hreset : ∀ n p straps b, P n (resetBay p straps b)) {s t : State}
    (hs : ∀ b, P s.config.loaded.failureLimit (s.bay b)) (hstep : step s = .next t) :
    ∀ b, P t.config.loaded.failureLimit (t.bay b) := by
  have kept : ∀ {n old new}, Relation.ReflTransGen (BayChange n) old new → P n old → P n new := fun h hold => by
    induction h with
    | refl => exact hold
    | tail _ hlast ih => exact hchange _ _ _ hlast ih
  unfold step at hstep
  split at hstep
  · cases hstep
    exact hs
  · next c rest _ =>
    have changes : Changes { s with pending := rest } t → ∀ b, P t.config.loaded.failureLimit (t.bay b) := fun h b => by
      rw [h.limit]
      exact kept (h.bays b) (hs b)
    cases hi : resetsBays c
    · exact changes (exec_changes hstep hi)
    · obtain h | ⟨p, straps, h⟩ := exec_resetsBays hstep hi
      · exact changes h
      · intro b
        rw [State.bay, h, resetBays, ofFn_get]
        exact hreset _ p straps b

/-! ### The law of failure counts (R56) -/

/-- The failure law of one record. -/
structure BayRecord.Counted (limit : Nat) (bay : BayRecord) : Prop where
  bounded : bay.failureCount ≤ limit
  lost : bay.state = .lost → bay.failureCount = limit

theorem failureLaw_iff (s : State) : FailureLaw s ↔ ∀ b, (s.bay b).Counted s.config.loaded.failureLimit :=
  ⟨fun h b => ⟨(h b).1, (h b).2⟩, fun h b => ⟨(h b).bounded, (h b).lost⟩⟩

/-- A record out of LOST with a count of 0, and one that keeps its count. -/
theorem BayRecord.Counted.of_zero {limit : Nat} {bay : BayRecord} (hn : bay.failureCount = 0) (hs : bay.state ≠ .lost) :
    bay.Counted limit := ⟨hn ▸ Nat.zero_le _, fun h => (hs h).elim⟩

theorem BayRecord.Counted.next {limit : Nat} {old new : BayRecord} (h : old.Counted limit)
    (hn : new.failureCount = old.failureCount) (hs : new.state = .lost → old.state = .lost) : new.Counted limit :=
  ⟨hn ▸ h.bounded, fun hl => hn.trans (h.lost (hs hl))⟩

/-- No state step leaves a bay in LOST. -/
theorem Stepped.state_ne_lost {old new : BayRecord} (h : Stepped old new) : new.state ≠ .lost := by
  cases h with
  | kept hlost => exact hlost
  | counted hempty n => simp [hempty]
  | _ => simp [BayRecord.unplugged]

theorem BayRecord.Counted.change {limit : Nat} {old new : BayRecord} (hc : BayChange limit old new) (h : old.Counted limit) :
    new.Counted limit := by
  cases hc with
  | visited hv =>
    refine h.next (by rw [hv.only]) fun hl => ?_
    obtain hs | ⟨_, hs⟩ := hv.state
    · exact hs.symm.trans hl
    · cases hs.symm.trans hl
  | losesTag hl =>
    cases hl with
    | kept => exact h
    | migrated _ => exact h.next rfl id
    | clashed t => exact h.next rfl nofun
  | reported hlinked hstep => exact .of_zero (by rw [hstep.only, hlinked]) hstep.state_ne_lost
  | failed kind =>
    unfold BayRecord.afterFailure
    split
    · next hlost => exact ⟨min_le_left _ _, fun _ => hlost.1⟩
    · refine ⟨min_le_left _ _, fun hl => ?_⟩
      have hcount : old.failureCount = limit := h.lost hl
      simp [hcount]
  | enabled _ => exact .of_zero rfl nofun
  | reopened _ => exact h.next rfl nofun
  | closing => exact h.next rfl nofun
  | capped _ => exact h.next rfl id
  | permitted _ => exact h.next rfl id
  | agreesAgain _ _ => exact h.next rfl nofun

/-- Settles O53: every change of a record keeps its failure law, and a reset gives it. -/
theorem stepsKeepTheFailureLaw : Obligations.StepsKeepTheFailureLaw := by
  intro s t hs hstep
  rw [failureLaw_iff] at *
  refine step_keepsBays (P := BayRecord.Counted) (fun _ _ _ hc => .change hc) (fun n p straps b => .of_zero rfl ?_) hs hstep
  obtain h | h := resetBay_state p straps b <;> simp [h]

/-! ### The law of bindings, modes and unlisted tags (R43) -/

/-- What R43's table has a bay hold in its state. -/
def BayRecord.Settled (bay : BayRecord) : Prop :=
  match bay.state with
  | .disabled | .closing | .empty | .dozing => bay.boundTag = none ∧ bay.agreedMode = none ∧ bay.unlistedTag = none
  | .agreeing | .incompatible => bay.boundTag.isSome = true ∧ bay.agreedMode = none ∧ bay.unlistedTag = none
  | .plugged => bay.boundTag.isSome = true ∧ bay.agreedMode.isSome = true ∧ bay.unlistedTag = none
  | .unlisted => bay.boundTag = none ∧ bay.agreedMode = none ∧ bay.unlistedTag.isSome = true
  | .faulted | .lost => bay.agreedMode = none ∧ bay.unlistedTag = none

theorem bindingLaw_iff (s : State) : BindingLaw s ↔ ∀ b, (s.bay b).Settled := by
  refine forall_congr' fun b => ?_
  unfold BayRecord.Settled
  cases hstate : (s.bay b).state <;> simp [Option.isSome_iff_ne_none] <;> tauto

theorem BayRecord.Settled.of_same {old new : BayRecord} (h : old.Settled) (hs : new.state = old.state)
    (hb : new.boundTag = old.boundTag) (ha : new.agreedMode = old.agreedMode) (hu : new.unlistedTag = old.unlistedTag) :
    new.Settled := by
  unfold BayRecord.Settled at *
  rwa [hs, hb, ha, hu]

theorem BayRecord.Settled.step {old new : BayRecord} (hstep : Stepped old new) (h : old.Settled) : new.Settled := by
  cases hstep with
  | kept _ => exact h
  | counted _ n => exact h.of_same rfl rfl rfl rfl
  | closed hclosing => rwa [BayRecord.Settled, hclosing] at h
  | refused => exact ⟨rfl, rfl⟩
  | unplugged => exact ⟨rfl, rfl, rfl⟩
  | bound t => exact ⟨rfl, rfl, rfl⟩
  | unlisted t => exact ⟨rfl, rfl, rfl⟩
  | returned hleft hbound =>
    obtain hst | hst := hleft <;> rw [BayRecord.Settled, hst] at h
    all_goals exact ⟨hbound, rfl, h.2⟩
  | agreed hagreeing m =>
    rw [BayRecord.Settled, hagreeing] at h
    obtain ⟨hbound, _, hunlisted⟩ := h
    exact ⟨hbound, rfl, hunlisted⟩
  | incompatible hagreeing => rwa [BayRecord.Settled, hagreeing] at h

theorem BayRecord.Settled.change {limit : Nat} {old new : BayRecord} (hc : BayChange limit old new) (h : old.Settled) :
    new.Settled := by
  cases hc with
  | visited hv =>
    obtain hs | ⟨hempty, hdozing⟩ := hv.state
    · exact h.of_same hs (by rw [hv.only]) (by rw [hv.only]) (by rw [hv.only])
    · rw [BayRecord.Settled, hempty] at h
      rw [BayRecord.Settled, hdozing, hv.only]
      exact h
  | losesTag hl =>
    cases hl with
    | kept => exact h
    | migrated hlost =>
      rw [BayRecord.Settled, hlost] at h
      rwa [BayRecord.Settled, hlost]
    | clashed t => exact ⟨rfl, rfl, rfl⟩
  | reported hlinked hstep =>
    refine .step hstep ?_
    rw [hlinked]
    exact h.of_same rfl rfl rfl rfl
  | failed kind =>
    unfold BayRecord.afterFailure
    split
    · exact ⟨rfl, rfl⟩
    · exact h.of_same rfl rfl rfl rfl
  | enabled hdisabled => rwa [BayRecord.Settled, hdisabled] at h
  | reopened hclosing => rwa [BayRecord.Settled, hclosing] at h
  | closing => exact ⟨rfl, rfl, rfl⟩
  | capped _ => exact h.of_same rfl rfl rfl rfl
  | permitted _ => exact h.of_same rfl rfl rfl rfl
  | agreesAgain _ hsettled =>
    obtain hst | hst := hsettled <;> rw [BayRecord.Settled, hst] at h
    all_goals
      obtain ⟨hbound, _, hunlisted⟩ := h
      exact ⟨hbound, rfl, hunlisted⟩

/-- Settles O54: every change of a record keeps what R43 has it hold, and a reset gives it. -/
theorem stepsKeepTheBindingLaw : Obligations.StepsKeepTheBindingLaw := by
  intro s t hs hstep
  rw [bindingLaw_iff] at *
  refine step_keepsBays (P := fun _ => BayRecord.Settled) (fun _ _ _ hc => .change hc) (fun n p straps b => ?_) hs hstep
  obtain h | h := resetBay_state p straps b <;> rw [BayRecord.Settled, h]
  all_goals exact ⟨rfl, rfl, rfl⟩

end Sys2Proof.Machine
end

section
/-!
PROOF. Every reset sets every bay record, and a cold reset the loaded set and the start-up step (R66, R152, R155).
-/

namespace Sys2Proof.Machine

open Sys2Proof

/-- The bays of a reset with the loaded set and the straps of the state are as R66 has them. -/
theorem bayIsReset_of_bays {t : State} (h : t.bays = resetBays t.config.loaded t.config.straps) (b : BayNo) : BayIsReset t b := by
  have hbay : t.bay b = resetBay t.config.loaded t.config.straps b := by rw [State.bay, h, resetBays, ofFn_get]
  rw [BayIsReset, hbay]
  exact ⟨rfl, rfl⟩

/-- The configuration as the loader has taken a set (R154, R155). -/
theorem State.takeParams_config (s : State) (p : Params) (src : ConfigSource) :
    (s.takeParams p src).config =
      { s.config with
        loaded := p, source := src, step := if s.meter.offsets = none then .calibrating else .ending } := by
  unfold State.takeParams State.beginStartUpCalibration State.handOverParams
  cases s.meter.offsets <;> rfl

/-- As the loader has taken a set every bay is reset from it. -/
theorem State.takeParams_bayIsReset (s : State) (p : Params) (src : ConfigSource) (b : BayNo) :
    BayIsReset (s.takeParams p src) b :=
  bayIsReset_of_bays (by rw [State.takeParams_bays, State.takeParams_config]) b

/-- Bays and configuration are as in a state whose bays are reset. -/
theorem bayIsReset_of_same {s t : State} {b : BayNo} (h : BayIsReset s b) (hb : t.bays = s.bays) (hc : t.config = s.config) :
    BayIsReset t b := by
  unfold BayIsReset at *
  rwa [State.bay_of_bays hb, hc]

/-- The configuration as a power-on or RESET line ends (R152, R155; log entry 25). -/
theorem State.startUp_config (s : State) (straps : Straps) (level : Level) (offsets : Option Offsets) (g : Generations) :
    (s.startUp straps level offsets g).config =
      { straps := straps, loaded := Params.defaults, source := .defaults, driversReleased := false
        step := if straps.cfgSrcHigh = true then .loading else if offsets = none then .calibrating else .ending } := by
  unfold State.startUp
  dsimp only
  simp only [State.arbitrate_keeps]
  split
  · rfl
  · rw [State.takeParams_config]
    rfl

/-- A power-on and the RESET line reset every bay, from the defaults and the straps sampled. -/
theorem State.startUp_bayIsReset (s : State) (straps : Straps) (level : Level) (offsets : Option Offsets) (g : Generations)
    (b : BayNo) : BayIsReset (s.startUp straps level offsets g) b := by
  unfold State.startUp
  dsimp only
  split
  · exact bayIsReset_of_same (bayIsReset_of_bays (t := s.coldReset straps level offsets g) rfl b) (by simp) (by simp)
  · exact bayIsReset_of_same ((s.coldReset straps level offsets g).takeParams_bayIsReset .defaults .defaults b) (by simp) (by simp)

/-- A failed image resets every bay, from the defaults. -/
theorem State.configFailed_bayIsReset (s : State) (reason : ConfigReason) (b : BayNo) : BayIsReset (s.configFailed reason) b :=
  bayIsReset_of_same (s.takeParams_bayIsReset .defaults .defaults b) (by simp [State.configFailed]) (by simp [State.configFailed])

theorem State.configFailed_config (s : State) (reason : ConfigReason) :
    (s.configFailed reason).config = (s.takeParams Params.defaults .defaults).config := by
  simp [State.configFailed]

theorem State.depotRestart_bayIsReset (s : State) (b : BayNo) : BayIsReset s.depotRestart b :=
  bayIsReset_of_bays (by simp [State.depotRestart]) b

/-- Settles O3: reset by reset, from the bays and the configuration that each leaves. -/
theorem everyResetSetsTheBays : Obligations.EveryResetSetsTheBays := by
  refine ⟨fun straps level s => ?_, fun straps level s => ?_, fun acked image s hl => ?_, fun s hl => ?_, fun s n req rest h hcode => ?_⟩
  · exact ⟨_, rfl, s.startUp_config straps level none _, s.startUp_bayIsReset straps level none _⟩
  · exact ⟨_, rfl, s.startUp_config straps level _ _, s.startUp_bayIsReset straps level _ _⟩
  · refine ⟨_, rfl, ?_⟩
    rw [if_pos hl]
    split
    · exact ⟨by rw [State.takeParams_config], s.takeParams_bayIsReset _ _⟩
    · exact ⟨by rw [State.configFailed_config, State.takeParams_config], s.configFailed_bayIsReset _⟩
  · refine ⟨_, rfl, ?_⟩
    rw [if_pos hl, State.configFailed_config, State.takeParams_config]
    exact ⟨rfl, rfl, s.configFailed_bayIsReset _⟩
  · exact ⟨_, h.restart hcode, by simp [State.dequeue], fun b =>
      bayIsReset_of_same (s.dequeue.depotRestart_bayIsReset b) (by simp) (by simp)⟩

end Sys2Proof.Machine
end

section
/-!
PROOF. SET BAY: the checks in their order, and what each of the four actions does (R11, R29, R61, R62).
-/

namespace Sys2Proof.Machine

open Sys2Proof

/-! ### The checks (R61) -/

section

variable {s : State} {r : Request} (action : State → BayNo → State)

theorem State.answerSetBay_number (h : 48 ≤ r.word 0) : s.answerSetBay r action = { state := s, code := .badField, detail := 1 } := by
  rw [State.answerSetBay, bayNumber, dif_neg (by omega)]

variable {b : BayNo} (hb : r.word 0 = b.val)

include hb

theorem bayNumber_val : bayNumber (r.word 0) = some b := by
  rw [bayNumber, dif_pos (by omega)]
  exact congrArg some (Fin.ext hb)

theorem State.answerSetBay_refused {check : Nat} (h : s.setBayCheck r b = some check) :
    s.answerSetBay r action = { state := s, code := .badField, detail := check } := by
  simp only [State.answerSetBay, bayNumber_val hb, h]

theorem State.answerSetBay_taken (h : s.setBayCheck r b = none) :
    s.answerSetBay r action = { state := action s b, code := .done, detail := ((action s b).bay b).state.code } := by
  simp only [State.answerSetBay, bayNumber_val hb, h]

end

/-- A bay's lane is in service. -/
theorem State.laneInService_laneOf (s : State) (b : BayNo) :
    s.laneInService (laneOf b) = true ↔ b.val / 8 < lanesInService s.config.straps := decide_eq_true_iff

theorem Request.setBayValueOk_plain {r : Request} (h3 : r.word 1 ≠ 3) (h4 : r.word 1 ≠ 4) : r.setBayValueOk = true := by
  simp [Request.setBayValueOk, h3, h4]

theorem Request.setBayValueOk_cap {r : Request} (h : r.word 1 = 3) : r.setBayValueOk = true ↔ r.word 2 ≤ 220 := by
  simp [Request.setBayValueOk, h]

theorem Request.setBayValueOk_permitted {r : Request} (h : r.word 1 = 4) : r.setBayValueOk = true ↔ r.word 2 < 16 := by
  simp [Request.setBayValueOk, h]

theorem State.setBayCheck_lane {s : State} (r : Request) {b : BayNo} (h : lanesInService s.config.straps ≤ b.val / 8) :
    s.setBayCheck r b = some 2 := by
  have hl : ¬s.laneInService (laneOf b) = true := by
    rw [State.laneInService_laneOf]
    omega
  simp [State.setBayCheck, hl]

section

variable {s : State} {r : Request} {b : BayNo} (hl : b.val / 8 < lanesInService s.config.straps)

include hl

theorem State.setBayCheck_action (h : r.word 1 = 0 ∨ 4 < r.word 1) : s.setBayCheck r b = some 3 := by
  simp [State.setBayCheck, (s.laneInService_laneOf b).2 hl, h]

theorem State.setBayCheck_value (h : ¬(r.word 1 = 0 ∨ 4 < r.word 1)) :
    s.setBayCheck r b = if r.setBayValueOk = true then none else some 4 := by
  cases hv : r.setBayValueOk <;> simp [State.setBayCheck, (s.laneInService_laneOf b).2 hl, h, hv]

end

/-! ### The answer -/

/-- The command of an action takes a SET BAY with that action, and with an action outside 1 to 4. -/
theorem Requested.setBay {s : State} {n : SlotNo} {req : Request} {rest : List SlotNo} (h : Requested s n req rest)
    (hcode : req.code = 0x11) {k : Nat} (hk : req.word 1 = k ∨ req.word 1 = 0 ∨ 4 < req.word 1)
    (owner : Request → State → Answer) : s.answerRequest (fun r => r.isSetBay k) owner = (owner req s.dequeue).store n := by
  rw [State.answerRequest, h.takeRequest _ (by simpa [Request.isSetBay, hcode, or_assoc] using hk)]

/-- The request is answered, and nothing outside roster, book, bays, Plan Intake, the Path Unit and the Mirror Writer has changed. -/
structure AnsweredHere (s t : State) (n : SlotNo) (req : Request) (rest : List SlotNo) (code : ResultCode) (detail : Nat) : Prop where
  answered : Answered s t n req rest code detail
  only : t = { s with roster := t.roster, book := t.book, bays := t.bays, intake := t.intake, mirror := t.mirror, path := t.path }
  mirror : t.mirror = { s.mirror with dirty := t.mirror.dirty, backlog := t.mirror.backlog }

/-- The answer of an owner that has marked records and has changed nothing outside roster, book and bays. -/
theorem Requested.stored {s : State} {n : SlotNo} {req : Request} {rest : List SlotNo} (h : Requested s n req rest) {a : Answer}
    (hmarks : MarksOnly s.dequeue a.state) (hblocks : SameElsewhere s.dequeue a.state) :
    AnsweredHere s (a.store n) n req rest a.code a.detail := by
  have hm : a.state.mirror = { s.mirror with dirty := a.state.mirror.dirty } := hmarks.only
  obtain ⟨h1, h2, h3, h4, hpath, hintake, h5, h6, h7, h8⟩ := hblocks
  refine ⟨State.storeResult_answered h hintake hpath (by rw [hm]) _ _, ?_, ?_⟩
  · refine SameElsewhere.eq (s := { s with intake := (a.store n).intake, path := (a.store n).path }) ?_
    simpa [SameElsewhere, Answer.store] using ⟨h1, h2, h3, h4, h5, h6, h7, h8⟩
  · unfold Answer.store State.storeResult
    split
    · rw [hm]
    · simp only [State.mark, State.setSlot_keeps]
      rw [hm]

/-- The part behind the answer, where its roster, book and bays are known. -/
theorem AnsweredHere.only_with {s t : State} {n : SlotNo} {req : Request} {rest : List SlotNo} {code : ResultCode} {detail : Nat}
    (h : AnsweredHere s t n req rest code detail) {ro : VanRoster} {book : List Booking} {bays : Vector BayRecord 48}
    (hr : t.roster = ro) (hb : t.book = book) (hy : t.bays = bays) :
    t = { s with roster := ro, book := book, bays := bays, intake := t.intake, mirror := t.mirror, path := t.path } := by
  subst hr hb hy
  exact h.only

/-! ### The actions (R61, R62) -/

/-- From `s` to `x` bay `b`'s record has become `bay`, with marks, and no other block has changed. -/
structure BayBecomes (s x : State) (b : BayNo) (bay : BayRecord) : Prop where
  marks : MarksOnly s x
  blocks : SameElsewhere s x
  roster : x.roster = s.roster
  book : x.book = s.book
  bays : ∀ c, x.bay c = if c = b then bay else s.bay c

theorem BayBecomes.refl (s : State) (b : BayNo) : BayBecomes s s b (s.bay b) :=
  ⟨.refl s, by simp [SameElsewhere], rfl, rfl, fun _ => (ite_eq_right_iff.2 fun e => by rw [e]).symm⟩

theorem BayBecomes.updBay (s : State) (b : BayNo) (f : BayRecord → BayRecord) : BayBecomes s (s.updBay b f) b (f (s.bay b)) :=
  ⟨(MarksOnly.refl s).updBay b f, by simp [SameElsewhere], by simp, by simp, fun c => s.updBay_bay b c f⟩

theorem BayBecomes.of_eq {s x : State} {b : BayNo} {bay new : BayRecord} (h : BayBecomes s x b bay) (e : bay = new) :
    BayBecomes s x b new := e ▸ h

/-- The record that enable leaves. -/
def BayRecord.enabled (old : BayRecord) : BayRecord :=
  if old.state = .disabled then
    { old with
      state := .empty, toggle := false, unresolved := 0, confirmed := 0, unknown := true, meterBaseline := none,
      failureCount := 0, lastFailure := .noFailure, emptyRounds := 0, armed := false }
  else if old.state = .closing then { old with state := .empty, emptyRounds := 0 }
  else old

theorem State.enableBay_becomes (s : State) (b : BayNo) : BayBecomes s (s.enableBay b) b (s.bay b).enabled := by
  unfold State.enableBay BayRecord.enabled
  split
  case h_1 h =>
    rw [if_pos h]
    exact .updBay s b _
  case h_2 h =>
    rw [if_neg (by simp [h]), if_pos h]
    exact .updBay s b _
  all_goals
    next h =>
    rw [if_neg (by simp [h]), if_neg (by simp [h])]
    exact .refl s b

/-- The record that set permitted modes leaves. -/
def BayRecord.withPermitted (ms : ModeSet) (old : BayRecord) : BayRecord :=
  if old.state = .plugged ∨ old.state = .incompatible then { old with permitted := ms, state := .agreeing, agreedMode := none }
  else { old with permitted := ms }

theorem State.setPermitted_becomes (ms : ModeSet) (s : State) (b : BayNo) :
    BayBecomes s (State.setPermitted ms s b) b ((s.bay b).withPermitted ms) := by
  unfold State.setPermitted BayRecord.withPermitted
  refine BayBecomes.of_eq (.updBay s b _) ?_
  cases (s.bay b).state <;> rfl

theorem State.disableBay_unchanged {s : State} {b : BayNo} (h : (s.bay b).state = .disabled ∨ (s.bay b).state = .closing) :
    s.disableBay b = s := by
  unfold State.disableBay
  obtain h | h := h <;> rw [h]

/-- The booking that a release on CLOSING leaves. -/
theorem State.closingClaim_book {s : State} (hn : (s.book.map Booking.tag).Nodup) (t : Tag) :
    (s.closingClaim t).book = s.book.map fun k => if k.tag = t then { k with state := k.state.released } else k := by
  unfold State.closingClaim
  split
  · next hk => exact (map_tag_id fun k hk' ht => (State.booking_none.1 hk k hk' ht).elim).symm
  · next k hk =>
    rw [State.moveBooking_book]
    refine List.map_congr_left fun j hj => ?_
    split
    · next ht => rw [State.eq_booking hn hk hj ht]
    · rfl

theorem MarksOnly.closingClaim {s x : State} (h : MarksOnly s x) (t : Tag) : MarksOnly s (x.closingClaim t) := by
  unfold State.closingClaim
  split
  · exact h
  · exact h.moveBooking t _

theorem MarksOnly.releaseForClosing (s : State) (b : BayNo) : MarksOnly s (s.releaseForClosing b) := by
  unfold State.releaseForClosing
  split
  · exact .refl s
  · exact ((MarksOnly.refl s).unbind b _).closingClaim _

/-- What a release on CLOSING does to roster and book (R11, R29). -/
theorem PairingLaw.releaseForClosing {s : State} (hs : PairingLaw s) (hn : (s.book.map Booking.tag).Nodup) (b : BayNo) :
    (s.releaseForClosing b).roster.agingPosition = s.roster.agingPosition ∧
      (∀ i, (s.releaseForClosing b).roster.entries.get i = (s.roster.entries.get i).map (RosterEntry.parkedFrom b)) ∧
      (s.releaseForClosing b).book = s.book.map fun k =>
        if (s.bay b).boundTag = some k.tag then { k with state := k.state.released } else k := by
  unfold State.releaseForClosing
  cases hb : (s.bay b).boundTag with
  | none =>
    obtain ⟨hroster, _⟩ := hs.released_of_none hb
    refine ⟨rfl, fun i => ?_, by simp⟩
    exact (congrArg (fun ro => ro.entries.get i) hroster).trans (by simp [releasedFrom, vector_get_eq]; rfl)
  | some t =>
    refine ⟨by simp [State.unbind], fun i => ?_, ?_⟩
    · rw [(State.closingClaim_keeps ..).1, hs.unbind_get hb]
    · have hbook : (s.unbind b t).book = s.book := by simp
      rw [State.closingClaim_book (by rwa [hbook]), hbook]
      simp [eq_comm]

/-! ### The command as a whole -/

/-- Every SET BAY command is answered with an action of its own, and by the same checks. -/
theorem Requested.exec_setBay {s : State} {n : SlotNo} {req : Request} {rest : List SlotNo} (h : Requested s n req rest)
    (hcode : req.code = 0x11) {c : Instr} {k : Nat}
    (hmem : (c, k) ∈ [(Instr.setBayEnable, 1), (Instr.setBayDisable, 2), (Instr.setBaySetCap, 3), (Instr.setBaySetPermittedModes, 4)])
    (hk : req.word 1 = k ∨ req.word 1 = 0 ∨ 4 < req.word 1) :
    ∃ action, exec c s = .next ((s.dequeue.answerSetBay req action).store n) := by
  simp only [List.mem_cons, Prod.mk.injEq, List.not_mem_nil, or_false] at hmem
  obtain ⟨rfl, rfl⟩ | ⟨rfl, rfl⟩ | ⟨rfl, rfl⟩ | ⟨rfl, rfl⟩ := hmem
  all_goals exact ⟨_, congrArg Host.Outcome.next (h.setBay hcode hk _)⟩

/-- The checks of SET BAY, in their order. -/
theorem State.setBay_checks (s : State) (req : Request) (action : State → BayNo → State) :
    let fails (check : Nat) : Prop := s.answerSetBay req action = { state := s, code := .badField, detail := check }
    (48 ≤ req.word 0 → fails 1) ∧
    ∀ b : BayNo, req.word 0 = b.val →
      (lanesInService s.config.straps ≤ b.val / 8 → fails 2) ∧
      (b.val / 8 < lanesInService s.config.straps →
        (req.word 1 = 0 ∨ 4 < req.word 1 → fails 3) ∧ (req.word 1 = 3 → 220 < req.word 2 → fails 4) ∧
        (req.word 1 = 4 → 16 ≤ req.word 2 → fails 4)) := by
  refine ⟨State.answerSetBay_number action, fun b hb => ⟨fun hl => ?_, fun hl => ⟨fun h1 => ?_, fun h1 h2 => ?_, fun h1 h2 => ?_⟩⟩⟩
  · exact State.answerSetBay_refused action hb (State.setBayCheck_lane req hl)
  · exact State.answerSetBay_refused action hb (State.setBayCheck_action hl h1)
  · refine State.answerSetBay_refused action hb ?_
    rw [State.setBayCheck_value hl (by omega), if_neg (by rw [Request.setBayValueOk_cap h1]; omega)]
  · refine State.answerSetBay_refused action hb ?_
    rw [State.setBayCheck_value hl (by omega), if_neg (by rw [Request.setBayValueOk_permitted h1]; omega)]

section

variable {s : State} {n : SlotNo} {req : Request} {rest : List SlotNo} (h : Requested s n req rest) {b : BayNo}
  (hb : req.word 0 = b.val) (hl : b.val / 8 < lanesInService s.config.straps)

include hb hl

/-- A SET BAY that passes the checks is answered by its action. -/
theorem Requested.setBay_taken (action : State → BayNo → State) (h1 : ¬(req.word 1 = 0 ∨ 4 < req.word 1))
    (hv : req.setBayValueOk = true) :
    s.dequeue.answerSetBay req action =
      { state := action s.dequeue b, code := .done, detail := ((action s.dequeue b).bay b).state.code } :=
  State.answerSetBay_taken action hb (by rw [State.setBayCheck_value (s := s.dequeue) hl h1, if_pos hv])

include h

/-- A SET BAY whose action changes the bay's record alone. -/
theorem Requested.setBay_becomes {action : State → BayNo → State} {bay : BayRecord}
    (hbay : BayBecomes s.dequeue (action s.dequeue b) b bay) (h1 : ¬(req.word 1 = 0 ∨ 4 < req.word 1))
    (hv : req.setBayValueOk = true) :
    let t := (s.dequeue.answerSetBay req action).store n
    Answered s t n req rest .done bay.state.code ∧
      t = { s with bays := t.bays, intake := t.intake, mirror := t.mirror, path := t.path } ∧
      t.mirror = { s.mirror with dirty := t.mirror.dirty, backlog := t.mirror.backlog } ∧
      t.bay b = bay ∧ ∀ c, c ≠ b → t.bay c = s.bay c := by
  have hown : (action s.dequeue b).bay b = bay := (hbay.bays b).trans (if_pos rfl)
  rw [Requested.setBay_taken hb hl action h1 hv, hown]
  have hstored := h.stored (a := { state := action s.dequeue b, code := .done, detail := bay.state.code }) hbay.marks hbay.blocks
  have hbays (c : BayNo) : (Answer.store { state := action s.dequeue b, code := .done, detail := bay.state.code } n).bay c =
      (action s.dequeue b).bay c := State.bay_of_bays (by simp [Answer.store]) c
  refine ⟨hstored.answered, ?_, hstored.mirror, (hbays b).trans hown, fun c hc => (hbays c).trans ((hbay.bays c).trans (if_neg hc))⟩
  exact hstored.only_with (by simpa [Answer.store] using hbay.roster) (by simpa [Answer.store] using hbay.book) rfl

end

/-- Disable of a bay in service that is not CLOSING: its release, and CLOSING. -/
theorem State.disableBay_closes {s : State} {b : BayNo} (hd : (s.bay b).state ≠ .disabled) (hc : (s.bay b).state ≠ .closing) :
    s.disableBay b =
      (s.releaseForClosing b).updBay b fun bay =>
        { bay with state := .closing, boundTag := none, agreedMode := none, unlistedTag := none, emptyRounds := 0 } := by
  unfold State.disableBay
  split
  · next h => exact absurd h hd
  · next h => exact absurd h hc
  all_goals rfl

/-- The record that disable leaves of a bay in service. -/
def BayRecord.closed (old : BayRecord) : BayRecord :=
  { old with state := .closing, boundTag := none, agreedMode := none, unlistedTag := none, emptyRounds := 0 }

/-- What disable does: the release without a departure judgement, and CLOSING. -/
theorem State.disableBay_spec {s : State} {b : BayNo} (hd : (s.bay b).state ≠ .disabled) (hc : (s.bay b).state ≠ .closing)
    (hs : PairingLaw s) (hn : (s.book.map Booking.tag).Nodup) :
    MarksOnly s (s.disableBay b) ∧ SameElsewhere s (s.disableBay b) ∧
      (∀ c, (s.disableBay b).bay c = if c = b then (s.bay b).closed else s.bay c) ∧
      (s.disableBay b).roster.agingPosition = s.roster.agingPosition ∧
      (∀ i, (s.disableBay b).roster.entries.get i = (s.roster.entries.get i).map (RosterEntry.parkedFrom b)) ∧
      (s.disableBay b).book = s.book.map fun k =>
        if (s.bay b).boundTag = some k.tag then { k with state := k.state.released } else k := by
  rw [State.disableBay_closes hd hc, (State.updBay_keeps ..).1, (State.updBay_keeps ..).2.1]
  refine ⟨(MarksOnly.releaseForClosing s b).updBay b _, by simp [SameElsewhere], fun c => ?_, hs.releaseForClosing hn b⟩
  rw [State.updBay_bay, State.releaseForClosing_bay, State.releaseForClosing_bay, if_pos rfl]
  split
  · rfl
  · rfl

/-- A SET BAY that disables a bay in service that is not CLOSING. -/
theorem Requested.setBay_closes {s : State} {n : SlotNo} {req : Request} {rest : List SlotNo} (h : Requested s n req rest) {b : BayNo}
    (hb : req.word 0 = b.val) (hl : b.val / 8 < lanesInService s.config.straps) (h1 : req.word 1 = 2)
    (hd : (s.bay b).state ≠ .disabled) (hc : (s.bay b).state ≠ .closing) (hs : PairingLaw s) (hn : (s.book.map Booking.tag).Nodup) :
    let t := (s.dequeue.answerSetBay req State.disableBay).store n
    Answered s t n req rest .done 1 ∧
      t = { s with bays := t.bays, roster := t.roster, book := t.book, intake := t.intake, mirror := t.mirror, path := t.path } ∧
      t.mirror = { s.mirror with dirty := t.mirror.dirty, backlog := t.mirror.backlog } ∧
      t.bay b = (s.bay b).closed ∧ (∀ c, c ≠ b → t.bay c = s.bay c) ∧
      t.roster.agingPosition = s.roster.agingPosition ∧
      (∀ i, t.roster.entries.get i = (s.roster.entries.get i).map (RosterEntry.parkedFrom b)) ∧
      t.book = s.book.map fun k =>
        if (s.bay b).boundTag = some k.tag then { k with state := k.state.released } else k := by
  obtain ⟨hmarks, hblocks, hbays, haging, hentries, hbook⟩ :=
    State.disableBay_spec (s := s.dequeue) hd hc hs hn
  have hown : (s.dequeue.disableBay b).bay b = (s.bay b).closed := (hbays b).trans (if_pos rfl)
  rw [Requested.setBay_taken hb hl State.disableBay (by omega) (Request.setBayValueOk_plain (by omega) (by omega)), hown]
  have hstored := h.stored (a := { state := s.dequeue.disableBay b, code := .done, detail := (s.bay b).closed.state.code }) hmarks hblocks
  obtain ⟨hsamebays, hsameroster, hsamebook⟩ :
      (∀ c, (Answer.store { state := s.dequeue.disableBay b, code := .done, detail := (s.bay b).closed.state.code } n).bay c =
        (s.dequeue.disableBay b).bay c) ∧
      (Answer.store { state := s.dequeue.disableBay b, code := .done, detail := (s.bay b).closed.state.code } n).roster =
        (s.dequeue.disableBay b).roster ∧
      (Answer.store { state := s.dequeue.disableBay b, code := .done, detail := (s.bay b).closed.state.code } n).book =
        (s.dequeue.disableBay b).book :=
    ⟨State.bay_of_bays (by simp [Answer.store]), by simp [Answer.store], by simp [Answer.store]⟩
  refine ⟨hstored.answered, hstored.only, hstored.mirror, (hsamebays b).trans hown, fun c hcb => ?_, ?_⟩
  · exact (hsamebays c).trans ((hbays c).trans (if_neg hcb))
  · rw [hsameroster, hsamebook]
    exact ⟨haging, hentries, hbook⟩

/-- The checks of SET BAY, for each of its commands. -/
theorem Requested.setBay_fails {s : State} {n : SlotNo} {req : Request} {rest : List SlotNo} (h : Requested s n req rest)
    {c : Instr} {action : State → BayNo → State} (hexec : exec c s = .next ((s.dequeue.answerSetBay req action).store n)) {check : Nat}
    (hf : s.dequeue.answerSetBay req action = { state := s.dequeue, code := .badField, detail := check }) :
    ∃ t, exec c s = .next t ∧ Answered s t n req rest .badField check ∧
      t = { s with intake := t.intake, mirror := t.mirror, path := t.path } ∧
      t.mirror = { s.mirror with dirty := t.mirror.dirty, backlog := t.mirror.backlog } := by
  have hstored := h.stored (a := { state := s.dequeue, code := .badField, detail := check }) (.refl _) (by simp [SameElsewhere])
  rw [← hf] at hstored
  have hsame : ((s.dequeue.answerSetBay req action).store n).roster = s.roster ∧
      ((s.dequeue.answerSetBay req action).store n).book = s.book ∧
      ((s.dequeue.answerSetBay req action).store n).bays = s.bays := by
    rw [hf]
    simp [Answer.store]
  obtain ⟨hroster, hbook, hbays⟩ := hsame
  exact ⟨_, hexec, by simpa [hf] using hstored.answered, hstored.only_with hroster hbook hbays, hstored.mirror⟩

/-- Settles O45: the checks for the four commands alike, then each action's change. -/
theorem setBayIsCheckedAndTaken : Obligations.SetBayIsCheckedAndTaken := by
  refine ⟨fun c action s n req rest hmem h hcode hw => ?_, fun s n req rest b h hcode hb hl hpairing hbook => ?_⟩
  · obtain ⟨act, hexec⟩ := h.exec_setBay hcode hmem hw
    obtain ⟨hnumber, hchecks⟩ := s.dequeue.setBay_checks req act
    refine ⟨fun h0 => h.setBay_fails hexec (hnumber h0), fun b hb => ⟨fun hl => ?_, fun hl => ?_⟩⟩
    · exact h.setBay_fails hexec ((hchecks b hb).1 hl)
    · obtain ⟨haction, hcap, hmodes⟩ := (hchecks b hb).2 hl
      exact ⟨fun h1 => h.setBay_fails hexec (haction (hw.resolve_left h1)), fun h1 _ h2 => h.setBay_fails hexec (hcap h1 h2),
        fun h1 _ h2 => h.setBay_fails hexec (hmodes h1 h2)⟩
  · have hn : (s.book.map Booking.tag).Nodup := ((bookLaw_iff s).1 hbook).tags
    have command {c : Instr} {k : Nat} {owner : Request → State → Answer} (h1 : req.word 1 = k)
        (hc : exec c s = .next (s.answerRequest (fun r => r.isSetBay k) owner)) : exec c s = .next ((owner req s.dequeue).store n) :=
      hc.trans (congrArg Host.Outcome.next (h.setBay hcode (.inl h1) owner))
    refine ⟨fun h1 => ?_, fun h1 hstate => ?_, fun h1 hd hc => ?_, fun h1 h2 => ?_, fun h1 h2 => ?_⟩
    all_goals replace h1 : req.word 1 = _ := h1
    · exact ⟨_, command h1 rfl, h.setBay_becomes hb hl (State.enableBay_becomes s.dequeue b) (by omega)
        (Request.setBayValueOk_plain (by omega) (by omega))⟩
    · have hbay : BayBecomes s.dequeue (s.dequeue.disableBay b) b (s.bay b) := by
        rw [State.disableBay_unchanged (s := s.dequeue) hstate]
        exact .refl s.dequeue b
      exact ⟨_, command h1 rfl, h.setBay_becomes hb hl hbay (by omega) (Request.setBayValueOk_plain (by omega) (by omega))⟩
    · have hcloses := h.setBay_closes hb hl h1 hd hc hpairing hn
      simp only [BookingState.released_eq] at hcloses
      exact ⟨_, command h1 rfl, hcloses⟩
    · obtain ⟨hanswered, honly, hmirror, hown, hother⟩ :=
        h.setBay_becomes (action := State.setCap (req.word 2)) hb hl (.updBay s.dequeue b _) (by omega)
          ((Request.setBayValueOk_cap h1).2 h2)
      refine ⟨⟨_, command h1 rfl, hanswered, honly, hmirror, hown, hother⟩, fun hunknown => ⟨_, command h1 rfl, ?_⟩⟩
      rw [hown, BayRecord.k, committed]
      exact if_pos hunknown
    · exact ⟨_, command h1 rfl, h.setBay_becomes hb hl (State.setPermitted_becomes _ s.dequeue b) (by omega)
        ((Request.setBayValueOk_permitted h1).2 h2)⟩

end Sys2Proof.Machine
end

section
/-!
SUPPORT. What forming a frame, a visit of a lane and the start of a round do to the lane, to its bays and to the Mirror Writer
(R58, R69 to R71).
-/

namespace Sys2Proof.Machine

open Sys2Proof

/-! ### The bays of a lane (R67) -/

theorem bayAt_inj {l k : LaneNo} {d e : Drop} : bayAt l d = bayAt k e ↔ l = k ∧ d = e := by
  refine ⟨fun h => ?_, fun ⟨hl, hd⟩ => by rw [hl, hd]⟩
  have hval : 8 * l.val + d.val = 8 * k.val + e.val := congrArg Fin.val h
  exact ⟨Fin.ext (by omega), Fin.ext (by omega)⟩

/-! ### Which drop is due (R70) -/

/-- A drop is due in the running round. -/
theorem State.due_eq (s : State) (l : LaneNo) (d : Drop) : s.due l d = dueIn s l d (s.lane l).roundInterval := by
  unfold State.due dueIn
  cases (s.bay (bayAt l d)).state
  case dozing => simp [dozeTurn, bayAt, beq_eq_decide]
  all_goals simp

/-- The first index that passes is what the search finds. -/
theorem find?_finRange {n : Nat} {p : Fin n → Bool} {d : Fin n} (hd : p d = true) (hfirst : ∀ e < d, p e = false) :
    (List.finRange n).find? p = some d := by
  cases hfind : (List.finRange n).find? p with
  | none => exact absurd hd (List.find?_eq_none.1 hfind d (List.mem_finRange d))
  | some e =>
    obtain ⟨he, before, after, hsplit, hbefore⟩ := List.find?_eq_some_iff_append.1 hfind
    have hmem : d ∈ before ++ e :: after := hsplit ▸ List.mem_finRange d
    have hsorted : (before ++ e :: after).Pairwise (· < ·) := hsplit ▸ List.pairwise_lt_finRange n
    obtain hmem | hmem := List.mem_append.1 hmem
    · exact absurd hd (by simpa using hbefore d hmem)
    obtain rfl | hmem := List.mem_cons.1 hmem
    · rfl
    · have hlt : e < d := (List.pairwise_cons.1 (List.pairwise_append.1 hsorted).2.1).1 d hmem
      rw [hfirst e hlt] at he
      cases he

/-- Of the drops that pass there is a first, or there are none. -/
theorem first_or_none (p : Drop → Bool) : (∃ d, p d = true ∧ ∀ e < d, p e = false) ∨ ∀ d, p d = false := by
  by_cases h : ∃ d, p d = true
  · obtain ⟨d, hd⟩ := exists_minimal_of_wellFoundedLT _ h
    exact .inl ⟨d, hd.prop, fun e he => by simpa using hd.not_prop_of_lt he⟩
  · exact .inr fun d => by simpa using not_exists.1 h d

section

variable {s : State} {l : LaneNo} {start : Nat}

theorem State.visit_of_first {d : Drop} (hstart : start ≤ d.val) (hd : s.due l d = true)
    (hfirst : ∀ e : Drop, start ≤ e.val → e < d → s.due l e = false) : s.visit l start = s.formFrame l d := by
  have hfound : s.nextDue l start = some d := find?_finRange (by simp [hstart, hd]) fun e he => by
    by_cases hse : start ≤ e.val
    · simp [hfirst e hse he]
    · simp [hse]
  rw [State.visit, hfound]

theorem State.visit_of_none (h : ∀ d : Drop, start ≤ d.val → s.due l d = false) :
    s.visit l start = s.updLane l fun x => { x with roundRunning := false, phase := .idle } := by
  have hnone : s.nextDue l start = none := List.find?_eq_none.2 fun d _ hd => by
    simp only [Bool.and_eq_true, decide_eq_true_eq] at hd
    rw [h d hd.1] at hd
    cases hd.2
  rw [State.visit, hnone]

end

/-! ### Forming a frame (R58, R72) -/

theorem sendToBay_eq (x : Exchange) : sendToBay x = sentTo x := by
  have hkind : x.kind.carriesValue = true ↔ x.kind = .setpoint ∨ x.kind = .stop := by cases x.kind <;> decide
  funext bay
  simp only [sendToBay, sentTo, hkind]

theorem State.formFrame_bay (s : State) (l : LaneNo) (d : Drop) (c : BayNo) :
    (s.formFrame l d).bay c =
      if c = bayAt l d then sentTo (s.frameFor l d).exchange (s.bay (bayAt l d)) else s.bay c := by
  rw [State.formFrame, sendToBay_eq]
  exact State.updBay_bay ..

theorem State.formFrame_lane (s : State) (l : LaneNo) (d : Drop) (k : LaneNo) :
    (s.formFrame l d).lane k =
      if k = l then
        { s.lane l with
          phase := .sending, position := d, exchange := some (s.frameFor l d).exchange, receiver := none
          onPair := (s.frameFor l d).octets }
      else s.lane k := by
  rw [State.formFrame, State.updLane_lane]
  simp [State.lane]

theorem MarksOnly.updLane {s x : State} (h : MarksOnly s x) (l : LaneNo) (f : Lane → Lane) : MarksOnly s (x.updLane l f) :=
  h.trans (.of_mirror rfl rfl)

theorem MarksOnly.formFrame {s x : State} (h : MarksOnly s x) (l : LaneNo) (d : Drop) : MarksOnly s (x.formFrame l d) := by
  unfold State.formFrame
  exact (h.updBay _ _).updLane l _

theorem MarksOnly.visit {s x : State} (h : MarksOnly s x) (l : LaneNo) (start : Nat) : MarksOnly s (x.visit l start) := by
  unfold State.visit
  split
  · exact h.formFrame l _
  · exact h.updLane l _

theorem MarksOnly.beginRound {s x : State} (h : MarksOnly s x) (l : LaneNo) : MarksOnly s (x.beginRound l) :=
  (h.updLane l _).visit l 0

theorem MarksOnly.foldl {α : Type} {g : State → α → State} (hg : ∀ y a, MarksOnly y (g y a)) {s x : State} (h : MarksOnly s x)
    (as : List α) : MarksOnly s (as.foldl g x) := by
  induction as generalizing x with
  | nil => exact h
  | cons a as ih => exact ih (h.trans (hg x a))

/-! ### The part outside bays, lanes and Mirror Writer -/

/-- The two states agree outside the bays, the lanes, the Allocator and the Mirror Writer. -/
def SameButRounds (s t : State) : Prop :=
  t.roster = s.roster ∧ t.book = s.book ∧ t.meter = s.meter ∧ t.clock = s.clock ∧ t.path = s.path ∧ t.intake = s.intake ∧
    t.config = s.config ∧ t.memory = s.memory ∧ t.draws = s.draws ∧ t.pending = s.pending

theorem SameButRounds.eq {s t : State} (h : SameButRounds s t) :
    t = { s with bays := t.bays, lanes := t.lanes, allocator := t.allocator, mirror := t.mirror } := by
  obtain ⟨h1, h2, h3, h4, h5, h6, h7, h8, h9, h10⟩ := h
  cases t
  cases s
  dsimp only at *
  subst_vars
  rfl

/-- Where the Allocator is untouched too. -/
theorem SameButRounds.eq_of_allocator {s t : State} (h : SameButRounds s t) (ha : t.allocator = s.allocator) :
    t = { s with bays := t.bays, lanes := t.lanes, mirror := t.mirror } := by
  have heq := h.eq
  rwa [ha] at heq

/-! ### Lane and bays of one lane -/

/-- Lane `l` and its bays are the same in both states, and so is what a frame is formed from. -/
structure LaneAlike (s t : State) (l : LaneNo) : Prop where
  lane : t.lane l = s.lane l
  bays : ∀ d, t.bay (bayAt l d) = s.bay (bayAt l d)
  clock : t.clock = s.clock
  config : t.config = s.config
  front : t.allocator.front = s.allocator.front
  standDown : t.allocator.standDown = s.allocator.standDown

/-- From `s` to `t` no lane but `l` has changed, nor a bay of another lane. -/
def OnLane (s t : State) (l : LaneNo) : Prop :=
  ∀ k, k ≠ l → t.lane k = s.lane k ∧ ∀ d, t.bay (bayAt k d) = s.bay (bayAt k d)

theorem OnLane.refl (s : State) (l : LaneNo) : OnLane s s l := fun _ _ => ⟨rfl, fun _ => rfl⟩

theorem OnLane.trans {s x t : State} {l : LaneNo} (h : OnLane s x l) (g : OnLane x t l) : OnLane s t l := fun k hk => by
  obtain ⟨hlane, hbays⟩ := h k hk
  obtain ⟨glane, gbays⟩ := g k hk
  exact ⟨glane.trans hlane, fun d => (gbays d).trans (hbays d)⟩

theorem OnLane.updLane (s : State) (l : LaneNo) (f : Lane → Lane) : OnLane s (s.updLane l f) l := fun _ hk =>
  ⟨(s.updLane_lane l _ f).trans (if_neg hk), fun _ => rfl⟩

theorem OnLane.updBay (s : State) (l : LaneNo) (d : Drop) (f : BayRecord → BayRecord) : OnLane s (s.updBay (bayAt l d) f) l := fun k hk =>
  ⟨by simp [State.lane], fun e => s.updBay_bay_of_ne f fun h => hk (bayAt_inj.1 h).1⟩

theorem OnLane.visit (s : State) (l : LaneNo) (start : Nat) : OnLane s (s.visit l start) l := by
  unfold State.visit
  split
  · exact (OnLane.updBay s l _ _).trans (.updLane _ l _)
  · exact .updLane s l _

theorem OnLane.beginRound (s : State) (l : LaneNo) : OnLane s (s.beginRound l) l := (OnLane.updLane s l _).trans (.visit _ l 0)

namespace LaneAlike

variable {s t : State} {l : LaneNo} (h : LaneAlike s t l)

theorem refl (s : State) (l : LaneNo) : LaneAlike s s l := ⟨rfl, fun _ => rfl, rfl, rfl, rfl, rfl⟩

include h

theorem dueIn (d : Drop) (interval : Word) : dueIn t l d interval = dueIn s l d interval := by
  unfold Sys2Proof.Machine.dueIn
  rw [h.bays]

theorem frameFor (d : Drop) : t.frameFor l d = s.frameFor l d := by
  unfold State.frameFor
  rw [h.bays, h.config, h.front, h.standDown]

/-- A round begun from the one state is begun from the other. -/
theorem roundBegun {x : State} (hx : RoundBegun s x l) : RoundBegun t x l := by
  unfold RoundBegun at *
  simpa only [h.dueIn, h.frameFor, h.bays, h.lane, h.clock] using hx

theorem abandonedBy : abandonedBy t l = abandonedBy s l := by
  unfold Sys2Proof.Machine.abandonedBy
  simp only [h.dueIn, h.lane]

theorem overrunAlerts : overrunAlerts t l = overrunAlerts s l := by
  unfold Sys2Proof.Machine.overrunAlerts plainAlert
  rw [h.abandonedBy, h.lane, h.clock]

end LaneAlike

/-! ### The start of a round (R69, R70) -/

/-- What a round begun at a lane depends on of the state behind it. -/
theorem RoundBegun.of_target {s x t : State} {l : LaneNo} (h : RoundBegun s x l) (hlane : t.lane l = x.lane l)
    (hbays : ∀ d, t.bay (bayAt l d) = x.bay (bayAt l d)) : RoundBegun s t l := by
  unfold RoundBegun at *
  simpa only [hlane, hbays] using h

/-- The present interval as a lane's round interval, with the round running. -/
def Lane.opened (interval : Word) (x : Lane) : Lane := { x with roundRunning := true, roundInterval := interval }

theorem State.beginRound_eq (s : State) (l : LaneNo) :
    s.beginRound l = (s.updLane l (Lane.opened s.clock.interval)).visit l 0 := rfl

theorem State.opened_due (s : State) (l : LaneNo) (interval : Word) (d : Drop) :
    (s.updLane l (Lane.opened interval)).due l d = dueIn s l d interval := by
  rw [State.due_eq, State.updLane_lane_self]
  rfl

/-- A round begins as the obligations have it. -/
theorem State.beginRound_begun (s : State) (l : LaneNo) : RoundBegun s (s.beginRound l) l := by
  rw [State.beginRound_eq]
  refine ⟨fun d hd hfirst => ?_, fun hnone => ?_⟩
  · rw [State.visit_of_first (Nat.zero_le _) (by rwa [State.opened_due]) fun e _ he => by rw [State.opened_due, hfirst e he]]
    refine ⟨?_, ?_, fun e he => ?_⟩
    · rw [State.formFrame_lane, if_pos rfl, State.updLane_lane_self]
      rfl
    · rw [State.formFrame_bay, if_pos rfl]
      rfl
    · rw [State.formFrame_bay, if_neg fun h => he (bayAt_inj.1 h).2]
      rfl
  · rw [State.visit_of_none fun d _ => by rw [State.opened_due, hnone d]]
    refine ⟨?_, fun e => rfl⟩
    rw [State.updLane_lane_self, State.updLane_lane_self]
    rfl

section

variable {s t : State} {l : LaneNo} (h : RoundBegun s t l)

include h

/-- A round begun has the present round interval, sent or finished at once. -/
theorem RoundBegun.interval : (t.lane l).roundInterval = s.clock.interval := by
  obtain ⟨hsends, hfinished⟩ := h
  obtain ⟨d, hd, hfirst⟩ | hnone := first_or_none fun d => dueIn s l d s.clock.interval
  · rw [(hsends d hd hfirst).1]
  · rw [(hfinished hnone).1]

/-- A round begun misses no slot. -/
theorem RoundBegun.missedSlots (e : Drop) : (t.bay (bayAt l e)).missedSlots = (s.bay (bayAt l e)).missedSlots := by
  obtain ⟨hsends, hfinished⟩ := h
  obtain ⟨d, hd, hfirst⟩ | hnone := first_or_none fun d => dueIn s l d s.clock.interval
  · obtain ⟨_, hsent, hothers⟩ := hsends d hd hfirst
    by_cases he : e = d
    · rw [he, hsent, sentTo]
    · rw [hothers e he]
  · rw [(hfinished hnone).2]

end

/-! ### The overrun (R71) -/

theorem State.abandonedDrops_eq (s : State) (l : LaneNo) : s.abandonedDrops l = abandonedBy s l := by
  unfold State.abandonedDrops abandonedBy
  simp only [State.due_eq, Fin.lt_def]

/-- A bay's record with a missed slot. -/
def BayRecord.missed (bay : BayRecord) : BayRecord := { bay with missedSlots := min 65535 (bay.missedSlots + 1) }

/-- A missed slot at each of a lane's drops of a list. -/
def State.missSlots (s : State) (l : LaneNo) (drops : List Drop) : State := drops.foldl (fun acc d => acc.missSlot (bayAt l d)) s

@[simp] theorem State.missSlots_keeps (s : State) (l : LaneNo) (drops : List Drop) :
    (s.missSlots l drops).lanes = s.lanes ∧ (s.missSlots l drops).allocator = s.allocator ∧
      (s.missSlots l drops).clock = s.clock ∧ (s.missSlots l drops).config = s.config :=
  ⟨foldl_keeps _ State.lanes (by simp) _ _, foldl_keeps _ State.allocator (by simp) _ _,
    foldl_keeps _ State.clock (by simp) _ _, foldl_keeps _ State.config (by simp) _ _⟩

theorem MarksOnly.missSlots (s : State) (l : LaneNo) (drops : List Drop) : MarksOnly s (s.missSlots l drops) :=
  (MarksOnly.refl s).foldl (fun y d => (MarksOnly.refl y).updBay (bayAt l d) _) drops

theorem State.missSlots_bay (s : State) (l : LaneNo) {drops : List Drop} (hn : drops.Nodup) (c : BayNo) :
    (s.missSlots l drops).bay c = if ∃ d ∈ drops, bayAt l d = c then (s.bay c).missed else s.bay c := by
  induction drops generalizing s with
  | nil => simp [State.missSlots]
  | cons d drops ih =>
    obtain ⟨hd, hn⟩ := List.nodup_cons.1 hn
    have hstep : (s.missSlot (bayAt l d)).bay c = if c = bayAt l d then (s.bay (bayAt l d)).missed else s.bay c := State.updBay_bay ..
    have hnot : c = bayAt l d → ¬∃ e ∈ drops, bayAt l e = c := fun hc ⟨e, he, hec⟩ =>
      hd ((bayAt_inj.1 (hec.trans hc)).2 ▸ he)
    refine (ih (s.missSlot (bayAt l d)) hn).trans ?_
    rw [hstep]
    by_cases hc : c = bayAt l d
    · rw [if_neg (hnot hc), if_pos hc, if_pos ⟨d, List.mem_cons_self .., hc.symm⟩, hc]
    · rw [if_neg hc]
      simp [Ne.symm hc]

theorem overrunTaken_lane (s : State) (l : LaneNo) :
    (overrunTaken s l).lane l =
      { s.lane l with
        overrunInterval := if overrunAlerts s l = [] then (s.lane l).overrunInterval else some s.clock.interval } :=
  vput_get_self ..

@[simp] theorem overrunTaken_keeps (s : State) (l : LaneNo) :
    (overrunTaken s l).clock = s.clock ∧ (overrunTaken s l).config = s.config ∧ (overrunTaken s l).allocator = s.allocator := by
  simp [overrunTaken]

theorem overrunTaken_bay (s : State) (l : LaneNo) (c : BayNo) :
    (overrunTaken s l).bay c = if ∃ d ∈ abandonedBy s l, bayAt l d = c then (s.bay c).missed else s.bay c := ofFn_get ..

theorem abandonedBy_nodup (s : State) (l : LaneNo) : (abandonedBy s l).Nodup := (List.nodup_finRange 8).filter _

theorem overrunAlerts_eq_nil {s : State} {l : LaneNo} :
    overrunAlerts s l = [] ↔ (abandonedBy s l).length = 0 ∨ (s.lane l).overrunInterval = some s.clock.interval := by
  simp [overrunAlerts, or_iff_not_imp_left]

/-- The state as a round overrun leaves it before the new round: the missed slots, and ROUND OVERRUN. -/
def State.overrunJudged (s : State) (l : LaneNo) : State :=
  (s.missSlots l (abandonedBy s l)).overrunAlert l (abandonedBy s l).length

theorem State.takeOverrun_eq (s : State) (l : LaneNo) : s.takeOverrun l = (s.overrunJudged l).beginRound l := by
  rw [State.overrunJudged, ← State.abandonedDrops_eq]
  rfl

/-- ROUND OVERRUN comes once for each interval and lane, for the drops abandoned. -/
theorem State.overrunJudged_raised (s : State) (l : LaneNo) :
    Raised s (s.overrunJudged l) (overrunAlerts s l) ∧
      ∀ k, (s.overrunJudged l).lane k = if k = l then (overrunTaken s l).lane l else s.lane k := by
  have hmissed := (MarksOnly.missSlots s l (abandonedBy s l)).raised
  obtain ⟨hlanes, _, hclock, _⟩ := s.missSlots_keeps l (abandonedBy s l)
  have hlane : ∀ k, (s.missSlots l (abandonedBy s l)).lane k = s.lane k := fun k => by rw [State.lane, hlanes, State.lane]
  rw [overrunTaken_lane]
  unfold State.overrunJudged State.overrunAlert
  rw [hlane, hclock]
  by_cases hnone : overrunAlerts s l = []
  · rw [if_pos (overrunAlerts_eq_nil.1 hnone), if_pos hnone, hnone]
    refine ⟨hmissed, fun k => ?_⟩
    rw [hlane]
    split
    · next hk => rw [hk]
    · rfl
  · have hcond := mt overrunAlerts_eq_nil.2 hnone
    have halerts : overrunAlerts s l = [] ++ [s.alertNow (.roundOverrun l (abandonedBy s l).length) none none] :=
      if_pos (not_or.1 hcond)
    rw [if_neg hcond, if_neg hnone]
    refine ⟨?_, fun k => ?_⟩
    · rw [halerts]
      exact (hmissed.thenMarks ((MarksOnly.refl _).updLane l _)).raise _ _ _
    · rw [State.lane, (State.raise_keeps ..).2.2.2.1, ← State.lane, State.updLane_lane, hlane, hlane]

/-- Up to the new round's first frame an overrun is what `overrunTaken` says. -/
theorem State.overrunJudged_alike (s : State) (l : LaneNo) : LaneAlike (s.overrunJudged l) (overrunTaken s l) l := by
  obtain ⟨_, hallocator, hclock, hconfig⟩ := s.missSlots_keeps l (abandonedBy s l)
  have hallocator : (s.overrunJudged l).allocator = s.allocator := by simp [State.overrunJudged]
  refine ⟨?_, fun d => ?_, ?_, ?_, ?_, ?_⟩
  · rw [(s.overrunJudged_raised l).2, if_pos rfl]
  · rw [State.overrunJudged, State.bay_of_bays (State.overrunAlert_keeps ..).2.2.1, State.missSlots_bay s l (abandonedBy_nodup s l),
      overrunTaken_bay]
  all_goals simp [State.overrunJudged]

theorem OnLane.overrunJudged (s : State) (l : LaneNo) : OnLane s (s.overrunJudged l) l := fun k hk => by
  refine ⟨by rw [(s.overrunJudged_raised l).2, if_neg hk], fun d => ?_⟩
  rw [State.overrunJudged, State.bay_of_bays (State.overrunAlert_keeps ..).2.2.1, State.missSlots_bay s l (abandonedBy_nodup s l),
    if_neg fun ⟨e, _, he⟩ => hk (bayAt_inj.1 he).1.symm]

/-! ### A round start that reaches one lane -/

/-- The state that a round begins on: with a running round, behind its overrun. -/
def roundBase (s : State) (l : LaneNo) : State := if (s.lane l).roundRunning = true then overrunTaken s l else s

/-- The alerts of a round start between exchanges. -/
def startAlerts (s : State) (l : LaneNo) : List Alert := if (s.lane l).roundRunning = true then overrunAlerts s l else []

/-- A round start taken between exchanges. -/
theorem State.takeRoundStart_spec (s : State) (l : LaneNo) :
    RoundBegun (roundBase s l) (s.takeRoundStart l) l ∧ OnLane s (s.takeRoundStart l) l ∧
      Raised s (s.takeRoundStart l) (startAlerts s l) := by
  unfold State.takeRoundStart roundBase startAlerts
  split
  · rw [State.takeOverrun_eq]
    exact ⟨(s.overrunJudged_alike l).roundBegun (State.beginRound_begun _ l), (OnLane.overrunJudged s l).trans (.beginRound _ l),
      (s.overrunJudged_raised l).1.thenMarks ((MarksOnly.refl _).beginRound l)⟩
  · exact ⟨s.beginRound_begun l, .beginRound s l, ((MarksOnly.refl s).beginRound l).raised⟩

/-! ### A round start that reaches every lane (R69; log entry 29) -/

/-- What a round start makes of one lane. -/
def LaneStarted (s t : State) (l : LaneNo) : Prop :=
  (lanesInService s.config.straps ≤ l.val → t.lane l = s.lane l ∧ ∀ d, t.bay (bayAt l d) = s.bay (bayAt l d)) ∧
  (l.val < lanesInService s.config.straps → (s.lane l).exchange ≠ none →
    t.lane l = { s.lane l with pendingStart := true } ∧ ∀ d, t.bay (bayAt l d) = s.bay (bayAt l d)) ∧
  (l.val < lanesInService s.config.straps → (s.lane l).exchange = none → RoundBegun (roundBase s l) t l)

theorem roundsStarted_iff {s t : State} : RoundsStarted s t ↔ ∀ l, LaneStarted s t l := by
  refine forall_congr' fun l => ?_
  unfold LaneStarted roundBase
  split <;> rfl

/-- The alerts of a round start at one lane. -/
def laneStartAlerts (s : State) (l : LaneNo) : List Alert :=
  if l.val < lanesInService s.config.straps ∧ (s.lane l).exchange = none ∧ (s.lane l).roundRunning = true then overrunAlerts s l else []

theorem roundStartAlerts_eq (s : State) : roundStartAlerts s = (List.finRange 6).flatMap (laneStartAlerts s) := rfl

namespace LaneAlike

variable {s t : State} {l : LaneNo} (h : LaneAlike s t l)

include h

theorem overrunTaken : LaneAlike (overrunTaken s l) (overrunTaken t l) l := by
  refine ⟨?_, fun d => ?_, by simpa using h.clock, by simpa using h.config, by simpa using h.front, by simpa using h.standDown⟩
  · rw [overrunTaken_lane, overrunTaken_lane, h.lane, h.overrunAlerts, h.clock]
  · rw [overrunTaken_bay, overrunTaken_bay, h.abandonedBy, h.bays]

theorem roundBase : LaneAlike (roundBase s l) (roundBase t l) l := by
  unfold Sys2Proof.Machine.roundBase
  rw [h.lane]
  split
  · exact h.overrunTaken
  · exact h

theorem laneStarted {x : State} (hx : LaneStarted s x l) : LaneStarted t x l := by
  obtain ⟨hout, hpending, hbegun⟩ := hx
  unfold LaneStarted
  rw [h.config, h.lane]
  exact ⟨fun hl => by simpa only [h.bays] using hout hl, fun hl hx => by simpa only [h.bays] using hpending hl hx,
    fun hl hx => h.roundBase.roundBegun (hbegun hl hx)⟩

theorem laneStartAlerts : laneStartAlerts t l = laneStartAlerts s l := by
  unfold Sys2Proof.Machine.laneStartAlerts
  rw [h.config, h.lane, h.overrunAlerts]

end LaneAlike

/-- What a round start makes of a lane depends on that lane and its bays. -/
theorem LaneStarted.of_target {s x t : State} {l : LaneNo} (h : LaneStarted s x l) (hlane : t.lane l = x.lane l)
    (hbays : ∀ d, t.bay (bayAt l d) = x.bay (bayAt l d)) : LaneStarted s t l := by
  obtain ⟨hout, hpending, hbegun⟩ := h
  exact ⟨fun hl => by simpa only [hlane, hbays] using hout hl, fun hl hx => by simpa only [hlane, hbays] using hpending hl hx,
    fun hl hx => (hbegun hl hx).of_target hlane hbays⟩

/-- A round start at one lane, in service or not. -/
def State.reachLane (s : State) (l : LaneNo) : State := if s.laneInService l then s.startRound l else s

theorem State.startRounds_eq (s : State) : s.startRounds = (List.finRange 6).foldl State.reachLane s := rfl

theorem State.reachLane_spec (s : State) (l : LaneNo) :
    LaneStarted s (s.reachLane l) l ∧ OnLane s (s.reachLane l) l ∧ Raised s (s.reachLane l) (laneStartAlerts s l) := by
  have hservice : s.laneInService l = true ↔ l.val < lanesInService s.config.straps := decide_eq_true_iff
  unfold State.reachLane
  by_cases hl : l.val < lanesInService s.config.straps
  · rw [if_pos (hservice.2 hl)]
    unfold State.startRound laneStartAlerts
    cases hx : (s.lane l).exchange with
    | some x =>
      rw [if_pos (by rfl)]
      refine ⟨⟨fun hout => absurd hl (by omega), fun _ _ => ⟨State.updLane_lane_self .., fun _ => rfl⟩, fun _ hnone => ?_⟩,
        .updLane s l _, ?_⟩
      · cases hx.symm.trans hnone
      · simpa using ((MarksOnly.refl s).updLane l _).raised
    | none =>
      obtain ⟨hbegun, honly, hraised⟩ := s.takeRoundStart_spec l
      refine ⟨⟨fun hout => absurd hl (by omega), fun _ hsome => absurd hx hsome, fun _ _ => hbegun⟩, honly, ?_⟩
      simpa [hl, startAlerts] using hraised
  · rw [if_neg (mt hservice.1 hl), laneStartAlerts, if_neg fun h => hl h.1]
    exact ⟨⟨fun _ => ⟨rfl, fun _ => rfl⟩, fun h => absurd h hl, fun h => absurd h hl⟩, .refl s l, .refl s⟩

@[simp] theorem State.reachLane_keeps (s : State) (l : LaneNo) :
    (s.reachLane l).allocator = s.allocator ∧ (s.reachLane l).clock = s.clock ∧ (s.reachLane l).config = s.config := by
  unfold State.reachLane
  split <;> simp

/-- The lanes but the one reached are alike behind a round start there. -/
theorem State.reachLane_alike (s : State) {k l : LaneNo} (h : l ≠ k) : LaneAlike (s.reachLane k) s l := by
  obtain ⟨_, honly, _⟩ := s.reachLane_spec k
  obtain ⟨hlane, hbays⟩ := honly l h
  exact ⟨hlane.symm, fun d => (hbays d).symm, by simp, by simp, by simp, by simp⟩

/-- Round starts that reach the lanes of a list, one after the other. -/
theorem foldl_reachLane {lanes : List LaneNo} (hn : lanes.Nodup) (s : State) :
    (∀ l ∈ lanes, LaneStarted s (lanes.foldl State.reachLane s) l) ∧
      (∀ l, l ∉ lanes → (lanes.foldl State.reachLane s).lane l = s.lane l ∧
        ∀ d, (lanes.foldl State.reachLane s).bay (bayAt l d) = s.bay (bayAt l d)) ∧
      Raised s (lanes.foldl State.reachLane s) (lanes.flatMap (laneStartAlerts s)) := by
  induction lanes generalizing s with
  | nil => exact ⟨by simp, fun _ _ => ⟨rfl, fun _ => rfl⟩, .refl s⟩
  | cons k lanes ih =>
    obtain ⟨hk, hn⟩ := List.nodup_cons.1 hn
    obtain ⟨hstarted, hothers, hraised⟩ := ih hn (s.reachLane k)
    obtain ⟨kstarted, konly, kraised⟩ := s.reachLane_spec k
    have hne : ∀ l ∈ lanes, l ≠ k := fun l hl e => hk (e ▸ hl)
    refine ⟨fun l hl => ?_, fun l hl => ?_, ?_⟩
    · obtain rfl | hl := List.mem_cons.1 hl
      · obtain ⟨hlane, hbays⟩ := hothers l hk
        exact kstarted.of_target hlane hbays
      · exact (s.reachLane_alike (hne l hl)).laneStarted (hstarted l hl)
    · obtain ⟨hlk, hl⟩ := not_or.1 (mt List.mem_cons.2 hl)
      obtain ⟨hlane, hbays⟩ := hothers l hl
      obtain ⟨klane, kbays⟩ := konly l hlk
      exact ⟨hlane.trans klane, fun d => (hbays d).trans (kbays d)⟩
    · have halerts : lanes.flatMap (laneStartAlerts s) = lanes.flatMap (laneStartAlerts (s.reachLane k)) :=
        List.flatMap_congr fun l hl => (s.reachLane_alike (hne l hl)).laneStartAlerts
      rw [List.flatMap_cons, halerts]
      exact kraised.append hraised

/-- A round start reaches every lane as the obligations have it, with the alerts of its overruns. -/
theorem State.startRounds_spec (s : State) : RoundsStarted s s.startRounds ∧ Raised s s.startRounds (roundStartAlerts s) := by
  obtain ⟨hstarted, _, hraised⟩ := foldl_reachLane (List.nodup_finRange 6) s
  rw [State.startRounds_eq, roundsStarted_iff, roundStartAlerts_eq]
  exact ⟨fun l => hstarted l (List.mem_finRange l), hraised⟩

end Sys2Proof.Machine
end

section
/-!
PROOF. An exchange ends and the lane moves on (R58, R70, R71, R76).
-/

namespace Sys2Proof.Machine

open Sys2Proof

/-! ### The outcome -/

/-- The outcome is handed on. -/
theorem State.handOutcome_eq (s : State) (l : LaneNo) (x : Exchange) (r : Receiver) :
    s.handOutcome l x (judgeExchange x r) = handedOn s l x r := by
  unfold State.handOutcome handedOn
  split
  · rfl
  · cases judgeExchange x r <;> rfl

/-- Of its lane an outcome handed on clears discard, and no more. -/
theorem handedOn_lane (s : State) (l : LaneNo) (x : Exchange) (r : Receiver) :
    (handedOn s l x r).lane l = { s.lane l with discard := false } := by
  have kept (t : State) (h : t.lanes = s.lanes) (hd : ¬(s.lane l).discard = true) : t.lane l = { s.lane l with discard := false } := by
    rw [State.lane, h, ← State.lane, ← Bool.eq_false_iff.2 hd]
  unfold handedOn
  split
  · exact State.setLane_lane_self ..
  · next hd =>
    split
    · exact kept _ (by simp) hd
    · exact kept _ (by simp) hd

/-- The state as the exchange and receiver records go. -/
def restedOf (s : State) (l : LaneNo) (x : Exchange) (r : Receiver) : State :=
  (handedOn s l x r).setLane l { (handedOn s l x r).lane l with phase := .idle, exchange := none, receiver := none }

theorem restedOf_lane (s : State) (l : LaneNo) (x : Exchange) (r : Receiver) :
    (restedOf s l x r).lane l = { s.lane l with discard := false, phase := .idle, exchange := none, receiver := none } := by
  rw [restedOf, State.setLane_lane_self, handedOn_lane]

theorem restedOf_clock (s : State) (l : LaneNo) (x : Exchange) (r : Receiver) : (restedOf s l x r).clock = s.clock := by
  simp [restedOf, ← State.handOutcome_eq]

theorem State.endExchange_eq (s : State) (l : LaneNo) (x : Exchange) (r : Receiver) :
    s.endExchange l x r = (restedOf s l x r).afterExchange l := by
  rw [State.endExchange, State.handOutcome_eq]
  rfl

/-- Report complete and window expiry end the exchange. -/
theorem exec_endsExchange {s : State} {l : LaneNo} {x : Exchange} {r : Receiver} {c : Instr} (hphase : (s.lane l).phase = .listening)
    (hx : (s.lane l).exchange = some x) (hr : (s.lane l).receiver = some r)
    (hc : c = .responseWindowExpiry l ∨
      (c = .reportComplete l ∧ r.trailing = false ∧ ∃ k, r.impliedLength = some k ∧ k ≤ r.octets.length)) :
    exec c s = .next (s.endExchange l x r) := by
  have hpair : (s.lane l).listeningPair = some (x, r) := by rw [Lane.listeningPair, hphase, hx, hr]
  obtain rfl | ⟨rfl, htrailing, k, himplied, hlength⟩ := hc
  · refine congrArg Host.Outcome.next ?_
    rw [hpair]
  · have hcomplete : r.complete = true := by simp [Receiver.complete, Receiver.whole, himplied, hlength, htrailing]
    refine congrArg Host.Outcome.next ?_
    rw [hpair]
    exact if_pos hcomplete

/-! ### The lane's next step -/

section

variable {y : State} {l : LaneNo}

theorem State.afterExchange_rests (hp : (y.lane l).pendingStart = false) (hr : (y.lane l).roundRunning = false) :
    y.afterExchange l = y := by
  simp [State.afterExchange, hp, hr]

theorem State.afterExchange_visits (hp : (y.lane l).pendingStart = false) (hr : (y.lane l).roundRunning = true) :
    y.afterExchange l = y.visit l ((y.lane l).position.val + 1) := by
  simp [State.afterExchange, hp, hr]

/-- The lane as a pending round start is taken. -/
def startTaken (y : State) (l : LaneNo) : State := y.updLane l fun x => { x with pendingStart := false }

theorem State.afterExchange_starts (hp : (y.lane l).pendingStart = true) : y.afterExchange l = (startTaken y l).takeRoundStart l :=
  if_pos hp

/-- A running round sends to its next due drop. -/
theorem State.afterExchange_sends (hp : (y.lane l).pendingStart = false) (hr : (y.lane l).roundRunning = true) {d : Drop}
    (hd : y.due l d = true) (hlt : (y.lane l).position < d) (hfirst : ∀ e, (y.lane l).position < e → e < d → y.due l e = false) :
    y.afterExchange l = y.formFrame l d := by
  rw [State.afterExchange_visits hp hr]
  exact State.visit_of_first hlt hd hfirst

/-- A running round without a due drop left is finished. -/
theorem State.afterExchange_finishes (hp : (y.lane l).pendingStart = false) (hr : (y.lane l).roundRunning = true)
    (hidle : (y.lane l).phase = .idle) (hnone : ∀ d, (y.lane l).position < d → y.due l d = false) :
    y.afterExchange l = y.setLane l { y.lane l with roundRunning := false } := by
  rw [State.afterExchange_visits hp hr, State.visit_of_none hnone, State.updLane, ← hidle]

/-- The missed slots of an overrun are at the drops that it abandons. -/
theorem roundBase_missedSlots (s : State) (l : LaneNo) (d : Drop) :
    ((roundBase s l).bay (bayAt l d)).missedSlots =
      if (s.lane l).roundRunning = true ∧ (s.lane l).position < d ∧ s.due l d = true then
        min 65535 ((s.bay (bayAt l d)).missedSlots + 1)
      else (s.bay (bayAt l d)).missedSlots := by
  have habandoned : (∃ e ∈ abandonedBy s l, bayAt l e = bayAt l d) ↔ (s.lane l).position < d ∧ s.due l d = true := by
    rw [State.due_eq]
    simp [abandonedBy, bayAt_inj]
  unfold roundBase
  by_cases hr : (s.lane l).roundRunning = true
  · rw [if_pos hr, overrunTaken_bay]
    simp only [habandoned, hr, true_and]
    split <;> rfl
  · rw [if_neg hr, if_neg fun h => hr h.1]

end

/-- The next frame of a lane that rests. -/
theorem State.formFrame_spec {y : State} {l : LaneNo} (hr : (y.lane l).receiver = none) (d : Drop) :
    let f := y.frameFor l d
    let t := y.formFrame l d
    t.lane l = { y.lane l with phase := .sending, position := d, exchange := some f.exchange, onPair := f.octets } ∧
      (∀ k, k ≠ l → t.lane k = y.lane k) ∧ t.bay (bayAt l d) = sentTo f.exchange (y.bay (bayAt l d)) ∧
      (∀ c, c ≠ bayAt l d → t.bay c = y.bay c) ∧
      t = { y with bays := t.bays, lanes := t.lanes, mirror := t.mirror } ∧ OnlyDirty y.mirror t.mirror := by
  refine ⟨?_, fun k hk => (y.formFrame_lane l d k).trans (if_neg hk), (y.formFrame_bay l d _).trans (if_pos rfl),
    fun c hc => (y.formFrame_bay l d c).trans (if_neg hc), ?_, ((MarksOnly.refl y).formFrame l d).only⟩
  · rw [State.formFrame_lane, if_pos rfl, ← hr]
  · exact SameButRounds.eq_of_allocator (by simp [SameButRounds]) (by simp)

/-- A pending round start as it is taken, with the overrun of a running round. -/
theorem State.afterExchange_starts_spec {y : State} {l : LaneNo} {running : Bool} {position : Drop} {interval : Word}
    (hp : (y.lane l).pendingStart = true) (hrunning : (y.lane l).roundRunning = running) (hposition : (y.lane l).position = position)
    (hinterval : y.clock.interval = interval) :
    let r0 := startTaken y l
    let t := y.afterExchange l
    RoundBegun (if running = true then overrunTaken r0 l else r0) t l ∧ (t.lane l).roundInterval = interval ∧
      (∀ k, k ≠ l → t.lane k = y.lane k ∧ ∀ d, t.bay (bayAt k d) = y.bay (bayAt k d)) ∧
      (∀ d, (t.bay (bayAt l d)).missedSlots =
        if running = true ∧ position < d ∧ y.due l d = true then min 65535 ((y.bay (bayAt l d)).missedSlots + 1)
        else (y.bay (bayAt l d)).missedSlots) ∧
      t = { y with bays := t.bays, lanes := t.lanes, mirror := t.mirror } ∧ OnlyRing y.mirror t.mirror ∧
      RaisesAll y.mirror t.mirror (if running = true then overrunAlerts r0 l else []) := by
  dsimp only
  have hlane : (startTaken y l).lane l = { y.lane l with pendingStart := false } := State.updLane_lane_self ..
  have hrun : ((startTaken y l).lane l).roundRunning = running := by rw [hlane, ← hrunning]
  have hpos : ((startTaken y l).lane l).position = position := by rw [hlane, ← hposition]
  have hdue : ∀ d, (startTaken y l).due l d = y.due l d := fun d => by
    rw [State.due_eq, State.due_eq, hlane]
    rfl
  obtain ⟨hbegun, honly, hraised⟩ := (startTaken y l).takeRoundStart_spec l
  have hmissed := roundBase_missedSlots (startTaken y l) l
  have hclock : (roundBase (startTaken y l) l).clock = y.clock := by
    unfold roundBase
    split <;> simp [startTaken]
  have hround := hbegun.interval
  have hslots := hbegun.missedSlots
  rw [hclock, hinterval] at hround
  unfold roundBase at hbegun hmissed hslots
  unfold startAlerts at hraised
  rw [hrun] at hbegun hraised hslots
  simp only [hrun, hpos, hdue] at hmissed
  rw [State.afterExchange_starts hp]
  refine ⟨hbegun, hround, (OnLane.updLane y l fun x => { x with pendingStart := false }).trans honly,
    fun d => (hslots d).trans (hmissed d), ?_, hraised.ring, hraised.all⟩
  exact SameButRounds.eq_of_allocator (by simp [SameButRounds, startTaken]) (by simp [startTaken])

/-- Settles O36: what the lane does next, by its pending start and its running round. -/
theorem exchangeEnds : Obligations.ExchangeEnds := by
  intro s l x r c hphase hx hr hc
  have hlane := restedOf_lane s l x r
  have hpending : ((restedOf s l x r).lane l).pendingStart = (s.lane l).pendingStart := by rw [hlane]
  have hrunning : ((restedOf s l x r).lane l).roundRunning = (s.lane l).roundRunning := by rw [hlane]
  have hposition : ((restedOf s l x r).lane l).position = (s.lane l).position := by rw [hlane]
  refine ⟨_, exec_endsExchange hphase hx hr hc, fun hp hr => ?_, fun hp hr => ⟨fun d hd hlt hfirst => ?_, fun hnone => ?_⟩, fun hp => ?_⟩
  all_goals rw [State.endExchange_eq]
  all_goals rw [← hpending] at hp
  · exact State.afterExchange_rests hp (hrunning.trans hr)
  · rw [← hposition] at hlt hfirst
    rw [State.afterExchange_sends hp (hrunning.trans hr) hd hlt hfirst]
    exact State.formFrame_spec (by rw [hlane]) d
  · rw [← hposition] at hnone
    exact State.afterExchange_finishes hp (hrunning.trans hr) (by rw [hlane]) hnone
  · exact State.afterExchange_starts_spec hp hrunning hposition (congrArg (·.interval) (restedOf_clock s l x r))

end Sys2Proof.Machine
end

section
/-!
PROOF. Publication arms the bays and starts the rounds (R58, R69 to R71, R110, R113, R149).
-/

namespace Sys2Proof.Machine

open Sys2Proof

/-! ### The armed flags (R58, R110) -/

/-- A bay's record as a publication arms it: in service alone. -/
def BayRecord.armedIn (bay : BayRecord) : BayRecord := if bay.state = .disabled then bay else { bay with armed := true }

theorem BayRecord.armedIn_armedIn (bay : BayRecord) : bay.armedIn.armedIn = bay.armedIn := by
  unfold BayRecord.armedIn
  by_cases h : bay.state = .disabled <;> simp [h]

/-- Arming one bay. -/
def State.armBay (s : State) (b : BayNo) : State :=
  if (s.bay b).state.inService then s.updBay b fun bay => { bay with armed := true } else s

theorem State.armBays_eq (s : State) : s.armBays = (List.finRange 48).foldl State.armBay s := rfl

theorem State.armBay_bay (s : State) (b c : BayNo) : (s.armBay b).bay c = if c = b then (s.bay c).armedIn else s.bay c := by
  unfold State.armBay BayRecord.armedIn
  by_cases hb : (s.bay b).state = .disabled
  · rw [if_neg fun h => (BayState.inService_iff _).1 h hb]
    split
    · next e => rw [e, if_pos hb]
    · rfl
  · rw [if_pos ((BayState.inService_iff _).2 hb), State.updBay_bay]
    split
    · next e => rw [e, if_neg hb]
    · rfl

theorem foldl_armBay_bay (bays : List BayNo) (s : State) (c : BayNo) :
    (bays.foldl State.armBay s).bay c = if c ∈ bays then (s.bay c).armedIn else s.bay c := by
  induction bays generalizing s with
  | nil => simp
  | cons b bays ih =>
    rw [List.foldl_cons, ih, State.armBay_bay]
    by_cases hc : c = b
    · simp [hc, BayRecord.armedIn_armedIn]
    · simp [hc]

theorem State.armBays_bay (s : State) (c : BayNo) : s.armBays.bay c = (s.bay c).armedIn := by
  rw [State.armBays_eq, foldl_armBay_bay, if_pos (List.mem_finRange c)]

theorem MarksOnly.armBays (s : State) : MarksOnly s s.armBays :=
  (MarksOnly.refl s).foldl (fun y b => by
    split
    · exact (MarksOnly.refl y).updBay b _
    · exact .refl y) _

/-! ### Skips and stand-down (R110, R113) -/

theorem MarksOnly.setAllocator {s x : State} (h : MarksOnly s x) (a : Allocator) : MarksOnly s { x with allocator := a } :=
  h.trans (.of_mirror rfl rfl)

theorem State.endStandDown_allocator (s : State) (cleared : Nat) :
    (s.endStandDown cleared).allocator = { s.allocator with standDown := false } := by
  unfold State.endStandDown
  split
  · simp
  · next h => rw [← Bool.eq_false_iff.2 h]

/-- STAND-DOWN OFF, when stand-down was on. -/
theorem State.endStandDown_raised (s : State) (cleared : Nat) :
    Raised s (s.endStandDown cleared) (if s.allocator.standDown = true then [plainAlert s (.standDownOff cleared)] else []) := by
  unfold State.endStandDown
  split
  · have hoff := ((MarksOnly.refl s).setAllocator { s.allocator with standDown := false }).mark .header
    exact hoff.raised.raise (.standDownOff cleared) none none
  · exact .refl s

/-- The skip count cleared. -/
def State.skipsCleared (s : State) : State := { s with allocator := { s.allocator with skipCount := 0 } }.mark .header

theorem State.clearSkips_eq (s : State) : s.clearSkips = s.skipsCleared.endStandDown s.allocator.skipCount := rfl

theorem State.clearSkips_allocator (s : State) : s.clearSkips.allocator = { s.allocator with skipCount := 0, standDown := false } := by
  rw [State.clearSkips_eq, State.endStandDown_allocator]
  rfl

theorem State.clearSkips_raised (s : State) :
    Raised s s.clearSkips (if s.allocator.standDown = true then [plainAlert s (.standDownOff s.allocator.skipCount)] else []) := by
  have hcleared : MarksOnly s s.skipsCleared := ((MarksOnly.refl s).setAllocator _).mark .header
  exact hcleared.raised.append (s.skipsCleared.endStandDown_raised s.allocator.skipCount)

/-! ### The log record (R149) -/

/-- The Mirror Writer with a record at the log position. -/
def MirrorWriter.putLog (m : MirrorWriter) (r : LogRecord) : MirrorWriter :=
  match m.logArea with
  | .areaA => { m with logA := vput m.logA m.logIndex (some r), dirty := m.dirty.mark (.log .areaA m.logIndex) }
  | .areaB => { m with logB := vput m.logB m.logIndex (some r), dirty := m.dirty.mark (.log .areaB m.logIndex) }

theorem State.writeLog_eq (s : State) (r : LogRecord) :
    s.writeLog r =
      if s.mirror.logIndex.val + 1 = s.config.loaded.logLength then
        { s with
          mirror :=
            { s.mirror.putLog r with
              logArea := s.mirror.logArea.other, logIndex := 0, dirty := (s.mirror.putLog r).dirty.mark .header } }.raise
          (.logHalf s.mirror.logArea) none none
      else
        { s with
          mirror :=
            { s.mirror.putLog r with
              logIndex := s.mirror.logIndex + 1, dirty := (s.mirror.putLog r).dirty.mark .header } } := rfl

/-- Log and dirty set apart, `n` is as `m`. -/
structure LogOnly (m n : MirrorWriter) : Prop where
  ring : SameRing m n
  generations : n.generations = m.generations
  guardCount : n.guardCount = m.guardCount

/-- The record put, and the log position moved on. -/
theorem MirrorWriter.putLog_logOnly (m : MirrorWriter) (r : LogRecord) (area : LogArea) (index : LogIx) :
    LogOnly m { m.putLog r with logArea := area, logIndex := index, dirty := (m.putLog r).dirty.mark .header } := by
  unfold MirrorWriter.putLog
  cases m.logArea
  all_goals exact ⟨⟨rfl, rfl, rfl, rfl, rfl, fun q hq => by simp [DirtySet.has_mark, hq]⟩, rfl, rfl⟩

/-- What a change of ring and dirty set leaves. -/
theorem OnlyRing.keeps {m n : MirrorWriter} (h : OnlyRing m n) :
    n.generations = m.generations ∧ n.guardCount = m.guardCount ∧ n.logArea = m.logArea ∧ n.logIndex = m.logIndex := by
  unfold OnlyRing at h
  rw [h]
  exact ⟨rfl, rfl, rfl, rfl⟩

/-- A log record raises LOG HALF when it fills its area, and otherwise touches the log and the dirty set alone. -/
theorem State.writeLog_raises (s : State) (r : LogRecord) :
    RaisesAll s.mirror (s.writeLog r).mirror (logHalfAlerts s) ∧ (s.writeLog r).mirror.generations = s.mirror.generations ∧
      (s.writeLog r).mirror.guardCount = s.mirror.guardCount := by
  rw [State.writeLog_eq, logHalfAlerts]
  split
  · obtain ⟨hring, hgenerations, hguard⟩ := s.mirror.putLog_logOnly r s.mirror.logArea.other 0
    have hraise := State.raise_raised
      { s with
        mirror :=
          { s.mirror.putLog r with
            logArea := s.mirror.logArea.other, logIndex := 0, dirty := (s.mirror.putLog r).dirty.mark .header } }
      (.logHalf s.mirror.logArea) none none
    obtain ⟨rgenerations, rguard, _⟩ := OnlyRing.keeps hraise.ring
    exact ⟨hring.raisesAll.append hraise.all, rgenerations.trans hgenerations, rguard.trans hguard⟩
  · obtain ⟨hring, hgenerations, hguard⟩ := s.mirror.putLog_logOnly r (s.mirror.putLog r).logArea (s.mirror.logIndex + 1)
    exact ⟨hring.raisesAll, hgenerations, hguard⟩

theorem State.handLog_raises (s : State) (r : LogRecord) :
    RaisesAll s.mirror (s.handLog r).mirror (logHalfAlerts s) ∧ (s.handLog r).mirror.generations = s.mirror.generations ∧
      (s.handLog r).mirror.guardCount = s.mirror.guardCount := State.writeLog_raises _ _

/-! ### Publication -/

/-- The alerts of steps 4 and 5 of a publication. -/
theorem State.startRounds_clearSkips_raised (s : State) :
    Raised s s.clearSkips.startRounds
      ((if s.allocator.standDown = true then [plainAlert s (.standDownOff s.allocator.skipCount)] else []) ++
        roundStartAlerts s.clearSkips) :=
  s.clearSkips_raised.append s.clearSkips.startRounds_spec.2

/-- The part as the rounds of a publication start. -/
def armedState (s : State) (sn : Snapshot) : State := (s.swapPlanes sn).armBays.clearSkips

/-- The part as the rounds of a publication have started. -/
def startedState (s : State) (sn : Snapshot) : State := (armedState s sn).startRounds

/-- The lanes, the bays and the Mirror Writer of a publication: its rounds, and then its log record. -/
theorem State.publish_started (s : State) (sn : Snapshot) :
    (s.publish sn).lanes = (startedState s sn).lanes ∧ (s.publish sn).bays = (startedState s sn).bays ∧
      (s.publish sn).allocator.front = (armedState s sn).allocator.front ∧
      ∃ r, (s.publish sn).mirror = ((startedState s sn).handLog r).mirror := by
  unfold State.publish startedState armedState
  dsimp only
  have hlog (u : State) (r : LogRecord) : (u.handLog r).allocator = { u.allocator with deliveredTotal := 0 } := by
    simp [State.handLog]
  rw [hlog]
  exact ⟨by simp, by simp, by simp, _, rfl⟩

/-- The alerts of a publication up to its log record. -/
theorem startedState_raised (s : State) (sn : Snapshot) :
    Raised s (startedState s sn)
      ((if s.allocator.standDown = true then [plainAlert s (.standDownOff s.allocator.skipCount)] else []) ++
        roundStartAlerts (armedState s sn)) := by
  have hswapped : MarksOnly s (s.swapPlanes sn) := .of_mirror (by simp) (by simp)
  have harmed : MarksOnly s (s.swapPlanes sn).armBays := hswapped.trans (.armBays _)
  have hoff := harmed.raised.append (s.swapPlanes sn).armBays.startRounds_clearSkips_raised
  have hallocator : (s.swapPlanes sn).armBays.allocator = (s.swapPlanes sn).allocator := by simp
  have hclock : (s.swapPlanes sn).armBays.clock = s.clock := by simp
  have hswap : (s.swapPlanes sn).allocator.standDown = s.allocator.standDown ∧
      (s.swapPlanes sn).allocator.skipCount = s.allocator.skipCount := by simp [State.swapPlanes]
  obtain ⟨hstandDown, hskipCount⟩ := hswap
  rw [plainAlert, hallocator, hclock, hstandDown, hskipCount] at hoff
  unfold startedState armedState
  exact hoff

/-- The bays armed and stand-down ended, as the obligation writes it. -/
def armedFrom (s : State) (front : Vector PlaneEntry 48) : State :=
  { s with
    bays := Vector.ofFn fun b => if (s.bay b).state = .disabled then s.bay b else { s.bay b with armed := true }
    allocator := { s.allocator with front := front, skipCount := 0, standDown := false } }

theorem armedFrom_bay (s : State) (front : Vector PlaneEntry 48) (b : BayNo) : (armedFrom s front).bay b = (s.bay b).armedIn :=
  ofFn_get ..

/-- To each lane the state that the rounds start from is the one with the bays armed and stand-down ended. -/
theorem armedState_alike (s : State) (sn : Snapshot) (l : LaneNo) :
    LaneAlike (armedState s sn) (armedFrom s (armedState s sn).allocator.front) l := by
  have hbays : (armedState s sn).bays = (s.swapPlanes sn).armBays.bays := by simp [armedState]
  refine ⟨?_, fun d => ?_, ?_, ?_, by simp [armedFrom], ?_⟩
  · simp [armedState, armedFrom, State.lane]
  · rw [armedFrom_bay, State.bay_of_bays hbays, State.armBays_bay, State.bay_of_bays (State.swapPlanes_keeps s sn).2.2.1]
  · simp [armedState, armedFrom]
  · simp [armedState, armedFrom]
  · rw [armedState, State.clearSkips_allocator]
    simp [armedFrom]

theorem startedState_logHalf (s : State) (sn : Snapshot) : logHalfAlerts (startedState s sn) = logHalfAlerts s := by
  obtain ⟨_, _, harea, hindex⟩ := OnlyRing.keeps (startedState_raised s sn).ring
  have hconfig : (startedState s sn).config = s.config := by simp [startedState, armedState]
  unfold logHalfAlerts plainAlert
  rw [harea, hindex, hconfig, (startedState_raised s sn).clock]

/-- Settles O32: the steps of a publication in their order, with the alerts of each. -/
theorem publicationStartsTheRounds : Obligations.PublicationStartsTheRounds := by
  intro s sn hpass
  have hexec : exec .publication s = .next (s.publish sn) := congrArg Host.Outcome.next (by rw [hpass])
  refine ⟨_, hexec, ?_⟩
  obtain ⟨hlanes, hbays, hfront, r, hmirror⟩ := s.publish_started sn
  have hraised := startedState_raised s sn
  obtain ⟨hgenerations, hguard, _⟩ := OnlyRing.keeps hraised.ring
  obtain ⟨hlog, lgenerations, lguard⟩ := (startedState s sn).handLog_raises r
  have halike := armedState_alike s sn
  have halerts : roundStartAlerts (armedState s sn) = roundStartAlerts (armedFrom s (armedState s sn).allocator.front) :=
    List.flatMap_congr fun l _ => (halike l).laneStartAlerts.symm
  have hhalf := startedState_logHalf s sn
  rw [halerts] at hraised
  rw [hfront]
  refine ⟨SameButRounds.eq (by simp [SameButRounds]), roundsStarted_iff.2 fun l => ?_, ?_, by simp, ?_, ?_⟩
  · have hstarted := roundsStarted_iff.1 (armedState s sn).startRounds_spec.1 l
    exact ((halike l).laneStarted hstarted).of_target (by rw [State.lane, hlanes]; rfl) fun d => State.bay_of_bays hbays _
  · rw [hmirror]
    exact hhalf ▸ hraised.all.append hlog
  · rw [hmirror]
    exact lgenerations.trans hgenerations
  · rw [hmirror]
    exact lguard.trans hguard

end Sys2Proof.Machine
end

section
/-!
PROOF. Every reset sets the lanes, the Allocator and the clock (R82, R83, R117, R118, R120, R121).
-/

namespace Sys2Proof.Machine

open Sys2Proof

theorem allocatorIsReset_of_reset {t : State} {lastB : Nat} (h : t.allocator = resetAllocator lastB) : AllocatorIsReset t := by
  unfold AllocatorIsReset
  rw [h]
  simp [resetAllocator, PlaneEntry.blank]

/-! ### A power-on and the RESET line -/

/-- The lanes, the Allocator and the clock as a power-on or RESET line ends. -/
theorem State.startUp_lanes_allocator_clock (s : State) (straps : Straps) (level : Level) (offsets : Option Offsets)
    (g : Generations) :
    (s.startUp straps level offsets g).lanes = Vector.replicate 6 Lane.atReset ∧
      (s.startUp straps level offsets g).allocator = resetAllocator 0 ∧
      (s.startUp straps level offsets g).clock = State.reset.clock := by
  have arbitrated : ∀ x : State, x.path.waiting = s.path.waitingAfterReset → x.arbitrate.clock = x.clock := fun x hx =>
    State.arbitrate_clock fun a ha => PathUnit.waitingAfterReset_watched (hx ▸ ha)
  unfold State.startUp
  dsimp only
  split
  · rw [arbitrated _ rfl]
    simp [State.coldReset]
  · rw [arbitrated _ (State.takeParams_waiting ..)]
    simp [State.coldReset]

/-- What a power-on and the RESET line set, drivers and straps with it. -/
theorem State.startUp_setsLanes (s : State) (straps : Straps) (level : Level) (offsets : Option Offsets) (g : Generations) :
    let t := s.startUp straps level offsets g
    t.config.driversReleased = false ∧ t.config.straps = straps ∧ AllocatorIsReset t ∧ t.clock.timerRunning = false ∧
      t.clock.depotSeconds = 0 ∧ ∀ l, t.lane l = Lane.atReset := by
  obtain ⟨hlanes, hallocator, hclock⟩ := s.startUp_lanes_allocator_clock straps level offsets g
  dsimp only
  rw [hclock, s.startUp_config]
  exact ⟨rfl, rfl, allocatorIsReset_of_reset hallocator, rfl, rfl, fun l => by rw [State.lane, hlanes, replicate_get]⟩

/-! ### A depot restart -/

theorem OnlyRing.logEntry {m n : MirrorWriter} (h : OnlyRing m n) (a : LogArea) (i : LogIx) : n.logEntry a i = m.logEntry a i := by
  unfold OnlyRing at h
  rw [h]
  rfl

/-- What stands in the ring behind an alert stood there before, or is that alert. -/
theorem MirrorWriter.takes_alert {m : MirrorWriter} {raised a : Alert} {i : RingIx} (h : (m.takes raised).alerts.get i = some a) :
    m.alerts.get i = some a ∨ a = raised := by
  unfold MirrorWriter.takes at h
  split at h
  · rw [vput_get] at h
    split at h
    · exact .inr (Option.some.inj h).symm
    · exact .inl h
  · exact .inl h

/-- Curtail set from the input leaves the interval log alone. -/
theorem State.curtailFromInput_logEntry (s : State) (a : LogArea) (i : LogIx) :
    s.curtailFromInput.mirror.logEntry a i = s.mirror.logEntry a i := by
  unfold State.curtailFromInput
  split
  · exact (State.raise_raised _ _ none none).ring.logEntry a i
  · rfl

/-- Curtail set from the input stores no alert but CURTAIL ON, with the ceiling in force. -/
theorem State.curtailFromInput_alert {s : State} {i : RingIx} {a : Alert} (h : s.curtailFromInput.mirror.alerts.get i = some a) :
    s.mirror.alerts.get i = some a ∨ a.kind = .curtailOn s.meter.limits.curtailCeiling := by
  unfold State.curtailFromInput at h
  split at h
  · rw [State.curtailOn, State.raise_mirror] at h
    exact (MirrorWriter.takes_alert h).imp_right (congrArg Alert.kind)
  · exact .inl h

@[simp] theorem State.depotRestart_allocator (s : State) : s.depotRestart.allocator = resetAllocator s.allocator.lastB := by
  simp [State.depotRestart]

theorem State.depotRestart_logEntry (s : State) (a : LogArea) (i : LogIx) : s.depotRestart.mirror.logEntry a i = none := by
  rw [State.depotRestart, State.curtailFromInput_logEntry]
  cases a <;> simp [MirrorWriter.logEntry, resetMirror]

theorem State.depotRestart_alert {s : State} {i : RingIx} {a : Alert} (h : s.depotRestart.mirror.alerts.get i = some a) :
    a.kind = .curtailOn s.config.loaded.limits.curtailCeiling := by
  obtain hring | hkind := State.curtailFromInput_alert h
  · simp [resetMirror] at hring
  · exact hkind

/-- Storing a result touches neither the alert ring nor the interval log. -/
theorem State.storeResult_ring (s : State) (n : SlotNo) (code : ResultCode) (detail : Nat) :
    (s.storeResult n code detail).mirror.alerts = s.mirror.alerts ∧
      ∀ a i, (s.storeResult n code detail).mirror.logEntry a i = s.mirror.logEntry a i := by
  unfold State.storeResult
  split <;> exact ⟨rfl, fun _ _ => rfl⟩

/-- Settles O4: the two resets alike, the end of start-up, and a RESTART behind its request. -/
theorem resetsSetLanesAllocatorAndClock : Obligations.ResetsSetLanesAllocatorAndClock := by
  refine ⟨fun straps level s c hc => ?_, fun s hending => ?_, fun s n req rest h hcode => ?_⟩
  · obtain rfl | rfl := hc
    · exact ⟨_, rfl, s.startUp_setsLanes ..⟩
    · exact ⟨_, rfl, s.startUp_setsLanes ..⟩
  · refine ⟨_, rfl, ?_⟩
    simp only [if_pos hending, State.curtailFromInput_keeps]
    rfl
  · obtain ⟨hring, hlog⟩ := s.dequeue.depotRestart.storeResult_ring n .done 0
    refine ⟨_, h.restart hcode, by simp, allocatorIsReset_of_reset (lastB := s.allocator.lastB) (by simp),
      by simp [DepotClock.restart], fun l => ?_,
      fun a i => (hlog a i).trans (State.depotRestart_logEntry ..), fun i a ha => ?_⟩
    · simp only [State.lane, State.storeResult_keeps]
      exact State.depotRestart_lane s.dequeue l
    · rw [hring] at ha
      exact State.depotRestart_alert (s := s.dequeue) ha

end Sys2Proof.Machine
end

section
/-!
PROOF. What a lane collects while it listens (R74, R75).
-/

namespace Sys2Proof.Machine

open Sys2Proof

/-! ### Collecting characters (R75; log entries 14 and 32) -/

theorem Receiver.inconsistent_iff {r : Receiver} : r.inconsistent = true ↔ 3 ≤ r.octets.length ∧ r.impliedLength = none := by
  simp [Receiver.inconsistent]

theorem Receiver.whole_iff {r : Receiver} : r.whole = true ↔ ∃ k, r.impliedLength = some k ∧ k ≤ r.octets.length := by
  unfold Receiver.whole
  split <;> simp [*]

section

variable {r : Receiver} {octet : Byte} {stop : Bool}

theorem Receiver.take_inconsistent (hlength : 3 ≤ r.octets.length) (himplied : r.impliedLength = none) :
    r.take octet stop = r := by
  simp [Receiver.take, Receiver.inconsistent_iff.2 ⟨hlength, himplied⟩]

theorem Receiver.take_trailing (h : r.trailing = true) : r.take octet stop = r := by
  simp [Receiver.take, h]

/-- The first octet behind the implied length is noted, and not kept. -/
theorem Receiver.take_whole {k : Nat} (himplied : r.impliedLength = some k) (hlength : k ≤ r.octets.length)
    (htrailing : r.trailing = false) : r.take octet stop = { r with trailing := true } := by
  have hwhole : r.whole = true := Receiver.whole_iff.2 ⟨k, himplied, hlength⟩
  simp [Receiver.take, Receiver.inconsistent, himplied, htrailing, hwhole]

/-- An octet is kept while neither the flags nor the implied length speak against it. -/
theorem Receiver.take_keep (hconsistent : r.octets.length < 3 ∨ r.impliedLength ≠ none)
    (hshort : ∀ k, r.impliedLength = some k → r.octets.length < k) (htrailing : r.trailing = false) :
    r.take octet stop = r.keep octet stop := by
  have hinconsistent : r.inconsistent = false := by
    rw [Bool.eq_false_iff, ne_eq, Receiver.inconsistent_iff]
    rintro ⟨hlength, himplied⟩
    exact hconsistent.elim (by omega) (· himplied)
  have hwhole : r.whole = false := by
    rw [Bool.eq_false_iff, ne_eq, Receiver.whole_iff]
    rintro ⟨k, himplied, hlength⟩
    have := hshort k himplied
    omega
  simp [Receiver.take, hinconsistent, hwhole, htrailing]

/-- Behind the third octet the implied length stays as it is. -/
theorem Receiver.keep_of_three (h : 3 ≤ r.octets.length) :
    r.keep octet stop = { r with octets := r.octets ++ [octet], stopMissing := r.stopMissing || !stop } := by
  have hlength : r.octets.length ≠ 2 := by omega
  simp [Receiver.keep, hlength]

theorem Receiver.keep_before_third (h : r.octets.length < 2) : (r.keep octet stop).impliedLength = r.impliedLength := by
  have hlength : r.octets.length ≠ 2 := by omega
  simp [Receiver.keep, hlength]

theorem Receiver.keep_third {first second : Byte} (h : r.octets = [first, second]) :
    (r.keep octet stop).impliedLength = impliedLengthOf second octet := by
  simp [Receiver.keep, h]

end

/-- The second octet's status is none of the three exactly when its field is 0. -/
theorem statusOf_isNone (o : Byte) : (statusOf o).isNone = true ↔ o.extractLsb' 4 2 = 0 := by
  unfold statusOf
  generalize o.extractLsb' 4 2 = status
  revert status
  decide

/-- The length that status and flags imply, flag by flag (R75). -/
theorem impliedLengthOf_eq (second third : Byte) :
    impliedLengthOf second third =
      if second.extractLsb' 4 2 = 0 then none
      else if third.getLsbD 1 = true then (if third.getLsbD 2 = true then some 22 else some 21)
      else if third.getLsbD 2 = true then none
      else some 13 := by
  unfold impliedLengthOf
  refine if_congr (statusOf_isNone second) rfl ?_
  cases third.getLsbD 1 <;> cases third.getLsbD 2 <;> rfl

/-- A character that reaches a listening lane goes to its receiver. -/
theorem exec_characterArrival {s : State} {l : LaneNo} {r : Receiver} (hphase : (s.lane l).phase = .listening)
    (hr : (s.lane l).receiver = some r) (octet : Byte) (stop : Bool) :
    exec (.characterArrival l octet stop) s =
      .next (s.setLane l { s.lane l with receiver := some (r.take octet stop) }) := by
  change execCharacterArrival l octet stop s = _
  simp [execCharacterArrival, hphase, hr, State.updLane]

/-- Settles O35: phase by phase, and in LISTENING by what the receiver holds. -/
theorem laneSendsAndListens : Obligations.LaneSendsAndListens := by
  refine ⟨fun s l hphase => ?_, fun s l hphase => ?_, fun s l octet stop r hphase hr => ?_, fun s l octet stop hphase => ?_⟩
  · change execFrameSent l s = _
    rw [execFrameSent, hphase]
    rfl
  · change execFrameSent l s = _
    rw [execFrameSent]
    cases h : (s.lane l).phase with
    | sending => exact absurd h hphase
    | idle => rfl
    | listening => rfl
  · refine ⟨_, exec_characterArrival hphase hr octet stop, Receiver.take_inconsistent, Receiver.take_trailing,
      fun k hk hlength _ htrailing => Receiver.take_whole hk hlength htrailing,
      fun k hk hlength hthree htrailing => ?_, fun hthree himplied htrailing => ?_⟩
    · rw [Receiver.take_keep (.inr (by simp [hk])) (by simp [hk, hlength]) htrailing, Receiver.keep_of_three hthree]
    · rw [Receiver.take_keep (.inl hthree) (by simp [himplied]) htrailing]
      refine ⟨rfl, rfl, htrailing, fun htwo => ?_, fun first second h => ?_⟩
      · rw [Receiver.keep_before_third htwo, himplied]
      · rw [Receiver.keep_third h, impliedLengthOf_eq]
  · change execCharacterArrival l octet stop s = _
    rw [execCharacterArrival]
    cases h : (s.lane l).phase with
    | listening => exact absurd h hphase
    | idle => rfl
    | sending => rfl

end Sys2Proof.Machine
end

section
/-!
PROOF. An exchange is judged by seven checks in their order, and a good report read by the REPORT table (R77, R78, R157).
-/

namespace Sys2Proof.Machine

open Sys2Proof

/-! ### The octets of a report (R156, R157) -/

/-- The model's field and the obligations' value of several octets are one. -/
theorem fieldAt_eq_valueAt (octets : List Byte) (start count : Nat) : fieldAt octets start count = valueAt octets start count := by
  unfold fieldAt bigEndian valueAt
  simp only [Nat.mul_comm]

theorem valueAt_one (octets : List Byte) (i : Nat) : valueAt octets i 1 = (octets.getD i 0).toNat := by
  unfold valueAt
  rcases Nat.lt_or_ge i octets.length with h | h
  · rw [List.drop_eq_getElem_cons h, List.getD_eq_getElem _ _ h]
    simp only [List.take_succ_cons, List.take_zero, List.foldl_cons, List.foldl_nil]
    omega
  · rw [List.drop_eq_nil_of_le h, List.getD_eq_default _ _ h]
    rfl

/-- A field of an octet, as a remainder of its value. -/
theorem extractLsb'_eq_ofNat (o : Byte) (low width : Nat) :
    o.extractLsb' low width = BitVec.ofNat width (o.toNat / 2 ^ low % 2 ^ width) := by
  apply BitVec.eq_of_toNat_eq
  simp [Nat.shiftRight_eq_div_pow]

/-- The status by the value of its field. -/
theorem statusOf_eq (o : Byte) :
    statusOf o =
      if o.toNat / 16 % 4 = 0 then none
      else some (if o.toNat / 16 % 4 = 1 then .accept else if o.toNat / 16 % 4 = 2 then .busy else .refuse) := by
  have hfield : o.extractLsb' 4 2 = BitVec.ofNat 2 (o.toNat / 16 % 4) := extractLsb'_eq_ofNat o 4 2
  have hlt : o.toNat / 16 % 4 < 4 := Nat.mod_lt _ (by decide)
  unfold statusOf
  rw [hfield]
  generalize o.toNat / 16 % 4 = status at hlt
  revert status
  decide

/-- The REPORT table, place by place. -/
theorem readReport_eq (status : ReportStatus) (o : List Byte) :
    readReport status o =
      { status := status
        toggleEcho := (o.getD 2 0).getLsbD 0
        plug :=
          if (o.getD 2 0).getLsbD 1 = true then some (BitVec.ofNat 48 (valueAt o 11 6), valueAt o 17 2) else none
        postSet := BitVec.ofNat 4 (valueAt o 3 1)
        vanSet := if (o.getD 2 0).getLsbD 2 = true then some (BitVec.ofNat 4 (valueAt o 19 1)) else none
        applied := min 220 (valueAt o 4 1)
        postCeiling := min 220 (valueAt o 5 1)
        measuredPower := valueAt o 6 2
        meter := valueAt o 8 3 } := by
  have hmodes : ∀ b : Byte, b.extractLsb' 0 4 = BitVec.ofNat 4 b.toNat := fun b => by
    rw [extractLsb'_eq_ofNat]
    apply BitVec.eq_of_toNat_eq
    simp
  simp only [readReport, fieldAt_eq_valueAt, valueAt_one, hmodes]

/-! ### The checks (R77) -/

theorem framing_iff (r : Receiver) :
    (r.stopMissing || (r.octets.head?.any fun first => first != 0x3C)) = true ↔
      r.stopMissing = true ∨ (r.octets ≠ [] ∧ r.octets.getD 0 0 ≠ 0x3C) := by
  cases r.octets <;> simp

theorem dropEcho_iff (o : Byte) (d : Drop) : (o.extractLsb' 0 3 != BitVec.ofNat 3 d.val) = true ↔ o.toNat % 8 ≠ d.val := by
  rw [extractLsb'_eq_ofNat, bne_iff_ne, ne_eq, ← BitVec.toNat_inj, ne_eq]
  simp

theorem FrameKind.carriesValue_iff {k : FrameKind} : k.carriesValue = true ↔ k = .setpoint ∨ k = .stop := by
  cases k <;> simp [FrameKind.carriesValue]

/-- A report that accepts a value and echoes another toggle than its frame's fails. -/
theorem downlink_iff (x : Exchange) (answer : ReportStatus) (o : List Byte) :
    (decide (answer = .accept) && x.kind.carriesValue && (readReport answer o).toggleEcho != x.toggle) = true ↔
      answer = .accept ∧ (x.kind = .setpoint ∨ x.kind = .stop) ∧ (o.getD 2 0).getLsbD 0 ≠ x.toggle := by
  simp only [Bool.and_eq_true, decide_eq_true_eq, FrameKind.carriesValue_iff, bne_iff_ne, and_assoc]
  rfl

theorem accept_iff {status : Nat} :
    (if status = 1 then ReportStatus.accept else if status = 2 then .busy else .refuse) = .accept ↔ status = 1 := by
  split_ifs <;> simp [*]

/-- Settles O37: check by check, and behind them the fields of the report. -/
theorem exchangeIsJudgedInOrder : Obligations.ExchangeIsJudgedInOrder := by
  intro x r o flag status
  have hstatus : status = (o.getD 1 0).toNat / 16 % 4 := by rw [← valueAt_one]
  unfold judgeExchange
  refine if_congr (framing_iff r) rfl (if_congr Receiver.inconsistent_iff rfl ?_)
  cases himplied : r.impliedLength with
  | none => simp [Receiver.whole, himplied]
  | some k =>
    have hwhole : (!r.whole) = true ↔ o.length < k := by simp [Receiver.whole, himplied, o]
    have hcrc : (!crcGood o) = true ↔ crcOctets (crc16 (o.take (o.length - 2))) ≠ o.drop (o.length - 2) := by simp [crcGood]
    have hdrop := dropEcho_iff (o.getD 1 0) x.drop
    rw [← valueAt_one] at hdrop
    refine if_congr hwhole rfl (if_congr Iff.rfl rfl (if_congr hcrc rfl (if_congr hdrop rfl ?_)))
    rw [statusOf_eq, ← hstatus]
    by_cases hzero : status = 0
    · rw [if_pos hzero, if_pos hzero]
    · rw [if_neg hzero, if_neg hzero]
      exact if_congr ((downlink_iff x _ o).trans (and_congr_left' accept_iff)) rfl
        (congrArg ExchangeOutcome.good (readReport_eq _ o))

end Sys2Proof.Machine
end

section
/-!
PROOF. The frame formed for a drop, and its octets (R72 to R74, R113).
-/

namespace Sys2Proof.Machine

open Sys2Proof

/-! ### The choice of the frame (R72, R73, R113) -/

/-- The kind of the frame of a bay: R72's table, with STOP for SETPOINT and HOLD in stand-down. -/
def frameKindFor (standDown : Bool) (p : Params) (bay : BayRecord) : FrameKind :=
  if standDown = true ∧ (frameTable p bay = .setpoint ∨ frameTable p bay = .hold) then .stop else frameTable p bay

/-- A bay that gets a setpoint from its plane entry: PLUGGED and armed, with stand-down off. -/
def TakesEntry (standDown : Bool) (bay : BayRecord) : Prop := bay.state = .plugged ∧ bay.armed = true ∧ standDown = false

theorem frameKindFor_setpoint {standDown : Bool} {p : Params} {bay : BayRecord} (h : frameKindFor standDown p bay = .setpoint) :
    standDown = false ∧ frameTable p bay = .setpoint := by
  unfold frameKindFor at h
  split at h
  · cases h
  · next hoff => exact ⟨by simpa [h] using hoff, h⟩

theorem frameKindFor_standDown (p : Params) (bay : BayRecord) :
    frameKindFor true p bay ≠ .setpoint ∧ frameKindFor true p bay ≠ .hold := by
  unfold frameKindFor
  split
  · simp
  · next h => simpa using h

theorem frameTable_plugged {p : Params} {bay : BayRecord} (h : bay.state = .plugged) :
    frameTable p bay = if bay.armed = true then .setpoint else .hold := by
  simp [frameTable, h]

/-- A PLUGGED bay is sent a SETPOINT exactly when it takes its entry. -/
theorem takesEntry_iff {standDown : Bool} {p : Params} {bay : BayRecord} :
    TakesEntry standDown bay ↔ frameKindFor standDown p bay = .setpoint ∧ bay.state = .plugged := by
  constructor
  · rintro ⟨hplugged, harmed, hoff⟩
    exact ⟨by simp [frameKindFor, frameTable_plugged hplugged, harmed, hoff], hplugged⟩
  · rintro ⟨hkind, hplugged⟩
    obtain ⟨hoff, htable⟩ := frameKindFor_setpoint hkind
    exact ⟨hplugged, by simpa [frameTable_plugged hplugged] using htable, hoff⟩

/-- Stand-down apart, only an armed PLUGGED bay's frame has a value, and its kind is the table's. -/
theorem tableFrame_eq (p : Params) (e : PlaneEntry) (d : Drop) (bay : BayRecord) :
    tableFrame p e d bay =
      if bay.state = .plugged ∧ bay.armed = true then
        mkFrame d bay .setpoint false (setpointValue p e bay) (e.matches bay && e.preconditionOn) bay.agreedMode
      else mkFrame d bay (frameTable p bay) (decide (bay.state = .agreeing)) 0 false none := by
  unfold tableFrame frameTable
  cases bay.state
  case plugged | incompatible | unlisted => cases bay.armed <;> rfl
  case empty => by_cases hdoze : bay.emptyRounds = p.dozeDelay ∧ p.dozeDelay ≠ 0 <;> simp [hdoze]
  all_goals rfl

theorem standDownFrame_eq (standDown : Bool) (d : Drop) (bay : BayRecord) (f : Frame) :
    standDownFrame standDown d bay f =
      if standDown = true ∧ (f.exchange.kind = .setpoint ∨ f.exchange.kind = .hold) then mkFrame d bay .stop false 0 false none
      else f := by
  unfold standDownFrame
  cases standDown
  · simp
  · cases f.exchange.kind <;> simp

/-- In AGREEING the table gives a POLL, which stand-down leaves. -/
theorem frameTable_agreeing {p : Params} {bay : BayRecord} (h : bay.state = .agreeing) : frameTable p bay = .poll := by
  simp [frameTable, h]

@[simp] theorem mkFrame_kind (d : Drop) (bay : BayRecord) (kind : FrameKind) (request : Bool) (value : Nat) (pre : Bool)
    (mode : Option ChargeMode) : (mkFrame d bay kind request value pre mode).exchange.kind = kind := rfl

section

variable {standDown : Bool} {bay : BayRecord} (p : Params) (e : PlaneEntry) (d : Drop)

theorem standDownFrame_of_takesEntry (h : TakesEntry standDown bay) :
    standDownFrame standDown d bay (tableFrame p e d bay) =
      mkFrame d bay .setpoint false (setpointValue p e bay) (e.matches bay && e.preconditionOn) bay.agreedMode := by
  obtain ⟨hplugged, harmed, hoff⟩ := h
  rw [standDownFrame_eq, tableFrame_eq, if_pos (c := bay.state = _ ∧ _) ⟨hplugged, harmed⟩, if_neg (by simp [hoff])]

theorem standDownFrame_of_not_takesEntry (h : ¬TakesEntry standDown bay) :
    standDownFrame standDown d bay (tableFrame p e d bay) =
      mkFrame d bay (frameKindFor standDown p bay) (decide (bay.state = .agreeing)) 0 false none := by
  rw [standDownFrame_eq, tableFrame_eq]
  by_cases harmed : bay.state = .plugged ∧ bay.armed = true
  · have hon : standDown = true := by
      rw [← Bool.not_eq_false]
      exact fun hoff => h ⟨harmed.1, harmed.2, hoff⟩
    simp [harmed, hon, frameKindFor, frameTable_plugged]
  · rw [if_neg harmed, mkFrame_kind, frameKindFor]
    split
    · next hstop =>
      have hagreeing : bay.state ≠ .agreeing := fun ha => by simp [frameTable_agreeing ha] at hstop
      simp [hagreeing]
    · rfl

/-- Drop, toggle, kind and capability request of the frame, whatever value it carries. -/
theorem standDownFrame_header {f : Frame} (hf : f = standDownFrame standDown d bay (tableFrame p e d bay)) :
    f.exchange.drop = d ∧ f.exchange.toggle = bay.toggle ∧ f.exchange.kind = frameKindFor standDown p bay ∧
      f.exchange.capabilityRequest = decide (bay.state = .agreeing) := by
  by_cases h : TakesEntry standDown bay
  · rw [hf, standDownFrame_of_takesEntry p e d h]
    exact ⟨rfl, rfl, (takesEntry_iff.1 h).1.symm, by simp [mkFrame, h.1]⟩
  · rw [hf, standDownFrame_of_not_takesEntry p e d h]
    exact ⟨rfl, rfl, rfl, rfl⟩

end

/-! ### The value of a SETPOINT (R72) -/

theorem PlaneEntry.matches_iff {e : PlaneEntry} {bay : BayRecord} :
    e.matches bay = true ↔ e.tag = bay.boundTag ∧ e.mode = bay.agreedMode := by
  simp [PlaneEntry.matches]

theorem setpointValue_le (p : Params) (e : PlaneEntry) (bay : BayRecord) :
    setpointValue p e bay ≤ bay.cap ∧ setpointValue p e bay ≤ p.modeMaximum bay.agreedMode := by
  unfold setpointValue
  split <;> omega

/-- Without an agreed mode a SETPOINT carries 0, so a value is bounded by its mode's maximum. -/
theorem setpointValue_mode {p : Params} {e : PlaneEntry} {bay : BayRecord} (h : setpointValue p e bay ≠ 0) :
    ∃ m, bay.agreedMode = some m ∧ setpointValue p e bay ≤ (p.modeEntry m).maximum := by
  have hle := (setpointValue_le p e bay).2
  cases hmode : bay.agreedMode with
  | none =>
    rw [hmode, Params.modeMaximum] at hle
    exact absurd (Nat.le_zero.1 hle) h
  | some m =>
    rw [hmode] at hle
    exact ⟨m, rfl, hle⟩

/-! ### The octets (R74) -/

/-- The second octet of a frame. -/
def Frame.second (f : Frame) : Byte := BitVec.ofNat 8 (f.exchange.drop.val + field 4 3 f.exchange.kind.code)

/-- The third octet of a frame. -/
def Frame.third (f : Frame) : Byte :=
  BitVec.ofNat 8 (bit f.exchange.toggle + 2 * bit f.preconditionOn + 4 * bit f.exchange.capabilityRequest)

theorem Frame.body_eq (f : Frame) :
    f.body =
      [0xC3, f.second, f.third] ++
        if f.exchange.kind = .setpoint ∨ f.exchange.kind = .stop then
          [BitVec.ofNat 8 f.exchange.value, BitVec.ofNat 8 (modeCode f.mode)]
        else [] := by
  unfold Frame.body
  cases h : f.exchange.kind <;> simp [Frame.second, Frame.third, h]

theorem Frame.second_holdsFields (f : Frame) :
    HoldsFields f.second [(0, 3, f.exchange.drop.val), (4, 3, f.exchange.kind.code)] := by
  unfold Frame.second HoldsFields
  generalize f.exchange.drop = d
  cases f.exchange.kind <;> revert d <;> decide

theorem Frame.third_holdsFields (f : Frame) :
    HoldsFields f.third
      [(0, 1, bit f.exchange.toggle), (1, 1, bit f.preconditionOn), (2, 1, bit f.exchange.capabilityRequest)] := by
  unfold Frame.third HoldsFields
  generalize f.exchange.toggle = toggle, f.preconditionOn = pre, f.exchange.capabilityRequest = request
  revert toggle pre request
  decide

/-- Settles O38: by whether the bay takes its plane entry, and the octets alike for every frame. -/
theorem frameFollowsTheTable : Obligations.FrameFollowsTheTable := by
  intro s l d f x bay entry table live carries
  have hformed : f = standDownFrame s.allocator.standDown d bay (tableFrame s.config.loaded entry d bay) := rfl
  obtain ⟨hdrop, htoggle, hkind, hrequest⟩ : x.drop = d ∧ x.toggle = bay.toggle ∧
      x.kind = frameKindFor s.allocator.standDown s.config.loaded bay ∧
      x.capabilityRequest = decide (bay.state = .agreeing) := standDownFrame_header _ _ _ hformed
  refine ⟨hdrop, htoggle, fun _ => hkind, hrequest, fun hset hplugged m hm => ?_, fun hplain => ?_, fun hset hvalue => ?_,
    fun hon => ?_, ?_⟩
  · have htakes : TakesEntry s.allocator.standDown bay := takesEntry_iff.2 ⟨hkind ▸ hset, hplugged⟩
    rw [standDownFrame_of_takesEntry _ _ _ htakes] at hformed
    have hvalue : x.value = setpointValue s.config.loaded entry bay := congrArg (·.exchange.value) hformed
    have hmaximum : s.config.loaded.modeMaximum bay.agreedMode = (s.config.loaded.modeEntry m).maximum := by rw [hm]; rfl
    refine ⟨?_, ?_, ?_⟩
    · rw [hvalue, setpointValue, hmaximum]
      exact if_congr PlaneEntry.matches_iff rfl rfl
    · have hpre : f.preconditionOn = (entry.matches bay && entry.preconditionOn) := congrArg Frame.preconditionOn hformed
      rw [hpre, Bool.eq_iff_iff, Bool.and_eq_true, PlaneEntry.matches_iff, decide_eq_true_iff]
    · rw [hformed]
      exact hm
  · have htakes : ¬TakesEntry s.allocator.standDown bay := fun h => by
      obtain ⟨hset, hplugged⟩ := (takesEntry_iff (p := s.config.loaded)).1 h
      exact hplain.elim (· (hkind.trans hset)) (· hplugged)
    rw [standDownFrame_of_not_takesEntry _ _ _ htakes] at hformed
    exact ⟨congrArg (·.exchange.value) hformed, congrArg Frame.preconditionOn hformed, congrArg Frame.mode hformed⟩
  · by_cases htakes : TakesEntry s.allocator.standDown bay
    · rw [standDownFrame_of_takesEntry _ _ _ htakes] at hformed
      have hx : x.value = setpointValue s.config.loaded entry bay := congrArg (·.exchange.value) hformed
      rw [hx] at hvalue ⊢
      exact ⟨htakes.1, (setpointValue_le ..).1, setpointValue_mode hvalue⟩
    · rw [standDownFrame_of_not_takesEntry _ _ _ htakes] at hformed
      exact absurd (congrArg (·.exchange.value) hformed) hvalue
  · rw [hkind, hon]
    exact frameKindFor_standDown ..
  · have hsecond : HoldsFields f.second [(0, 3, x.drop.val), (4, 3, x.kind.code)] := f.second_holdsFields
    have hthird : HoldsFields f.third [(0, 1, bit x.toggle), (1, 1, bit f.preconditionOn), (2, 1, bit x.capabilityRequest)] :=
      f.third_holdsFields
    rw [hdrop] at hsecond
    rw [htoggle] at hthird
    refine ⟨f.second, f.third, hsecond, hthird, ?_⟩
    rw [Frame.octets, f.body_eq]
    rfl

end Sys2Proof.Machine
end

section
/-!
PROOF. The requests of the Feeder Meter and its calibration: SET LIMITS, CALIBRATE and calibration completion (R88, R89, R97, R142,
R155).
-/

namespace Sys2Proof.Machine

open Sys2Proof

/-- Two states that agree in every block are one. -/
theorem State.eq_of_fields {s t : State}
    (h : t.roster = s.roster ∧ t.book = s.book ∧ t.bays = s.bays ∧ t.lanes = s.lanes ∧ t.meter = s.meter ∧
      t.allocator = s.allocator ∧ t.clock = s.clock ∧ t.mirror = s.mirror ∧ t.path = s.path ∧ t.intake = s.intake ∧
      t.config = s.config ∧ t.memory = s.memory ∧ t.draws = s.draws ∧ t.pending = s.pending) : t = s := by
  cases s
  cases t
  simpa only [State.mk.injEq] using h

@[simp] theorem State.updMeter_meter (s : State) (f : FeederMeter → FeederMeter) : (s.updMeter f).meter = f s.meter := rfl

/-! ### SET LIMITS (R97) -/

/-- The checks of SET LIMITS in their order, with the meter that each outcome leaves. -/
theorem State.answerSetLimits_checks (s : State) (r : Request) :
    let w0 := (r.words.get 0).toNat
    let w1 := (r.words.get 1).toNat
    let w2 := (r.words.get 2).toNat
    ∃ m code detail, s.answerSetLimits r = { state := { s with meter := m }, code := code, detail := detail } ∧
      if w0 < 100 ∨ 65535 < w0 then code = .badField ∧ detail = 1 ∧ m = s.meter
      else if 10000 < w1 then code = .badField ∧ detail = 2 ∧ m = s.meter
      else if 65535 < w2 then code = .badField ∧ detail = 3 ∧ m = s.meter
      else
        code = .done ∧ detail = 0 ∧ m = { s.meter with limits := { feederLimit := w0, margin := w1, curtailCeiling := w2 } } := by
  unfold State.answerSetLimits Request.word
  dsimp only
  split
  · exact ⟨_, _, _, rfl, rfl, rfl, rfl⟩
  split
  · exact ⟨_, _, _, rfl, rfl, rfl, rfl⟩
  split <;> exact ⟨_, _, _, rfl, rfl, rfl, rfl⟩

/-- An answer whose owner has changed the Meter alone. -/
theorem Requested.meterAnswered {s : State} {n : SlotNo} {req : Request} {rest : List SlotNo} (h : Requested s n req rest)
    (m : FeederMeter) (code : ResultCode) (detail : Nat) :
    let t := State.storeResult { s.dequeue with meter := m } n code detail
    t = { s with meter := m, intake := t.intake, mirror := t.mirror, path := t.path } ∧ Answered s t n req rest code detail :=
  ⟨State.eq_of_fields (by simp), State.storeResult_answered (a := { s.dequeue with meter := m }) h rfl rfl rfl code detail⟩

/-- Settles O28: the three checks in their order, then the limits. -/
theorem setLimitsIsChecked : Obligations.SetLimitsIsChecked := by
  intro s n req rest h hcode
  dsimp only
  obtain ⟨m, code, detail, hanswer, hchecks⟩ := s.dequeue.answerSetLimits_checks req
  have hexec : exec .setLimits s = .next (State.storeResult { s.dequeue with meter := m } n code detail) :=
    congrArg Host.Outcome.next ((h.takeRequest _ (by simp [hcode])).trans (congrArg (Answer.store · n) hanswer))
  obtain ⟨honly, hanswered⟩ := h.meterAnswered m code detail
  have hmeter := congrArg State.meter honly
  refine ⟨_, hexec, by rwa [hmeter], ?_⟩
  split_ifs at hchecks ⊢ <;> obtain ⟨rfl, rfl, rfl⟩ := hchecks <;> exact ⟨hanswered, hmeter⟩

/-! ### CALIBRATE (R89, R142) -/

/-- A calibration begun on request: its slot is IN HAND, and no other block has changed. -/
theorem Requested.calibrationBegun {s : State} {n : SlotNo} {req : Request} {rest : List SlotNo} (h : Requested s n req rest) :
    let t := (s.dequeue.updMeter fun m => { m with calibration := .inFlight (.request n) }).holdInHand n req
    t.meter = { s.meter with calibration := .inFlight (.request n) } ∧ t.slot n = { s.slot n with busy := some (.inHand, req) } ∧
      (∀ m, m ≠ n → t.slot m = s.slot m) ∧ t.intake = { s.intake with queue := rest, slots := t.intake.slots } ∧
      t = { s with meter := t.meter, intake := t.intake } := by
  have hqueue : s.intake.queue.tail = rest := by rw [h.1]; rfl
  subst hqueue
  exact ⟨rfl, State.setSlot_slot_self .., fun m hm => (State.setSlot_slot ..).trans (if_neg hm), rfl, rfl⟩

/-- CALIBRATE is taken by the Meter. -/
theorem Requested.calibrate {s : State} {n : SlotNo} {req : Request} {rest : List SlotNo} (h : Requested s n req rest)
    (hcode : req.code = 0x13) : exec .calibrate s = .next (s.dequeue.takeCalibrate n req) :=
  congrArg Host.Outcome.next (h.takeRequest _ (by simp [hcode]))

/-! ### Calibration completion (R88, R142, R155) -/

/-- A channel passes when its average lies in the range. -/
theorem calPasses_iff {average : Nat} : calPasses average = true ↔ ¬(average < 1984 ∨ 2112 < average) := by
  simp [calPasses]

theorem failedAverage_eq (average : Nat) :
    failedAverage average = if average < 1984 ∨ 2112 < average then some average else none := by
  unfold failedAverage
  rw [ite_eq_iff']
  refine ⟨fun h => (if_neg (calPasses_iff.1 h)).symm, fun h => (if_pos ?_).symm⟩
  rwa [calPasses_iff, not_not] at h

/-- The failed channels as bits, one for each channel that has failed. -/
theorem failedChannels_eq (a1 a2 a3 : Nat) :
    failedChannels (failedAverage a1) (failedAverage a2) (failedAverage a3) =
      (if a1 < 1984 ∨ 2112 < a1 then 1 else 0) + (if a2 < 1984 ∨ 2112 < a2 then 2 else 0) +
        if a3 < 1984 ∨ 2112 < a3 then 4 else 0 := by
  have hbit : ∀ a, bit (failedAverage a).isSome = if a < 1984 ∨ 2112 < a then 1 else 0 := fun a => by
    rw [failedAverage_eq]
    split <;> rfl
  simp only [failedChannels, hbit, mul_ite, mul_one, mul_zero]

/-- Offsets that have passed fit their fields. -/
theorem Offsets.detail_eq {o : Offsets} (h : calPasses o.l1 = true ∧ calPasses o.l2 = true ∧ calPasses o.l3 = true) :
    o.detail = o.l1 + 4096 * o.l2 + 16777216 * o.l3 := by
  simp only [calPasses_iff] at h
  unfold Offsets.detail field
  omega

/-- The part as a calibration ends with the offsets and the alert given, up to its answer. -/
def State.calibrationJudged (s : State) (offsets : Option Offsets) (alert : AlertKind) : State :=
  (s.updMeter fun m => { m with calibration := .idle, offsets := offsets }).leaveCalibrating.raise alert none none

/-- The two outcomes of a calibration (R88). -/
theorem State.completeCalibration_eq (s : State) (origin : CalOrigin) (a1 a2 a3 : Nat) :
    s.completeCalibration origin a1 a2 a3 =
      if calPasses a1 = true ∧ calPasses a2 = true ∧ calPasses a3 = true then
        (s.calibrationJudged (some { l1 := a1, l2 := a2, l3 := a3 }) (.calDone { l1 := a1, l2 := a2, l3 := a3 })).calibrationResult
          origin .done (Offsets.detail { l1 := a1, l2 := a2, l3 := a3 })
      else
        (s.calibrationJudged s.meter.offsets
          (.calFail (failedAverage a1) (failedAverage a2) (failedAverage a3))).calibrationResult origin .calFailed
            (failedChannels (failedAverage a1) (failedAverage a2) (failedAverage a3)) := by
  unfold State.completeCalibration State.calibrationJudged State.leaveCalibrating
  simp only [Bool.and_eq_true, and_assoc]
  split <;> by_cases hstep : s.config.step = .calibrating <;> simp [hstep, State.updMeter]

theorem State.leaveCalibrating_config (s : State) :
    s.leaveCalibrating.config = { s.config with step := if s.config.step = .calibrating then .ending else s.config.step } := by
  unfold State.leaveCalibrating
  split <;> rfl

section

variable (s : State) (offsets : Option Offsets) (alert : AlertKind)

theorem State.calibrationJudged_raised : Raised s (s.calibrationJudged offsets alert) [plainAlert s alert] := by
  have hmarks : MarksOnly s (s.updMeter fun m => { m with calibration := .idle, offsets := offsets }).leaveCalibrating :=
    .of_mirror (by simp) (by simp)
  exact hmarks.raised.raise alert none none

/-- The judgement reaches the Meter, the start-up step and the Mirror Writer. -/
theorem State.calibrationJudged_blocks :
    s.calibrationJudged offsets alert =
      { s with
        meter := { s.meter with calibration := .idle, offsets := offsets }
        config := { s.config with step := if s.config.step = .calibrating then .ending else s.config.step }
        mirror := (s.calibrationJudged offsets alert).mirror } := by
  refine State.eq_of_fields ?_
  simp [State.calibrationJudged, State.leaveCalibrating_config]

end

/-- The answer of a calibration stands in Plan Intake, the Path Unit and the Mirror Writer (R142). -/
theorem State.calibrationResult_only (s : State) (origin : CalOrigin) (code : ResultCode) (detail : Nat) :
    s.calibrationResult origin code detail =
      { s with
        mirror := (s.calibrationResult origin code detail).mirror
        path := (s.calibrationResult origin code detail).path
        intake := (s.calibrationResult origin code detail).intake } :=
  State.eq_of_fields (by simp)

theorem State.storeResult_sameRing (s : State) (n : SlotNo) (code : ResultCode) (detail : Nat) :
    SameRing s.mirror (s.storeResult n code detail).mirror := by
  unfold State.storeResult
  split
  · exact .refl _
  · exact State.mark_sameRing _ _

theorem State.calibrationResult_sameRing (s : State) (origin : CalOrigin) (code : ResultCode) (detail : Nat) :
    SameRing s.mirror (s.calibrationResult origin code detail).mirror := by
  cases origin with
  | startUp => exact .refl _
  | request n => exact s.storeResult_sameRing n code detail

/-- What a calibration leaves that ends with the offsets, the alert and the answer given. -/
structure CalibrationEnded (s t : State) (origin : CalOrigin) (offsets : Option Offsets) (alert : AlertKind) (code : ResultCode)
    (detail : Nat) : Prop where
  only : t = { s with meter := t.meter, mirror := t.mirror, path := t.path, intake := t.intake, config := t.config }
  config : t.config = { s.config with step := if s.config.step = .calibrating then .ending else s.config.step }
  meter : t.meter = { s.meter with calibration := .idle, offsets := offsets }
  raised : RaisesAll s.mirror t.mirror [plainAlert s alert]
  startUp : origin = .startUp → t.intake = s.intake ∧ t.path = s.path ∧ OnlyRing s.mirror t.mirror
  request : ∀ n phase req, origin = .request n → (s.slot n).busy = some (phase, req) →
    t.slot n =
      { s.slot n with
        busy := some (.answered, req), result := { tag := req.tag, code := code, detail := BitVec.ofNat 40 detail } } ∧
    (∀ m, m ≠ n → t.slot m = s.slot m) ∧ t.intake = { s.intake with slots := t.intake.slots } ∧
    t.mirror.dirty.has (.slot n) = true ∧ t.mirror.backlog = s.mirror.backlog.map (fun w => w.outdate n) ∧
    t.path = { s.path with port := s.path.port.outdate n }

/-- A calibration that ends so. -/
theorem State.calibrationJudged_ended (s : State) (origin : CalOrigin) (offsets : Option Offsets) (alert : AlertKind)
    (code : ResultCode) (detail : Nat) :
    CalibrationEnded s ((s.calibrationJudged offsets alert).calibrationResult origin code detail) origin offsets alert code
      detail := by
  have hraised := s.calibrationJudged_raised offsets alert
  have hblocks := s.calibrationJudged_blocks offsets alert
  have hbacklog : (s.calibrationJudged offsets alert).mirror.backlog = s.mirror.backlog := by simp [State.calibrationJudged]
  have hring := (s.calibrationJudged offsets alert).calibrationResult_sameRing origin code detail
  have honly := (s.calibrationJudged offsets alert).calibrationResult_only origin code detail
  generalize s.calibrationJudged offsets alert = x at *
  refine ⟨?_, ?_, ?_, hraised.all.thenSame hring, ?_, ?_⟩
  · rw [honly, hblocks]
  · rw [honly, hblocks]
  · rw [honly, hblocks]
  · rintro rfl
    exact ⟨by rw [hblocks]; rfl, by rw [hblocks]; rfl, hraised.ring⟩
  · rintro n phase req rfl hbusy
    have hslot : ∀ m, x.slot m = s.slot m := fun m => by rw [hblocks]; rfl
    have hintake : x.intake = s.intake := by rw [hblocks]
    have hpath : x.path = s.path := by rw [hblocks]
    have hstored : x.calibrationResult (.request n) code detail = _ :=
      x.storeResult_eq n code detail ((congrArg PostingSlot.busy (hslot n)).trans hbusy)
    rw [hstored, ← hslot n, ← hbacklog, ← hpath, ← hintake]
    refine ⟨vput_get_self .., fun m hm => (vput_get_of_ne _ _ hm).trans (hslot m), rfl, ?_, rfl, rfl⟩
    simp [DirtySet.has_mark]

theorem State.dequeue_meter (s : State) : s.dequeue.meter = s.meter := by simp

/-- Settles O27: the two answers to CALIBRATE, and the two outcomes of a calibration. -/
theorem calibrationBeginsAndCompletes : Obligations.CalibrationBeginsAndCompletes := by
  refine ⟨fun s n req rest h hcode => ⟨_, h.calibrate hcode, fun hidle => ?_, fun hbusy => ?_⟩,
    fun s origin l1 l2 l3 hcalibration hconversion => ?_⟩
  · have htaken : s.dequeue.takeCalibrate n req =
        (s.dequeue.updMeter fun m => { m with calibration := .inFlight (.request n) }).holdInHand n req := by
      rw [State.takeCalibrate, State.dequeue_meter, hidle]
    rw [htaken]
    exact h.calibrationBegun
  · have htaken : s.dequeue.takeCalibrate n req = s.dequeue.storeResult n .busy 0 := by
      rw [State.takeCalibrate, State.dequeue_meter]
      cases hc : s.meter.calibration with
      | idle => exact absurd hc hbusy
      | inFlight origin => rfl
    obtain ⟨honly, hanswered⟩ := h.meterAnswered s.meter .busy 0
    rw [htaken]
    exact ⟨hanswered, honly⟩
  · have hexec : exec (.calibrationCompletion l1 l2 l3) s =
        .next (s.completeCalibration origin (calAverage l1) (calAverage l2) (calAverage l3)) :=
      congrArg Host.Outcome.next (by rw [hcalibration, hconversion])
    have haverage : ∀ codes : Vector Code 16, ((codes.toList.map BitVec.toNat).sum + 8) / 16 = calAverage codes := fun _ => rfl
    rw [hexec, State.completeCalibration_eq]
    dsimp only
    simp only [haverage, ← calPasses_iff, ← failedAverage_eq, ← failedChannels_eq]
    by_cases hpass : calPasses (calAverage l1) = true ∧ calPasses (calAverage l2) = true ∧ calPasses (calAverage l3) = true
    · have hdetail := Offsets.detail_eq (o := { l1 := calAverage l1, l2 := calAverage l2, l3 := calAverage l3 }) hpass
      simp only [if_pos hpass, hdetail]
      obtain ⟨honly, hconfig, hmeter, hraised, hstartUp, hrequest⟩ := s.calibrationJudged_ended origin _ _ _ _
      exact ⟨_, rfl, honly, hconfig, hmeter, hraised, hstartUp, hrequest⟩
    · simp only [if_neg hpass]
      obtain ⟨honly, hconfig, hmeter, hraised, hstartUp, hrequest⟩ := s.calibrationJudged_ended origin _ _ _ _
      exact ⟨_, rfl, honly, hconfig, hmeter, hraised, hstartUp, hrequest⟩

end Sys2Proof.Machine
end

section
/-!
PROOF. The Feeder Meter at a tick and at the edges of the CURTAIL input, and as every reset sets it (R85, R95, R96, R99, R155).
-/

namespace Sys2Proof.Machine

open Sys2Proof

theorem MarksOnly.updMeter {s x : State} (h : MarksOnly s x) (f : FeederMeter → FeederMeter) : MarksOnly s (x.updMeter f) :=
  h.trans (.of_mirror rfl rfl)

/-- The header is dirty behind an alert before which it was marked. -/
theorem State.raise_mark_header (s : State) (kind : AlertKind) (bay : Option BayNo) (tag : Option Tag) :
    ((s.mark .header).raise kind bay tag).mirror.dirty.has .header = true := by
  rw [State.raise_mirror]
  exact MirrorWriter.takes_dirty _ _ _ rfl

/-! ### The Meter at a tick (R85, R96) -/

/-- The conversion set that a tick leaves: none begins during a calibration, and a running one keeps its discard (log entry 22). -/
def FeederMeter.conversionTicked (m : FeederMeter) (interval : Word) : Conversion :=
  match m.calibration, m.conversion with
  | .inFlight _, c => c
  | .idle, .idle => .converting interval false
  | .idle, .converting _ discard => .converting interval discard

/-- The Meter as a tick gathers the tail, or ends it (R96). -/
def FeederMeter.tailTicked (m : FeederMeter) (p : Params) : FeederMeter :=
  if m.curtail = .tail then
    if 60 * p.curtailTailMinutes ≤ m.tailElapsed + p.intervalLength then { m with curtail := .inactive, tailElapsed := 0 }
    else { m with tailElapsed := m.tailElapsed + p.intervalLength }
  else m

/-- The Meter that a tick leaves. -/
def FeederMeter.ticked (m : FeederMeter) (interval : Word) (p : Params) : FeederMeter :=
  { m.tailTicked p with conversion := m.conversionTicked interval }

theorem State.tickConversion_meter (s : State) :
    s.tickConversion.meter = { s.meter with conversion := s.meter.conversionTicked s.clock.interval } := by
  unfold State.tickConversion FeederMeter.conversionTicked
  cases s.meter.calibration with
  | inFlight origin => rfl
  | idle => cases s.meter.conversion <;> rfl

@[simp] theorem State.curtailOff_meter (s : State) :
    s.curtailOff.meter = { s.meter with curtail := .inactive, tailElapsed := 0 } := by
  simp [State.curtailOff]

theorem State.tailDone_iff (s : State) :
    s.tailDone = true ↔ s.meter.curtail = .tail ∧ 60 * s.config.loaded.curtailTailMinutes ≤ s.meter.tailElapsed := by
  rw [State.tailDone, Bool.and_eq_true]
  exact and_congr beq_iff_eq decide_eq_true_iff

/-- The tail with the interval length added. -/
def State.tailGathered (s : State) : State :=
  s.updMeter fun m => { m with tailElapsed := m.tailElapsed + s.config.loaded.intervalLength }

/-- The tail step of a tick, by what stands of the tail. -/
theorem State.tickTail_eq (s : State) :
    s.tickTail =
      if s.meter.curtail = .tail then
        if 60 * s.config.loaded.curtailTailMinutes ≤ s.meter.tailElapsed + s.config.loaded.intervalLength then
          s.tailGathered.curtailOff
        else s.tailGathered
      else s := by
  unfold State.tickTail
  cases hc : s.meter.curtail with
  | inactive => rfl
  | asserted => rfl
  | tail =>
    have hdone : s.tailGathered.tailDone = true ↔
        60 * s.config.loaded.curtailTailMinutes ≤ s.meter.tailElapsed + s.config.loaded.intervalLength := by
      rw [State.tailDone_iff]
      exact and_iff_right hc
    rw [if_pos rfl]
    exact if_congr hdone rfl rfl

theorem State.tickTail_meter (s : State) : s.tickTail.meter = s.meter.tailTicked s.config.loaded := by
  rw [State.tickTail_eq]
  unfold FeederMeter.tailTicked
  split
  · split
    · exact State.curtailOff_meter _
    · rfl
  · rfl

theorem State.tickConversion_config (s : State) : s.tickConversion.config = s.config := by simp

theorem State.meterTick_meter (s : State) : s.meterTick.meter = s.meter.ticked s.clock.interval s.config.loaded := by
  rw [State.meterTick, State.tickTail_meter, State.tickConversion_meter, State.tickConversion_config]
  unfold FeederMeter.ticked FeederMeter.tailTicked
  split
  · split <;> rfl
  · rfl

/-- In every order of the blocks the Meter takes the tick alike. -/
theorem State.blocksTick_meter (s : State) (order : TickOrder) :
    (s.blocksTick order).meter = s.meter.ticked s.clock.interval s.config.loaded := by
  cases order <;> simp [State.blocksTick, State.meterTick_meter]

/-- A set without codes changes nothing of the Meter. -/
@[simp] theorem State.tickSample_meter (s : State) : s.tickSample.meter = s.meter := by
  unfold State.tickSample
  split
  · rfl
  · unfold State.sampleDone State.validPower
    simp

/-- A running timer's tick, with the blocks in the order drawn. -/
theorem exec_tick_running {s : State} (h : s.clock.timerRunning = true) :
    exec .tick s = .next (s.draw.tickIn (Config.tickOrder s.draws)) := congrArg Host.Outcome.next (if_pos h)

theorem State.tickIn_meter (s : State) (order : TickOrder) :
    (s.tickIn order).meter = s.meter.ticked s.clockTick.clock.interval s.config.loaded := by
  simp [State.tickIn, State.blocksTick_meter]

/-! ### Curtail (R95, R96) -/

theorem ConfigLoader.ended_iff (c : ConfigLoader) : c.ended = true ↔ c.step = .inService := by simp [ConfigLoader.ended]

@[simp] theorem State.curtailOn_meter (s : State) : s.curtailOn.meter = { s.meter with curtail := .asserted } := by
  simp [State.curtailOn]

theorem State.assertCurtail_of_inactive {s : State} (h : s.meter.curtail = .inactive) : s.assertCurtail = s.curtailOn := by
  rw [State.assertCurtail, h]

theorem State.assertCurtail_of_tail {s : State} (h : s.meter.curtail = .tail) :
    s.assertCurtail = (s.updMeter fun m => { m with curtail := .asserted, tailElapsed := 0 }).mark .header := by
  rw [State.assertCurtail, h]

theorem State.releaseCurtail_without_tail {s : State} (h : s.meter.curtail = .asserted)
    (htail : s.config.loaded.curtailTailMinutes = 0) : s.releaseCurtail = s.curtailOff := by
  rw [State.releaseCurtail, h]
  exact if_pos htail

theorem State.releaseCurtail_with_tail {s : State} (h : s.meter.curtail = .asserted)
    (htail : s.config.loaded.curtailTailMinutes ≠ 0) :
    s.releaseCurtail = (s.updMeter fun m => { m with curtail := .tail, tailElapsed := 0 }).mark .header := by
  rw [State.releaseCurtail, h]
  exact if_neg htail

section

variable {s x : State} (h : MarksOnly s x)

include h

theorem MarksOnly.curtailOn :
    x.curtailOn.mirror.dirty.has .header = true ∧
      Raises s.mirror x.curtailOn.mirror (plainAlert s (.curtailOn x.meter.limits.curtailCeiling)) :=
  ⟨State.raise_mark_header .., ((h.updMeter _).mark .header).raises _ none none⟩

theorem MarksOnly.curtailOff :
    x.curtailOff.mirror.dirty.has .header = true ∧ Raises s.mirror x.curtailOff.mirror (plainAlert s .curtailOff) :=
  ⟨State.raise_mark_header .., ((h.updMeter _).mark .header).raises _ none none⟩

end

theorem MarksOnly.filterTo (s : State) (level : Level) : MarksOnly s (s.filterTo level) := (MarksOnly.refl s).updMeter _

/-- The filter confirms the asserted level (R95, R155). -/
theorem exec_assertionEdge {s : State} (hpending : s.meter.changePending = true) (hlevel : s.meter.filteredLevel = .released) :
    exec .curtailAssertionEdge s =
      .next (if s.config.step = .inService then (s.filterTo .asserted).assertCurtail else s.filterTo .asserted) :=
  congrArg Host.Outcome.next ((if_pos ⟨hpending, hlevel⟩).trans (if_congr (ConfigLoader.ended_iff _) rfl rfl))

/-- The filter confirms the released level (R95, R155). -/
theorem exec_releaseEdge {s : State} (hpending : s.meter.changePending = true) (hlevel : s.meter.filteredLevel = .asserted) :
    exec .curtailReleaseEdge s =
      .next (if s.config.step = .inService then (s.filterTo .released).releaseCurtail else s.filterTo .released) :=
  congrArg Host.Outcome.next ((if_pos ⟨hpending, hlevel⟩).trans (if_congr (ConfigLoader.ended_iff _) rfl rfl))

/-- Settles O29: edge by edge, by what stands of Curtail, and at a tick by the tail. -/
theorem curtailFollowsItsInput : Obligations.CurtailFollowsItsInput := by
  refine ⟨fun s => rfl, fun s hpending hlevel => ⟨_, exec_assertionEdge hpending hlevel, ?_⟩,
    fun s hpending hlevel => ⟨_, exec_releaseEdge hpending hlevel, ?_⟩, fun s hrunning => ⟨_, exec_tick_running hrunning, ?_⟩,
    fun s htail hlength => ?_⟩
  · by_cases hservice : s.config.step = .inService
    · rw [if_pos hservice]
      refine ⟨State.eq_of_fields (by simp), fun hstart => absurd hservice hstart, fun _ hinactive => ?_, fun _ htail => ?_⟩
      · rw [State.assertCurtail_of_inactive (s := s.filterTo .asserted) hinactive]
        exact ⟨State.curtailOn_meter _, (MarksOnly.filterTo s .asserted).curtailOn⟩
      · rw [State.assertCurtail_of_tail (s := s.filterTo .asserted) htail]
        exact ⟨rfl, rfl, rfl⟩
    · rw [if_neg hservice]
      exact ⟨rfl, fun _ => ⟨rfl, rfl⟩, fun h => absurd h hservice, fun h => absurd h hservice⟩
  · by_cases hservice : s.config.step = .inService
    · rw [if_pos hservice]
      refine ⟨State.eq_of_fields (by simp), fun hstart => absurd hservice hstart, fun _ hasserted htail => ?_,
        fun _ hasserted htail => ?_⟩
      · rw [State.releaseCurtail_without_tail (s := s.filterTo .released) hasserted htail]
        exact ⟨State.curtailOff_meter _, (MarksOnly.filterTo s .released).curtailOff⟩
      · rw [State.releaseCurtail_with_tail (s := s.filterTo .released) hasserted htail]
        exact ⟨rfl, rfl, rfl⟩
    · rw [if_neg hservice]
      exact ⟨rfl, fun _ => ⟨rfl, rfl⟩, fun h => absurd h hservice, fun h => absurd h hservice⟩
  · have hcurtail : (s.draw.tickIn (Config.tickOrder s.draws)).meter.curtail = (s.meter.tailTicked s.config.loaded).curtail ∧
        (s.draw.tickIn (Config.tickOrder s.draws)).meter.tailElapsed = (s.meter.tailTicked s.config.loaded).tailElapsed := by
      rw [State.tickIn_meter]
      exact ⟨rfl, rfl⟩
    rw [hcurtail.1, hcurtail.2, FeederMeter.tailTicked]
    refine ⟨fun hnot => ?_, fun htail => ?_⟩
    · rw [if_neg hnot]
      exact ⟨rfl, rfl⟩
    · rw [if_pos htail]
      split
      · exact ⟨rfl, rfl⟩
      · exact ⟨htail, rfl⟩
  · have hends : exec .curtailTailEnd s = .next s.curtailOff :=
      congrArg Host.Outcome.next (if_pos (s.tailDone_iff.2 ⟨htail, hlength⟩))
    exact ⟨_, hends, State.eq_of_fields (by simp), State.curtailOff_meter s, (MarksOnly.refl s).curtailOff⟩

/-! ### Resets (R99, R155) -/

/-- The Meter as a power-on or RESET line ends. -/
theorem State.startUp_meter (s : State) (straps : Straps) (level : Level) (offsets : Option Offsets) (g : Generations) :
    (s.startUp straps level offsets g).meter =
      { offsets := offsets
        calibration := if straps.cfgSrcHigh = true then .idle else if offsets = none then .inFlight .startUp else .idle
        conversion := .idle, latest := none, overload := false, releaseRun := 0, curtail := .inactive, tailElapsed := 0
        filteredLevel := level, changePending := false, limits := Params.defaults.limits } := by
  unfold State.startUp
  dsimp only
  simp only [State.arbitrate_keeps]
  split
  · rfl
  · cases offsets <;> rfl

/-- Curtail set from the filtered input (R99). -/
theorem State.curtailFromInput_meter (s : State) :
    s.curtailFromInput.meter =
      { s.meter with
        curtail := if s.meter.filteredLevel = .asserted then .asserted else .inactive, tailElapsed := 0 } := by
  unfold State.curtailFromInput
  split
  · next hlevel =>
    rw [State.curtailOn_meter, if_pos hlevel]
    rfl
  · next hlevel =>
    rw [hlevel]
    rfl

/-- The Meter at a depot restart. -/
theorem State.depotRestart_meter (s : State) :
    s.depotRestart.meter =
      { s.meter.restart s.config.loaded.limits with
        curtail := if s.meter.filteredLevel = .asserted then .asserted else .inactive } := State.curtailFromInput_meter _

/-- Settles O7: the two cold resets alike, a RESTART behind its request, and the set that it has marked. -/
theorem resetsSetTheMeter : Obligations.ResetsSetTheMeter := by
  refine ⟨fun straps level s => ⟨_, rfl, s.startUp_meter ..⟩, fun straps level s => ⟨_, rfl, s.startUp_meter ..⟩,
    fun s n req rest h hcode => ?_, fun l1 l2 l3 i s hset => ?_⟩
  · have hmeter : (s.dequeue.depotRestart.storeResult n .done 0).meter = s.dequeue.depotRestart.meter := by simp
    refine ⟨_, h.restart hcode, ?_⟩
    rw [hmeter, State.depotRestart_meter]
    refine ⟨rfl, ?_⟩
    have hset : (s.dequeue.meter.restart s.dequeue.config.loaded.limits).conversion = s.meter.conversion.restart := rfl
    dsimp only
    rw [hset]
    cases s.meter.conversion with
    | idle => exact .inl ⟨rfl, rfl⟩
    | converting i d => exact .inr ⟨i, d, rfl, rfl⟩
  · exact congrArg Host.Outcome.next (by rw [hset]; rfl)

end Sys2Proof.Machine
end

section
/-!
PROOF. A skipped interval: the count, stand-down, the rounds without an armed bay, and the log record (R112, R113, R115, R116, R149).
-/

namespace Sys2Proof.Machine

open Sys2Proof

/-! ### Bays that a round start leaves armed (R58) -/

/-- A round begun arms no bay. -/
theorem RoundBegun.armed {s t : State} {l : LaneNo} (h : RoundBegun s t l) {e : Drop} (ha : (t.bay (bayAt l e)).armed = true) :
    (s.bay (bayAt l e)).armed = true := by
  obtain ⟨hsends, hfinished⟩ := h
  obtain ⟨d, hd, hfirst⟩ | hnone := first_or_none fun d => dueIn s l d s.clock.interval
  · obtain ⟨_, hsent, hothers⟩ := hsends d hd hfirst
    by_cases he : e = d
    · rw [he, hsent] at ha
      cases ha
    · rwa [hothers e he] at ha
  · rwa [(hfinished hnone).2] at ha

/-- An overrun arms no bay. -/
theorem roundBase_armed (s : State) (l : LaneNo) (b : BayNo) : ((roundBase s l).bay b).armed = (s.bay b).armed := by
  unfold roundBase
  split
  · rw [overrunTaken_bay]
    split <;> rfl
  · rfl

/-- A round start arms no bay of a lane. -/
theorem LaneStarted.armed {s t : State} {l : LaneNo} (h : LaneStarted s t l) {d : Drop}
    (ha : (t.bay (bayAt l d)).armed = true) : (s.bay (bayAt l d)).armed = true := by
  obtain ⟨hout, hpending, hbegun⟩ := h
  by_cases hservice : l.val < lanesInService s.config.straps
  · by_cases hx : (s.lane l).exchange = none
    · rw [← roundBase_armed s l]
      exact (hbegun hservice hx).armed ha
    · rwa [(hpending hservice hx).2] at ha
  · rwa [(hout (Nat.le_of_not_lt hservice)).2] at ha

/-- Round starts arm no bay. -/
theorem RoundsStarted.armed {s t : State} (h : RoundsStarted s t) {b : BayNo} (ha : (t.bay b).armed = true) :
    (s.bay b).armed = true := by
  have hb : bayAt (laneOf b) ⟨b.val % 8, by omega⟩ = b := Fin.ext (by simp only [bayAt, laneOf]; omega)
  rw [← hb] at ha ⊢
  exact (roundsStarted_iff.1 h (laneOf b)).armed ha

/-! ### The log record (R149) -/

theorem MirrorWriter.putLog_logEntry (m : MirrorWriter) (r : LogRecord) (a : LogArea) (i : LogIx) :
    (m.putLog r).logEntry a i = if (a, i) = (m.logArea, m.logIndex) then some r else m.logEntry a i := by
  unfold MirrorWriter.putLog MirrorWriter.logEntry
  cases m.logArea <;> cases a <;> simp [vput_get]

/-- A record put at the log position, and the position moved on. -/
theorem MirrorWriter.putLog_logged (m : MirrorWriter) (r : LogRecord) (length : Nat) {area : LogArea} {index : LogIx}
    (hpos : if m.logIndex.val + 1 = length then area = m.logArea.other ∧ index = 0
      else area = m.logArea ∧ index = m.logIndex + 1) :
    Logged m { m.putLog r with logArea := area, logIndex := index, dirty := (m.putLog r).dirty.mark .header } length r := by
  have hentry : ∀ a i, MirrorWriter.logEntry
      { m.putLog r with logArea := area, logIndex := index, dirty := (m.putLog r).dirty.mark .header } a i =
      (m.putLog r).logEntry a i := fun _ _ => rfl
  refine ⟨?_, fun a i hne => ?_, ?_, by simp [DirtySet.has_mark], hpos⟩
  · rw [hentry, MirrorWriter.putLog_logEntry, if_pos rfl]
  · rw [hentry, MirrorWriter.putLog_logEntry, if_neg hne]
  · unfold MirrorWriter.putLog
    cases m.logArea <;> simp [DirtySet.has_mark]

/-- Alerts and marks behind a log record leave it. -/
theorem Logged.thenRing {m n k : MirrorWriter} {length : Nat} {r : LogRecord} (h : Logged m n length r) (g : OnlyRing n k)
    (hd : ∀ q, n.dirty.has q = true → k.dirty.has q = true) : Logged m k length r := by
  obtain ⟨hstored, hothers, hlog, hheader, hpos⟩ := h
  obtain ⟨_, _, harea, hindex⟩ := g.keeps
  exact ⟨(g.logEntry _ _).trans hstored, fun a i hne => (g.logEntry a i).trans (hothers a i hne), hd _ hlog, hd _ hheader, by
    rwa [harea, hindex]⟩

/-- Alerts and marks ahead of a log record leave the log as it was. -/
theorem OnlyRing.thenLogged {m n k : MirrorWriter} {length : Nat} {r : LogRecord} (g : OnlyRing m n) (h : Logged n k length r) :
    Logged m k length r := by
  obtain ⟨_, _, harea, hindex⟩ := g.keeps
  unfold Logged at h ⊢
  rw [harea, hindex] at h
  simpa only [g.logEntry] using h

/-- A log record is taken, with LOG HALF or without. -/
theorem State.writeLog_logged (s : State) (r : LogRecord) : Logged s.mirror (s.writeLog r).mirror s.config.loaded.logLength r := by
  rw [State.writeLog_eq]
  split
  · next hfull =>
    rw [State.raise_mirror]
    exact (s.mirror.putLog_logged r _ (by rw [if_pos hfull]; exact ⟨rfl, rfl⟩)).thenRing (MirrorWriter.takes_onlyRing _ _)
      (MirrorWriter.takes_dirty _ _)
  · next hroom =>
    have harea : (s.mirror.putLog r).logArea = s.mirror.logArea := by
      unfold MirrorWriter.putLog
      split <;> rfl
    exact s.mirror.putLog_logged r _ (by rw [if_neg hroom]; exact ⟨harea, rfl⟩)

/-! ### The skip decision (R112, R113) -/

/-- The skip count that a skip leaves. -/
def skipCountAfter (s : State) : Nat := min 65535 (s.allocator.skipCount + 1)

/-- The part with the skip counted and stand-down at the limit. -/
def skipCounted (s : State) : State :=
  { s with
    allocator :=
      { s.allocator with
        skipCount := skipCountAfter s
        standDown := s.allocator.standDown || decide (s.config.loaded.skipLimit ≤ skipCountAfter s) } }

/-- STAND-DOWN ON comes at the skip limit, once (R113). -/
theorem State.countSkip_eq (s : State) (reason : SkipReason) :
    s.countSkip reason =
      if s.allocator.standDown = false ∧ s.config.loaded.skipLimit ≤ skipCountAfter s then
        (((skipCounted s).mark .header).mark .header).raise (.standDownOn (skipCountAfter s) reason) none none
      else (skipCounted s).mark .header := by
  have hcond : (s.config.loaded.skipLimit ≤ skipCountAfter s ∧ (!s.allocator.standDown) = true) ↔
      s.allocator.standDown = false ∧ s.config.loaded.skipLimit ≤ skipCountAfter s := by
    rw [Bool.not_eq_true', and_comm]
  refine (if_congr hcond rfl rfl).trans ?_
  unfold skipCounted
  split
  · next hon => rw [decide_eq_true hon.2, Bool.or_true]; rfl
  · next hkept =>
    have hsame : (s.allocator.standDown || decide (s.config.loaded.skipLimit ≤ skipCountAfter s)) = s.allocator.standDown := by
      rw [Bool.or_eq_left_iff_imp, decide_eq_true_iff]
      exact fun hl => by simpa [hl] using hkept
    rw [hsame]
    rfl

theorem State.countSkip_allocator (s : State) (reason : SkipReason) :
    (s.countSkip reason).allocator = (skipCounted s).allocator := by
  rw [State.countSkip_eq]
  split <;> simp

/-- STAND-DOWN ON, when stand-down comes on. -/
theorem State.countSkip_raised (s : State) (reason : SkipReason) :
    Raised s (s.countSkip reason)
      (if s.allocator.standDown = false ∧ s.config.loaded.skipLimit ≤ skipCountAfter s then
        [plainAlert s (.standDownOn (skipCountAfter s) reason)]
      else []) := by
  have hcounted : MarksOnly s ((skipCounted s).mark .header) := ((MarksOnly.refl s).setAllocator _).mark .header
  rw [State.countSkip_eq]
  split
  · exact (hcounted.mark .header).raised.raise _ none none
  · exact hcounted.raised

/-- To each lane the state that the rounds of a skip start from is the one with the skip counted. -/
theorem State.countSkip_alike (s : State) (reason : SkipReason) (l : LaneNo) :
    LaneAlike (s.countSkip reason) (skipCounted s) l := by
  have hallocator := s.countSkip_allocator reason
  exact ⟨by simp [State.lane, skipCounted], fun d => by simp [State.bay, skipCounted], by simp [skipCounted], by simp [skipCounted],
    by rw [hallocator], by rw [hallocator]⟩

/-- The part as the rounds of a skip have started. -/
def State.skipStarted (s : State) (reason : SkipReason) : State := (s.countSkip reason).startRounds

theorem State.skipStarted_raised (s : State) (reason : SkipReason) :
    Raised s (s.skipStarted reason)
      ((if s.allocator.standDown = false ∧ s.config.loaded.skipLimit ≤ skipCountAfter s then
        [plainAlert s (.standDownOn (skipCountAfter s) reason)]
      else []) ++ roundStartAlerts (skipCounted s)) := by
  have halerts : roundStartAlerts (skipCounted s) = roundStartAlerts (s.countSkip reason) :=
    List.flatMap_congr fun l _ => (s.countSkip_alike reason l).laneStartAlerts
  rw [halerts]
  exact (s.countSkip_raised reason).append (s.countSkip reason).startRounds_spec.2

theorem State.skipStarted_started (s : State) (reason : SkipReason) : RoundsStarted (skipCounted s) (s.skipStarted reason) :=
  roundsStarted_iff.2 fun l =>
    (s.countSkip_alike reason l).laneStarted (roundsStarted_iff.1 (s.countSkip reason).startRounds_spec.1 l)

/-- What a round start makes of lanes and bays depends on lanes and bays. -/
theorem RoundsStarted.of_target {s x t : State} (h : RoundsStarted s x) (hlanes : t.lanes = x.lanes) (hbays : t.bays = x.bays) :
    RoundsStarted s t :=
  roundsStarted_iff.2 fun l =>
    (roundsStarted_iff.1 h l).of_target (by rw [State.lane, hlanes, State.lane]) fun d => State.bay_of_bays hbays _

/-- Sigma K over the bays in service (R116). -/
theorem State.sumK_eq (s : State) : s.sumK = sumBays fun b => if (s.bay b).state = .disabled then 0 else (s.bay b).k := by
  refine congrArg sumBays (funext fun b => ?_)
  by_cases hb : (s.bay b).state = .disabled
  · rw [if_pos hb, if_neg fun h => (BayState.inService_iff _).1 h hb]
  · rw [if_neg hb, if_pos ((BayState.inService_iff _).2 hb)]

theorem Curtail.inForce_eq (c : Curtail) : c.inForce = decide (c ≠ .inactive) := by cases c <;> rfl

theorem PlanState.isAutonomous_eq (p : PlanState) : p.isAutonomous = decide (p = .autonomous) := by cases p <;> rfl

/-- The log record of a skip, as the obligations write it. -/
def skipRecord (s : State) (reason : SkipReason) (sumK : Nat) : LogRecord :=
  { interval := s.clock.interval, depotSeconds := s.clock.depotSeconds, budget := 0, sumG := 0, sumK := sumK, siteLoad := 0
    delivered := s.allocator.deliveredTotal, skip := some reason, overload := s.meter.overload
    curtail := decide (s.meter.curtail ≠ .inactive), autonomous := decide (s.clock.plan = .autonomous)
    standDown := (skipCounted s).allocator.standDown }

/-- The fields of a log record that the Allocator fills as it hands the record over (R116). -/
def State.filledRecord (s : State) (r : LogRecord) : LogRecord :=
  { r with
    interval := s.clock.interval, depotSeconds := s.clock.depotSeconds, delivered := s.allocator.deliveredTotal
    autonomous := s.clock.plan.isAutonomous }

theorem State.handLog_logged (s : State) (r : LogRecord) :
    Logged s.mirror (s.handLog r).mirror s.config.loaded.logLength (s.filledRecord r) :=
  State.writeLog_logged { s with allocator := { s.allocator with deliveredTotal := 0 } } (s.filledRecord r)

theorem State.handLog_allocator (s : State) (r : LogRecord) :
    (s.handLog r).allocator = { s.allocator with deliveredTotal := 0 } := by
  simp [State.handLog]

/-- A skip: its rounds, and then its log record. -/
theorem State.skip_eq (s : State) (reason : SkipReason) :
    s.skip reason = (s.skipStarted reason).handLog ((s.skipStarted reason).skipLog reason) := rfl

/-- The rounds of a skip leave what its record is formed from, but for Sigma K. -/
theorem State.skipStarted_record (s : State) (reason : SkipReason) :
    (s.skipStarted reason).filledRecord ((s.skipStarted reason).skipLog reason) =
      skipRecord s reason (s.skipStarted reason).sumK := by
  have hclock : (s.skipStarted reason).clock = s.clock := by simp [State.skipStarted]
  have hmeter : (s.skipStarted reason).meter = s.meter := by simp [State.skipStarted]
  have hallocator : (s.skipStarted reason).allocator = (skipCounted s).allocator := by
    simp [State.skipStarted, State.countSkip_allocator]
  unfold State.filledRecord State.skipLog skipRecord
  rw [hclock, hmeter, hallocator, Curtail.inForce_eq, PlanState.isAutonomous_eq]
  rfl

/-- Everything that a skip decision does. -/
theorem State.skip_skipped (s : State) (reason : SkipReason) : Skipped s (s.skip reason) reason := by
  have hstarted : (s.skip reason).lanes = (s.skipStarted reason).lanes ∧ (s.skip reason).bays = (s.skipStarted reason).bays := by
    simp [State.skip, State.skipStarted]
  obtain ⟨hlanes, hbays⟩ := hstarted
  have hallocator : (s.skip reason).allocator = { (skipCounted s).allocator with deliveredTotal := 0 } := by
    rw [State.skip_eq, State.handLog_allocator]
    simp [State.skipStarted, State.countSkip_allocator]
  have hconfig : (s.skipStarted reason).config = s.config := by simp [State.skipStarted]
  have hraised := s.skipStarted_raised reason
  have hrounds := (s.skipStarted_started reason).of_target hlanes hbays
  obtain ⟨hgenerations, hguard, harea, hindex⟩ := hraised.ring.keeps
  obtain ⟨hlog, lgenerations, lguard⟩ :=
    (s.skipStarted reason).handLog_raises ((s.skipStarted reason).skipLog reason)
  have hhalf : logHalfAlerts (s.skipStarted reason) = logHalfAlerts s := by
    unfold logHalfAlerts plainAlert
    rw [harea, hindex, hconfig, hraised.clock]
  have hsum : (s.skipStarted reason).sumK = sumBays fun b =>
      if ((s.skip reason).bay b).state = .disabled then 0 else ((s.skip reason).bay b).k := by
    simp only [State.sumK_eq, State.bay_of_bays hbays]
  have hlogged := (s.skipStarted reason).handLog_logged ((s.skipStarted reason).skipLog reason)
  rw [State.skipStarted_record, hsum, hconfig] at hlogged
  rw [← State.skip_eq] at hlogged hlog lgenerations lguard
  have ⟨_, _, _, hheader, _⟩ := hlogged
  refine ⟨State.eq_of_fields ?_, hrounds, fun b hb => hrounds.armed hb, hheader, hraised.ring.thenLogged hlogged, ?_, by simp,
    lgenerations.trans hgenerations, lguard.trans hguard⟩
  · simp only [State.skip_keeps, hallocator, true_and, and_true]
    rfl
  · exact hhalf ▸ hraised.all.append hlog

end Sys2Proof.Machine
end

section
/-!
PROOF. Sample completion: valid sets, the overload judgement, the hand-over to the Allocator, and sets that are not valid (R86, R87,
R91 to R94, R102, R103).
-/

namespace Sys2Proof.Machine

open Sys2Proof

/-! ### The snapshot (R92, R93, R103) -/

/-- A bay's term of the charging load (R92). -/
theorem State.snapBay_chargingTerm (s : State) (b : BayNo) (interval : Word) :
    (s.snapBay b).chargingTerm interval =
      if (s.bay b).state = .disabled then 0
      else if (s.bay b).unknown = false ∧ ((s.bay b).lastGoodInterval = interval ∨ (s.bay b).lastGoodInterval = interval - 1) then
        (s.bay b).measuredPower
      else if (s.bay b).unknown = true then (s.bay b).cap
      else max (s.bay b).confirmed (s.bay b).unresolved := by
  have hservice : (!(s.bay b).state.inService) = true ↔ (s.bay b).state = .disabled := by
    rw [Bool.not_eq_true', ← Bool.not_eq_true, BayState.inService_iff, not_not]
  refine if_congr hservice rfl (if_congr ?_ rfl rfl)
  simp [State.snapBay]

theorem State.chargingLoad_eq (s : State) :
    chargingLoad (Vector.ofFn fun b => s.snapBay b) s.clock.interval = chargingLoadOf s := by
  unfold chargingLoad chargingLoadOf
  simp only [ofFn_get, State.snapBay_chargingTerm]

theorem budgetOf_eq (limits : Limits) (siteLoad percent : Nat) (overload : Bool) (curtail : Curtail) :
    budgetOf limits siteLoad (trimOf limits percent) overload curtail = budgetFrom limits siteLoad percent overload curtail := by
  unfold budgetOf budgetFrom trimOf
  cases curtail <;> rfl

/-- The snapshot that a pass takes. -/
theorem State.snapshot_of (s : State) (pFeed : Nat) : SnapshotOf s pFeed (s.snapshot pFeed) := by
  refine ⟨fun b => ofFn_get .., rfl, rfl, rfl, rfl, rfl, rfl, rfl, rfl, rfl, rfl, rfl, rfl, rfl, ?_, budgetOf_eq ..⟩
  exact congrArg (pFeed - ·) s.chargingLoad_eq

/-! ### The hand-over of a sample (R102) -/

theorem State.onSample_of_idle {s : State} (h : s.allocator.pass = none) (pFeed : Nat) : s.onSample pFeed = s.beginPass pFeed := by
  rw [State.onSample, h]

theorem State.onSample_of_running {s : State} (h : s.allocator.pass ≠ none) (pFeed : Nat) :
    s.onSample pFeed = s.skip .passInFlight := by
  obtain ⟨sn, hsn⟩ := Option.ne_none_iff_exists'.1 h
  rw [State.onSample, hsn]

/-- The start of a pass leaves the Mirror Writer. -/
theorem State.onSample_mirror {s : State} (h : s.allocator.pass = none) (pFeed : Nat) : (s.onSample pFeed).mirror = s.mirror := by
  rw [State.onSample_of_idle h]
  rfl

/-- A dirty header stays dirty as a sample is handed over. -/
theorem State.onSample_header {s : State} (h : s.mirror.dirty.has .header = true) (pFeed : Nat) :
    (s.onSample pFeed).mirror.dirty.has .header = true := by
  unfold State.onSample
  split
  · exact h
  · rw [State.skip_eq]
    exact State.handLog_header _ _

theorem Sample.usable_iff (x : Sample) (interval : Word) : x.usable interval = true ↔ (interval - x.interval).toNat ≤ 2 :=
  decide_eq_true_iff

/-- A set that is not valid, by the latest valid sample (R86, R102). -/
theorem State.invalidSample_without (s : State) : WithoutValidSet s s.invalidSample := by
  cases hlatest : s.meter.latest with
  | none =>
    have hskip : s.invalidSample = s.skip .noSample := by rw [State.invalidSample, hlatest]
    rw [hskip]
    exact ⟨fun x hx => by simp [hlatest] at hx, fun _ => s.skip_skipped _⟩
  | some x =>
    by_cases husable : (s.clock.interval - x.interval).toNat ≤ 2
    · have hstale : s.invalidSample = s.onSample x.pFeed := by
        rw [State.invalidSample, hlatest]
        exact if_pos ((x.usable_iff _).2 husable)
      rw [hstale]
      refine ⟨fun y hy _ => ?_, fun hold => absurd (hold x hlatest) (by omega)⟩
      obtain rfl : x = y := by simpa [hlatest] using hy
      refine ⟨fun hidle => ⟨_, s.snapshot_of x.pFeed, State.onSample_of_idle hidle _⟩, fun hrunning => ?_⟩
      rw [State.onSample_of_running hrunning]
      exact s.skip_skipped _
    · have hskip : s.invalidSample = s.skip .noSample := by
        rw [State.invalidSample, hlatest]
        exact if_neg (mt (x.usable_iff _).1 husable)
      rw [hskip]
      refine ⟨fun y hy hy2 => ?_, fun _ => s.skip_skipped _⟩
      obtain rfl : x = y := by simpa [hlatest] using hy
      exact absurd hy2 husable

/-! ### A set is valid or not (R86, R91) -/

theorem saturated_eq_false_iff (c : Code) : saturated c = false ↔ c.toNat ≠ 0 ∧ c.toNat ≠ 4095 := by
  unfold saturated
  rw [Bool.or_eq_false_iff, beq_eq_false_iff_ne, beq_eq_false_iff_ne, ← BitVec.toNat_ne_iff_ne, ← BitVec.toNat_ne_iff_ne]
  rfl

theorem Codes.inRange_iff (l1 l2 l3 : Code) : Codes.inRange { l1 := l1, l2 := l2, l3 := l3 } = true ↔ InRange l1 l2 l3 := by
  simp only [Codes.inRange, Bool.and_eq_true, Bool.not_eq_true', saturated_eq_false_iff, InRange, and_assoc]

theorem State.validPower_of_inRange {s : State} {o : Offsets} {l1 l2 l3 : Code} (ho : s.meter.offsets = some o)
    (hr : InRange l1 l2 l3) :
    s.validPower (some { l1 := l1, l2 := l2, l3 := l3 }) = some (feederPowerOf s.config.loaded o l1 l2 l3) := by
  unfold State.validPower
  rw [ho]
  exact if_pos ((Codes.inRange_iff ..).2 hr)

theorem State.validPower_eq_none {s : State} {l1 l2 l3 : Code} (h : s.meter.offsets = none ∨ ¬InRange l1 l2 l3) :
    s.validPower (some { l1 := l1, l2 := l2, l3 := l3 }) = none := by
  unfold State.validPower
  cases ho : s.meter.offsets with
  | none => rfl
  | some o =>
    exact if_neg (mt (Codes.inRange_iff ..).1 (h.resolve_left (by simp [ho])))

/-! ### The overload judgement (R94) -/

section

variable {s : State} {p : Nat}

theorem State.judgeOverload_on (ho : s.meter.overload = false) (hp : s.meter.limits.feederLimit < p) :
    s.judgeOverload p = s.overloadOn p := by
  simp [State.judgeOverload, ho, hp]

theorem State.judgeOverload_within (ho : s.meter.overload = false) (hp : p ≤ s.meter.limits.feederLimit) :
    s.judgeOverload p = s := by
  simp [State.judgeOverload, ho, hp]

variable (ho : s.meter.overload = true)

include ho

theorem State.judgeOverload_above (hp : releaseThreshold s.meter.limits s.config.loaded.releaseBand < p) :
    s.judgeOverload p = s.updMeter fun m => { m with releaseRun := 0 } := by
  simp [State.judgeOverload, ho, hp]

theorem State.judgeOverload_below (hp : p ≤ releaseThreshold s.meter.limits s.config.loaded.releaseBand)
    (hrun : s.meter.releaseRun < 2) : s.judgeOverload p = s.updMeter fun m => { m with releaseRun := m.releaseRun + 1 } := by
  simp [State.judgeOverload, ho, Nat.not_lt.2 hp, Nat.not_le.2 hrun]

theorem State.judgeOverload_off (hp : p ≤ releaseThreshold s.meter.limits s.config.loaded.releaseBand)
    (hrun : 2 ≤ s.meter.releaseRun) :
    s.judgeOverload p = s.overloadOff p (releaseThreshold s.meter.limits s.config.loaded.releaseBand) := by
  simp [State.judgeOverload, ho, Nat.not_lt.2 hp, hrun]

end

theorem State.overloadOn_meter (s : State) (p : Nat) : (s.overloadOn p).meter = { s.meter with overload := true, releaseRun := 0 } := by
  simp [State.overloadOn]

theorem State.overloadOff_meter (s : State) (p threshold : Nat) :
    (s.overloadOff p threshold).meter = { s.meter with overload := false, releaseRun := 0 } := by
  simp [State.overloadOff]

/-- Of the Meter the judgement reaches overload and the release run. -/
theorem State.judgeOverload_meter (s : State) (p : Nat) :
    (s.judgeOverload p).meter =
      { s.meter with
        overload := (s.judgeOverload p).meter.overload, releaseRun := (s.judgeOverload p).meter.releaseRun } := by
  cases ho : s.meter.overload with
  | false =>
    obtain hp | hp := Nat.lt_or_ge s.meter.limits.feederLimit p
    · rw [State.judgeOverload_on ho hp, State.overloadOn_meter]
    · rw [State.judgeOverload_within ho hp]
  | true =>
    obtain hp | hp := Nat.lt_or_ge (releaseThreshold s.meter.limits s.config.loaded.releaseBand) p
    · rw [State.judgeOverload_above ho hp]
      rfl
    obtain hrun | hrun := Nat.lt_or_ge s.meter.releaseRun 2
    · rw [State.judgeOverload_below ho hp hrun]
      rfl
    · rw [State.judgeOverload_off ho hp hrun, State.overloadOff_meter]

section

variable {s x : State} (h : MarksOnly s x) (p : Nat)

include h

theorem MarksOnly.overloadOn :
    (x.overloadOn p).mirror.dirty.has .header = true ∧
      Raises s.mirror (x.overloadOn p).mirror (plainAlert s (.overloadOn p x.meter.limits.feederLimit)) :=
  ⟨State.raise_mark_header .., ((h.updMeter _).mark .header).raises _ none none⟩

theorem MarksOnly.overloadOff (threshold : Nat) :
    (x.overloadOff p threshold).mirror.dirty.has .header = true ∧
      Raises s.mirror (x.overloadOff p threshold).mirror (plainAlert s (.overloadOff p threshold)) :=
  ⟨State.raise_mark_header .., ((h.updMeter _).mark .header).raises _ none none⟩

end

/-! ### Sample completion (R86, R87) -/

/-- The part as a conversion set has ended. -/
def State.setEnded (s : State) : State := s.updMeter fun m => { m with conversion := .idle }

/-- The part with a valid set's sample taken. -/
def State.sampleTaken (s : State) (p : Nat) (interval : Word) : State :=
  s.setEnded.updMeter fun m => { m with latest := some { pFeed := p, interval := interval } }

/-- A valid set taken and judged, up to its hand-over. -/
def State.sampleJudged (s : State) (p : Nat) (interval : Word) : State := (s.sampleTaken p interval).judgeOverload p

@[simp] theorem State.sampleTaken_keeps (s : State) (p : Nat) (interval : Word) :
    (s.sampleTaken p interval).roster = s.roster ∧ (s.sampleTaken p interval).book = s.book ∧
      (s.sampleTaken p interval).bays = s.bays ∧ (s.sampleTaken p interval).lanes = s.lanes ∧
      (s.sampleTaken p interval).allocator = s.allocator ∧ (s.sampleTaken p interval).clock = s.clock ∧
      (s.sampleTaken p interval).mirror = s.mirror ∧ (s.sampleTaken p interval).path = s.path ∧
      (s.sampleTaken p interval).intake = s.intake ∧ (s.sampleTaken p interval).config = s.config ∧
      (s.sampleTaken p interval).memory = s.memory ∧ (s.sampleTaken p interval).draws = s.draws ∧
      (s.sampleTaken p interval).pending = s.pending := by
  simp [State.sampleTaken, State.setEnded]

/-- A set begun since the last restart completes. -/
theorem exec_sampleCompletion {s : State} {i : Word} (h : s.meter.conversion = .converting i false) (l1 l2 l3 : Code) :
    exec (.sampleCompletion l1 l2 l3) s = .next (s.setEnded.sampleDone (some { l1 := l1, l2 := l2, l3 := l3 }) i) :=
  congrArg Host.Outcome.next (by rw [h]; rfl)

/-- A valid set is taken, judged and handed over. -/
theorem exec_validSet {s : State} {i : Word} {o : Offsets} {l1 l2 l3 : Code} (h : s.meter.conversion = .converting i false)
    (ho : s.meter.offsets = some o) (hr : InRange l1 l2 l3) :
    exec (.sampleCompletion l1 l2 l3) s =
      .next ((s.sampleJudged (feederPowerOf s.config.loaded o l1 l2 l3) i).onSample (feederPowerOf s.config.loaded o l1 l2 l3)) := by
  rw [exec_sampleCompletion h, State.sampleDone, State.validPower_of_inRange (s := s.setEnded) ho hr]
  rfl

/-- A set that is not valid. -/
theorem exec_invalidSet {s : State} {i : Word} {l1 l2 l3 : Code} (h : s.meter.conversion = .converting i false)
    (hinvalid : s.meter.offsets = none ∨ ¬InRange l1 l2 l3) :
    exec (.sampleCompletion l1 l2 l3) s = .next s.setEnded.invalidSample := by
  rw [exec_sampleCompletion h, State.sampleDone, State.validPower_eq_none (s := s.setEnded) hinvalid]

theorem MarksOnly.sampleTaken (s : State) (p : Nat) (interval : Word) : MarksOnly s (s.sampleTaken p interval) :=
  .of_mirror rfl rfl

/-- The judgement of a valid set changes Meter and Mirror Writer. -/
theorem State.sampleJudged_only (s : State) (p : Nat) (interval : Word) :
    s.sampleJudged p interval =
      { s with meter := (s.sampleJudged p interval).meter, mirror := (s.sampleJudged p interval).mirror } :=
  State.eq_of_fields (by simp [State.sampleJudged])

theorem State.sampleJudged_meter (s : State) (p : Nat) (interval : Word) :
    (s.sampleJudged p interval).meter =
      { s.meter with
        conversion := .idle, latest := some { pFeed := p, interval := interval }
        overload := (s.sampleJudged p interval).meter.overload
        releaseRun := (s.sampleJudged p interval).meter.releaseRun } := State.judgeOverload_meter _ _

/-- The start of a pass behind a change of Meter and Mirror Writer. -/
theorem State.beginPass_only {s x : State} {m : FeederMeter} {mirror : MirrorWriter} (h : x = { s with meter := m, mirror := mirror })
    (p : Nat) :
    x.beginPass p =
      { s with
        meter := (x.beginPass p).meter, allocator := (x.beginPass p).allocator, mirror := (x.beginPass p).mirror } := by
  subst h
  rfl

theorem State.onSample_meter (s : State) (p : Nat) : (s.onSample p).meter = s.meter := by simp

/-- Settles O25: the sample taken, and the pass that begins on it. -/
theorem validSampleIsTaken : Obligations.ValidSampleIsTaken := by
  intro s i o l1 l2 l3 hset ho hr p
  have honly := s.sampleJudged_only p i
  have hmeter : ((s.sampleJudged p i).onSample p).meter = _ :=
    (State.onSample_meter _ p).trans (s.sampleJudged_meter p i)
  have hblocks : (s.sampleJudged p i).memory = s.memory ∧ (s.sampleJudged p i).path = s.path ∧
      (s.sampleJudged p i).intake = s.intake ∧ (s.sampleJudged p i).clock = s.clock ∧ (s.sampleJudged p i).book = s.book ∧
      (s.sampleJudged p i).roster = s.roster ∧ (s.sampleJudged p i).allocator = s.allocator := by
    rw [honly]
    exact ⟨rfl, rfl, rfl, rfl, rfl, rfl, rfl⟩
  obtain ⟨hmemory, hpath, hintake, hclock, hbook, hroster, hallocator⟩ := hblocks
  refine ⟨_, exec_validSet hset ho hr, by rw [hmeter], by rw [hmeter], by rw [hmeter], by rw [hmeter], by rw [hmeter], by simpa,
    by simpa, by simpa, by simpa, by simpa, by simpa, fun hidle => ?_⟩
  rw [State.onSample_of_idle (by rwa [hallocator])]
  refine ⟨State.beginPass_only honly p, (s.sampleJudged p i).snapshot p, State.snapshot_of (s.sampleJudged p i) p, ?_⟩
  rw [← hallocator]
  rfl

/-- Settles O26: row by row of R94. -/
theorem overloadIsJudged : Obligations.OverloadIsJudged := by
  intro s i o l1 l2 l3 hset ho hr p limit threshold
  have hmeter : ((s.sampleJudged p i).onSample p).meter = (s.sampleJudged p i).meter := State.onSample_meter _ p
  have hheader := fun h => (s.sampleJudged p i).onSample_header h p
  have hmirror : s.allocator.pass = none → ((s.sampleJudged p i).onSample p).mirror = (s.sampleJudged p i).mirror :=
    fun hidle => State.onSample_mirror (by rw [s.sampleJudged_only]; exact hidle) p
  have hmarks := MarksOnly.sampleTaken s p i
  refine ⟨_, exec_validSet hset ho hr, ?_⟩
  rw [hmeter]
  generalize (s.sampleJudged p i).onSample p = t at *
  unfold State.sampleJudged at hheader hmirror ⊢
  refine ⟨fun hover hp => ?_, fun hover hp => ?_, fun hover hp => ?_, fun hover hp hrun => ?_, fun hover hp hrun => ?_⟩
  · rw [State.judgeOverload_on (s := s.sampleTaken p i) hover hp] at hheader hmirror ⊢
    obtain ⟨hdirty, hraises⟩ := hmarks.overloadOn p
    rw [State.overloadOn_meter]
    exact ⟨rfl, rfl, hheader hdirty, fun hidle => hmirror hidle ▸ hraises⟩
  · rw [State.judgeOverload_within (s := s.sampleTaken p i) hover hp] at hmirror ⊢
    exact ⟨hover, rfl, hmirror⟩
  · rw [State.judgeOverload_above (s := s.sampleTaken p i) hover hp] at hmirror ⊢
    exact ⟨hover, rfl, hmirror⟩
  · rw [State.judgeOverload_below (s := s.sampleTaken p i) hover hp hrun] at hmirror ⊢
    exact ⟨hover, rfl, hmirror⟩
  · rw [State.judgeOverload_off (s := s.sampleTaken p i) hover hp hrun.ge] at hheader hmirror ⊢
    obtain ⟨hdirty, hraises⟩ := hmarks.overloadOff p threshold
    rw [State.overloadOff_meter]
    exact ⟨rfl, rfl, hheader hdirty, fun hidle => hmirror hidle ▸ hraises⟩

/-- The alerts of an overload judgement (R94). -/
theorem State.judgeOverload_raised (s : State) (p : Nat) : Raised s (s.judgeOverload p) (overloadAlerts s p) := by
  have hmarks (f : FeederMeter → FeederMeter) : MarksOnly s ((s.updMeter f).mark .header) := ((MarksOnly.refl s).updMeter f).mark _
  unfold overloadAlerts
  cases ho : s.meter.overload with
  | false =>
    obtain hp | hp := Nat.lt_or_ge s.meter.limits.feederLimit p
    · rw [State.judgeOverload_on ho hp, if_pos ⟨rfl, hp⟩]
      exact (hmarks _).raised.raise _ none none
    · rw [State.judgeOverload_within ho hp, if_neg (by omega), if_neg (by simp)]
      exact .refl s
  | true =>
    rw [if_neg (by simp)]
    obtain hp | hp := Nat.lt_or_ge (releaseThreshold s.meter.limits s.config.loaded.releaseBand) p
    · rw [State.judgeOverload_above ho hp, if_neg fun ⟨_, hle, _⟩ => Nat.not_le.2 hp hle]
      exact ((MarksOnly.refl s).updMeter _).raised
    obtain hrun | hrun := Nat.lt_or_ge s.meter.releaseRun 2
    · rw [State.judgeOverload_below ho hp hrun, if_neg (by omega)]
      exact ((MarksOnly.refl s).updMeter _).raised
    · rw [State.judgeOverload_off ho hp hrun, if_pos ⟨rfl, hp, hrun⟩]
      exact (hmarks _).raised.raise _ none none

/-- The alerts of a valid set up to its hand-over. -/
theorem State.sampleJudged_raised (s : State) (p : Nat) (interval : Word) :
    Raised s (s.sampleJudged p interval) (overloadAlerts s p) := by
  have halerts : overloadAlerts (s.sampleTaken p interval) p = overloadAlerts s p := rfl
  rw [← halerts]
  exact (MarksOnly.sampleTaken s p interval).raised.append ((s.sampleTaken p interval).judgeOverload_raised p)

/-- A valid set with a pass in flight is taken and then skipped (R102). -/
theorem State.sampleJudged_skipped (s : State) (p : Nat) (interval : Word) :
    ∃ u, u = { s with meter := ((s.sampleJudged p interval).skip .passInFlight).meter, mirror := u.mirror } ∧
      OnlyRing s.mirror u.mirror ∧ RaisesAll s.mirror u.mirror (overloadAlerts s p) ∧
      Skipped u ((s.sampleJudged p interval).skip .passInFlight) .passInFlight := by
  have hraised := s.sampleJudged_raised p interval
  have hmeter : ((s.sampleJudged p interval).skip .passInFlight).meter = (s.sampleJudged p interval).meter := by simp
  rw [hmeter]
  exact ⟨_, s.sampleJudged_only p interval, hraised.ring, hraised.all, State.skip_skipped _ _⟩

/-- Settles O34: by the latest valid sample, and for a valid set by the pass in flight. -/
theorem unusableSampleSkipsTheInterval : Obligations.UnusableSampleSkipsTheInterval := by
  intro s i l1 l2 l3 hset
  refine ⟨fun hinvalid => ⟨_, exec_invalidSet hset hinvalid, State.invalidSample_without _⟩, fun o ho hr hrunning => ?_⟩
  have hexec := exec_validSet hset ho hr
  have hpass : (s.sampleJudged (feederPowerOf s.config.loaded o l1 l2 l3) i).allocator.pass ≠ none := by
    rwa [s.sampleJudged_only]
  rw [State.onSample_of_running hpass] at hexec
  obtain ⟨u, hu⟩ := s.sampleJudged_skipped (feederPowerOf s.config.loaded o l1 l2 l3) i
  exact ⟨_, u, hexec, hu⟩

end Sys2Proof.Machine
end

section
/-!
PROOF. The alerts of a tick, its conversion set, and the set without codes that completes during a calibration (R13, R31, R32, R85,
R96, R122, R123, R127).
-/

namespace Sys2Proof.Machine

open Sys2Proof

/-! ### The clock's own work (R122, R123, R127) -/

/-- From one Mirror Writer to another the alerts of a list have been raised, and ring and dirty set alone have changed. -/
structure RingTakes (m n : MirrorWriter) (l : List Alert) : Prop where
  ring : OnlyRing m n
  all : RaisesAll m n l

theorem RingTakes.refl (m : MirrorWriter) : RingTakes m m [] := ⟨rfl, (SameRing.refl m).raisesAll⟩

theorem RingTakes.append {m n k : MirrorWriter} {l r : List Alert} (h : RingTakes m n l) (g : RingTakes n k r) :
    RingTakes m k (l ++ r) := ⟨h.ring.trans g.ring, h.all.append g.all⟩

theorem Raised.ringTakes {s x : State} {l : List Alert} (h : Raised s x l) : RingTakes s.mirror x.mirror l := ⟨h.ring, h.all⟩

/-- Depot time has come to its maximum (R123). -/
theorem State.clockLimit_eq (s : State) :
    s.clockLimit =
      if s.clock.depotSeconds = maxDepot ∧ s.clock.limitReached = false then
        (s.updClock fun c => { c with limitReached := true }).raise .clockLimit none none
      else s :=
  if_congr (by rw [Bool.not_eq_true']) rfl rfl

/-- CLOCK LIMIT comes at the top of depot time, once. -/
theorem State.clockLimit_ringTakes (s : State) :
    RingTakes s.mirror s.clockLimit.mirror
      (if s.clock.depotSeconds = maxDepot ∧ s.clock.limitReached = false then [plainAlert s .clockLimit] else []) := by
  rw [State.clockLimit_eq]
  split
  · exact (State.raise_raised (s.updClock fun c => { c with limitReached := true }) .clockLimit none none).ringTakes
  · exact .refl _

theorem State.clockLimit_clock (s : State) :
    s.clockLimit.clock =
      { s.clock with limitReached := s.clock.limitReached || decide (s.clock.depotSeconds = maxDepot) } := by
  rw [State.clockLimit_eq]
  split
  · next h => simp [h, State.updClock]
  · next h =>
    have hkept : (s.clock.limitReached || decide (s.clock.depotSeconds = maxDepot)) = s.clock.limitReached := by
      rw [Bool.or_eq_left_iff_imp, decide_eq_true_iff]
      exact fun htop => by simpa [htop] using h
    rw [hkept]

/-- The stale timer runs out at a tick. -/
def StaleRunsOut (s : State) : Prop :=
  s.clock.plan = .planned ∧ s.config.loaded.planStalePeriod ≠ 0 ∧
    s.config.loaded.planStalePeriod ≤ s.clock.staleTimer + s.config.loaded.intervalLength

/-- PLAN STALE, where the stale timer runs out. -/
def staleAlerts (s : State) (now : Word) : List Alert :=
  if s.clock.plan = .planned ∧ s.config.loaded.planStalePeriod ≠ 0 ∧
      s.config.loaded.planStalePeriod ≤ s.clock.staleTimer + s.config.loaded.intervalLength then
    [{ kind := .planStale s.config.loaded.planStalePeriod, bay := none, tag := none, time := now }]
  else []

theorem State.staleDue_iff (s : State) :
    s.staleDue = true ↔
      s.clock.plan = .planned ∧ s.config.loaded.planStalePeriod ≠ 0 ∧ s.config.loaded.planStalePeriod ≤ s.clock.staleTimer := by
  rw [State.staleDue, Bool.and_eq_true, Bool.and_eq_true, and_assoc]
  exact and_congr beq_iff_eq (and_congr bne_iff_ne decide_eq_true_iff)

/-- The stale timer with the interval length added. -/
def State.timerStepped (s : State) : State := s.updClock fun c => { c with staleTimer := c.staleTimer + s.config.loaded.intervalLength }

/-- The plan becomes AUTONOMOUS. -/
def State.planExpired (s : State) : State :=
  ((s.updClock fun c => { c with plan := .autonomous, staleTimer := 0 }).mark .header).raise
    (.planStale s.config.loaded.planStalePeriod) none none

/-- The stale timer's step at a tick, by where it stands (R127). -/
theorem State.stepStale_cases (s : State) :
    (StaleRunsOut s ∧ s.stepStale = s.timerStepped.planExpired) ∨ (¬StaleRunsOut s ∧ (s.stepStale = s ∨ s.stepStale = s.timerStepped)) := by
  unfold State.stepStale StaleRunsOut
  cases hplan : s.clock.plan with
  | autonomous => exact .inr ⟨nofun, .inl rfl⟩
  | planned =>
    dsimp only
    by_cases hperiod : s.config.loaded.planStalePeriod = 0
    · exact .inr ⟨fun h => h.2.1 hperiod, .inl (if_pos hperiod)⟩
    rw [if_neg hperiod]
    have hdue := s.timerStepped.staleDue_iff
    by_cases hlength : s.config.loaded.planStalePeriod ≤ s.clock.staleTimer + s.config.loaded.intervalLength
    · exact .inl ⟨⟨rfl, hperiod, hlength⟩, if_pos (hdue.2 ⟨hplan, hperiod, hlength⟩)⟩
    · exact .inr ⟨fun h => hlength h.2.2, .inr (if_neg fun h => hlength (hdue.1 h).2.2)⟩

theorem State.stepStale_ringTakes (s : State) :
    RingTakes s.mirror s.stepStale.mirror (staleAlerts s s.clock.depotSeconds) := by
  obtain ⟨hout, hstep⟩ | ⟨hkept, hstep⟩ := s.stepStale_cases
  · have halerts : staleAlerts s s.clock.depotSeconds = [plainAlert s (.planStale s.config.loaded.planStalePeriod)] := if_pos hout
    have hmarks := (MarksOnly.refl (s.timerStepped.updClock fun c => { c with plan := .autonomous, staleTimer := 0 })).mark .header
    rw [halerts, hstep]
    exact (hmarks.raised.raise _ none none).ringTakes
  · have halerts : staleAlerts s s.clock.depotSeconds = [] := if_neg hkept
    rw [halerts]
    obtain hstep | hstep := hstep <;> rw [hstep] <;> exact .refl _

theorem State.stepStale_clock (s : State) :
    s.stepStale.clock.depotSeconds = s.clock.depotSeconds ∧ s.stepStale.clock.limitReached = s.clock.limitReached := by
  obtain ⟨_, hstep⟩ | ⟨_, hstep | hstep⟩ := s.stepStale_cases <;> rw [hstep]
  · simp [State.planExpired, State.timerStepped, State.updClock]
  · exact ⟨rfl, rfl⟩
  · exact ⟨rfl, rfl⟩

/-- The alerts of the clock's own work: CLOCK LIMIT, then PLAN STALE (log entry 35). -/
def clockAlerts (s : State) (now : Word) : List Alert :=
  (if now = maxDepot ∧ s.clock.limitReached = false then [{ kind := .clockLimit, bay := none, tag := none, time := now }] else []) ++
    staleAlerts s now

/-- The clock moved on by one interval (R122). -/
def State.clockAdvanced (s : State) : State :=
  s.updClock fun c =>
    { c with
      depotSeconds := advanceDepot c.depotSeconds s.config.loaded.intervalLength
      interval := c.interval + 1 }

theorem State.clockTick_eq (s : State) : s.clockTick = s.clockAdvanced.clockLimit.stepStale.mark .header := rfl

theorem State.mark_clock (s : State) (r : RecordId) : (s.mark r).clock = s.clock := by simp

/-- What the clock's own work does to depot time, limit reached and the ring. -/
theorem State.clockTick_spec (s : State) :
    s.clockTick.clock.limitReached =
        (s.clock.limitReached || decide (s.clockTick.clock.depotSeconds = maxDepot)) ∧
      RingTakes s.mirror s.clockTick.mirror (clockAlerts s s.clockTick.clock.depotSeconds) := by
  obtain ⟨hdepot, hlimit⟩ := s.clockAdvanced.clockLimit.stepStale_clock
  have hnow : s.clockTick.clock.depotSeconds = s.clockAdvanced.clock.depotSeconds := by
    rw [State.clockTick_eq, State.mark_clock, hdepot, State.clockLimit_clock]
  rw [hnow]
  refine ⟨?_, ?_⟩
  · rw [State.clockTick_eq, State.mark_clock, hlimit, State.clockLimit_clock]
    rfl
  · have hstale : staleAlerts s.clockAdvanced.clockLimit s.clockAdvanced.clockLimit.clock.depotSeconds =
        staleAlerts s s.clockAdvanced.clock.depotSeconds := by
      simp only [staleAlerts, State.clockLimit_keeps, State.clockLimit_clock]
      rfl
    have hring := s.clockAdvanced.clockLimit_ringTakes.append s.clockAdvanced.clockLimit.stepStale_ringTakes
    rw [hstale] at hring
    exact ⟨hring.ring.trans (State.mark_onlyDirty ..).onlyRing, hring.all.thenSame (State.mark_sameRing ..)⟩

/-! ### The Meter's block (R96) -/

/-- CURTAIL OFF at the tick, from the Meter and the parameters. -/
theorem State.meterTick_raised {c x : State} (hmeter : x.meter = c.meter) (hconfig : x.config = c.config) (hclock : x.clock = c.clock) :
    Raised x x.meterTick (tailAlerts c c.clock.depotSeconds) := by
  have hconversion : MarksOnly x x.tickConversion := .of_mirror (by simp) (by simp)
  have hsame : x.tickConversion.meter.curtail = c.meter.curtail ∧ x.tickConversion.meter.tailElapsed = c.meter.tailElapsed := by
    rw [State.tickConversion_meter, hmeter]
    exact ⟨rfl, rfl⟩
  obtain ⟨hcurtail, helapsed⟩ := hsame
  have hblock : x.tickConversion.config = c.config := by simp [hconfig]
  unfold State.meterTick tailAlerts
  rw [State.tickTail_eq, hcurtail, helapsed, hblock, ← hclock]
  by_cases htail : c.meter.curtail = .tail
  · rw [if_pos htail]
    by_cases hlength : 60 * c.config.loaded.curtailTailMinutes ≤ c.meter.tailElapsed + c.config.loaded.intervalLength
    · rw [if_pos hlength, if_pos ⟨htail, hlength⟩]
      exact (((hconversion.updMeter _).updMeter _).mark .header).raised.raise _ none none
    · rw [if_neg hlength, if_neg fun h => hlength h.2]
      exact (hconversion.updMeter _).raised
  · rw [if_neg htail, if_neg fun h => htail h.1]
    exact hconversion.raised

/-! ### The Book's block (R31, R32) -/

/-- The alert of one booking at the scan. -/
def bookingAlerts (s : State) (now : Word) (k : Booking) : List Alert :=
  if k.departure.toNat + 60 * s.config.loaded.expiryHoldMinutes < now.toNat then
    [{ kind := .expired k.delivered k.state, bay := s.boundBay k.tag, tag := some k.tag, time := now }]
  else if (k.state = .waiting ∨ k.state = .charging) ∧ k.departure.toNat ≤ now.toNat then
    [{ kind := .short (k.target - ((s.rosterEntry k.tag).map RosterEntry.lastEnergy).getD 0)
       bay := s.boundBay k.tag, tag := some k.tag, time := now }]
  else []

theorem scanAlerts_eq (s : State) (now : Word) : scanAlerts s now = s.book.flatMap (bookingAlerts s now) := rfl

/-- The scan's judgement of a booking: EXPIRED before SHORT (R31, R32). -/
theorem State.scanJudge_eq (s : State) (k : Booking) :
    s.scanJudge k =
      if k.departure.toNat + 60 * s.config.loaded.expiryHoldMinutes < s.clock.depotSeconds.toNat then .expired
      else if (k.state = .waiting ∨ k.state = .charging) ∧ k.departure.toNat ≤ s.clock.depotSeconds.toNat then .becameShort
      else .kept := by
  unfold State.scanJudge
  dsimp only
  split
  · rfl
  · cases k.state <;> simp

/-- A booking's alert, raised at a state with the clock and the tag's entry of the one that judges it. -/
theorem State.scanAlert_raised {s x : State} {k : Booking} (hclock : x.clock = s.clock)
    (hentry : x.rosterEntry k.tag = s.rosterEntry k.tag) :
    Raised x (x.scanAlert k (s.scanJudge k)) (bookingAlerts s s.clock.depotSeconds k) := by
  have hbay : x.boundBay k.tag = s.boundBay k.tag := by rw [State.boundBay, hentry, State.boundBay]
  rw [State.scanJudge_eq, bookingAlerts, ← hentry, ← hbay, ← hclock]
  split
  · exact x.raise_raised _ _ _
  split
  · exact x.raise_raised _ _ _
  · exact .refl x

/-- The alerts of a run of bookings. -/
theorem foldl_scanAlert_raised {s : State} (book : List Booking) {x : State} (hclock : x.clock = s.clock)
    (hentry : ∀ k ∈ book, x.rosterEntry k.tag = s.rosterEntry k.tag) :
    Raised x (book.foldl (fun acc k => acc.scanAlert k (s.scanJudge k)) x) (book.flatMap (bookingAlerts s s.clock.depotSeconds)) := by
  induction book generalizing x with
  | nil => exact .refl x
  | cons k book ih =>
    have hstep := State.scanAlert_raised hclock (hentry k List.mem_cons_self)
    rw [List.foldl_cons, List.flatMap_cons]
    refine hstep.append (ih (by simpa using hclock) fun j hj => ?_)
    rw [State.rosterEntry_of_roster (s := x) (by simp), hentry j (List.mem_cons_of_mem _ hj)]

/-- EXPIRED and SHORT at the tick. -/
theorem State.bookScan_raised {c x : State} (hbook : x.book = c.book) (hconfig : x.config = c.config) (hclock : x.clock = c.clock)
    (hentry : ∀ k ∈ c.book, x.rosterEntry k.tag = c.rosterEntry k.tag) :
    Raised x x.bookScan (scanAlerts c c.clock.depotSeconds) := by
  have halerts : scanAlerts c c.clock.depotSeconds = x.book.flatMap (bookingAlerts x x.clock.depotSeconds) := by
    rw [scanAlerts_eq, hbook]
    refine List.flatMap_congr fun k hk => ?_
    unfold bookingAlerts State.boundBay
    rw [hentry k hk, hconfig, hclock]
  rw [halerts]
  have hmarks := (MarksOnly.refl x).setBook (x.book.filterMap fun b => scanned b (x.scanJudge b))
  exact hmarks.raised.append (foldl_scanAlert_raised x.book (by simp) fun k _ => State.rosterEntry_of_roster (by simp) _)

/-! ### The Roster's block (R13) -/

/-- The alerts of the aging step hang on what the tick leaves of the roster. -/
theorem agingAlerts_of_roster {s t u v : State} (hs : t.roster = s.roster) (hu : v.roster = u.roster) (now : Word) :
    agingAlerts t v now = agingAlerts s u now := by
  unfold agingAlerts
  rw [hs, hu]

/-- The part with the entry at the aging position examined (R13). -/
def State.agingExamined (s : State) : State :=
  match s.roster.entries.get s.roster.agingPosition with
  | none => s
  | some e =>
    if s.agedOut e then (s.setRoster s.roster.agingPosition none).raise (.vanAged s.roster.agingPosition) none (some e.tag) else s

/-- The aging step is the examination, and then the next position. -/
theorem State.agingStep_marks (s : State) : MarksOnly s.agingExamined s.agingStep := .of_mirror rfl rfl

/-- VAN AGED, where the step removes the entry. -/
theorem State.agingStep_raisesAged (x : State) : Raised x x.agingStep (agingAlerts x x.agingStep x.clock.depotSeconds) := by
  have hget := x.agingStep_get x.roster.agingPosition
  rw [if_pos rfl] at hget
  refine Raised.thenMarks ?_ x.agingStep_marks
  unfold agingAlerts State.agingExamined
  rw [hget]
  cases x.roster.entries.get x.roster.agingPosition with
  | none => exact .refl x
  | some e =>
    rw [Option.filter_some]
    dsimp only
    cases x.agedOut e with
    | true => exact ((MarksOnly.refl x).setRoster _ _).raised.raise _ _ _
    | false => exact .refl x

/-- VAN AGED at the tick. -/
theorem State.agingStep_raised {c x u : State} (hroster : x.roster = c.roster) (hclock : x.clock = c.clock)
    (hu : u.roster = x.agingStep.roster) : Raised x x.agingStep (agingAlerts c u c.clock.depotSeconds) := by
  rw [← hclock, ← agingAlerts_of_roster hroster hu.symm]
  exact x.agingStep_raisesAged

/-- The aging step leaves the entry of a booked tag. -/
theorem State.agingStep_rosterEntry {x : State} {k : Booking} (hk : k ∈ x.book) :
    x.agingStep.rosterEntry k.tag = x.rosterEntry k.tag := by
  have hgone : ∀ i e, x.roster.entries.get i = some e → x.agedOut e = true → e.tag ≠ k.tag := fun i e _ hold htag =>
    ((x.agedOut_iff e).1 hold).2 k hk htag.symm
  have hget : ∀ i, (∃ e, x.roster.entries.get i = some e ∧ e.tag ≠ k.tag ∧ x.agingStep.roster.entries.get i = none) ∨
      x.agingStep.roster.entries.get i = x.roster.entries.get i := fun i => by
    rw [x.agingStep_get]
    split
    · cases he : x.roster.entries.get i with
      | none => exact .inr rfl
      | some e =>
        rw [Option.filter_some]
        cases hold : x.agedOut e with
        | true => exact .inl ⟨e, rfl, hgone i e he hold, rfl⟩
        | false => exact .inr rfl
    · exact .inr rfl
  have hfind : x.agingStep.rosterFind k.tag = x.rosterFind k.tag := by
    unfold State.rosterFind
    refine congrArg (List.find? · (List.finRange 128)) (funext fun i => ?_)
    obtain ⟨e, he, htag, hnone⟩ | hsame := hget i
    · rw [he, hnone]
      simp [htag]
    · rw [hsame]
  unfold State.rosterEntry
  rw [hfind]
  cases hi : x.rosterFind k.tag with
  | none => rfl
  | some i =>
    obtain ⟨e, he, htag⟩ := State.rosterFind_some hi
    obtain ⟨e', he', htag', _⟩ | hsame := hget i
    · cases he.symm.trans he'
      exact absurd htag htag'
    · exact hsame

/-! ### The three blocks in an open order (R122; log entry 7) -/

theorem Raised.three {c x y z : State} {l m n : List Alert} (h : Raised c x l) (g : Raised x y m) (k : Raised y z n) :
    Raised c z [l, m, n].flatten := by
  have hall := (h.append g).append k
  simpa using hall

/-- The alerts of the three blocks at a tick, in the order that the tick takes. -/
theorem State.blocksTick_raised (c : State) (order : TickOrder) :
    ∃ blocks : List (List Alert),
      blocks.Perm
        [tailAlerts c c.clock.depotSeconds, scanAlerts c c.clock.depotSeconds,
          agingAlerts c (c.blocksTick order) c.clock.depotSeconds] ∧
      Raised c (c.blocksTick order) blocks.flatten := by
  have booked : ∀ x y : State, x.book = c.book ∧ x.roster = c.roster ∧ y.roster = x.agingStep.roster → ∀ k ∈ c.book,
      y.rosterEntry k.tag = c.rosterEntry k.tag := fun x y ⟨hbook, hroster, hy⟩ k hk => by
    rw [State.rosterEntry_of_roster hy, State.agingStep_rosterEntry (by rwa [hbook]), State.rosterEntry_of_roster hroster]
  have unaged : ∀ x : State, x.roster = c.roster → ∀ k ∈ c.book, x.rosterEntry k.tag = c.rosterEntry k.tag := fun x hroster k _ =>
    State.rosterEntry_of_roster hroster _
  have meter : ∀ x : State, x.meter = c.meter ∧ x.config = c.config ∧ x.clock = c.clock →
      Raised x x.meterTick (tailAlerts c c.clock.depotSeconds) := fun x ⟨hmeter, hconfig, hclock⟩ =>
    State.meterTick_raised hmeter hconfig hclock
  have book : ∀ x : State, x.book = c.book ∧ x.config = c.config ∧ x.clock = c.clock →
      (∀ k ∈ c.book, x.rosterEntry k.tag = c.rosterEntry k.tag) →
      Raised x x.bookScan (scanAlerts c c.clock.depotSeconds) := fun x ⟨hbook, hconfig, hclock⟩ =>
    State.bookScan_raised hbook hconfig hclock
  have roster : ∀ u x : State, x.roster = c.roster ∧ x.clock = c.clock ∧ u.roster = x.agingStep.roster →
      Raised x x.agingStep (agingAlerts c u c.clock.depotSeconds) := fun u x ⟨hroster, hclock, hu⟩ =>
    State.agingStep_raised hroster hclock hu
  cases order <;> unfold State.blocksTick <;> dsimp only
  case meterBookRoster =>
    exact ⟨[_, _, _], .refl _,
      (meter _ (by simp)).three (book _ (by simp) (unaged _ (by simp))) (roster _ _ (by simp))⟩
  case meterRosterBook =>
    exact ⟨[_, _, _], (List.Perm.swap ..).cons _,
      (meter _ (by simp)).three (roster _ _ (by simp)) (book _ (by simp) (booked c.meterTick _ (by simp)))⟩
  case bookMeterRoster =>
    exact ⟨[_, _, _], .swap .., (book _ (by simp) (unaged _ (by simp))).three (meter _ (by simp)) (roster _ _ (by simp))⟩
  case bookRosterMeter =>
    exact ⟨[_, _, _], List.perm_append_comm (l₁ := [_, _]) (l₂ := [_]),
      (book _ (by simp) (unaged _ (by simp))).three (roster _ _ (by simp)) (meter _ (by simp))⟩
  case rosterMeterBook =>
    exact ⟨[_, _, _], List.perm_append_comm (l₁ := [_]) (l₂ := [_, _]),
      (roster _ _ (by simp)).three (meter _ (by simp)) (book _ (by simp) (booked c _ (by simp)))⟩
  case rosterBookMeter =>
    exact ⟨[_, _, _], List.reverse_perm [_, _, _],
      (roster _ _ (by simp)).three (book _ (by simp) (booked c _ (by simp))) (meter _ (by simp))⟩

/-! ### The tick -/

/-- The part as the blocks have taken a tick, up to the set without codes. -/
def State.tickTaken (s : State) (order : TickOrder) : State := s.clockTick.blocksTick order

theorem State.tickIn_eq (s : State) (order : TickOrder) : s.tickIn order = (s.tickTaken order).tickSample := rfl

/-- A tick raises the alerts of the clock and of the three blocks. -/
theorem State.tickTaken_alerts (s : State) (order : TickOrder) : TickAlerts s (s.draw.tickTaken order) := by
  obtain ⟨hlimit, hclockRing⟩ := s.draw.clockTick_spec
  obtain ⟨blocks, hperm, hraised⟩ := s.draw.clockTick.blocksTick_raised order
  have hclock : (s.draw.tickTaken order).clock = s.draw.clockTick.clock := by simp [State.tickTaken]
  have hring := hclockRing.append hraised.ringTakes
  unfold TickAlerts
  dsimp only
  rw [hclock]
  have htail : ∀ now, tailAlerts s.draw.clockTick now = tailAlerts s now := fun now => by simp [tailAlerts]
  have hscan : ∀ now, scanAlerts s.draw.clockTick now = scanAlerts s now := fun now => by
    simp [scanAlerts, State.boundBay, State.rosterEntry, State.rosterFind]
  have haging : ∀ u now, agingAlerts s.draw.clockTick u now = agingAlerts s u now := fun u now =>
    agingAlerts_of_roster (by simp) rfl now
  rw [htail, hscan, haging] at hperm
  exact ⟨hlimit, hring.ring, blocks, hperm, hring.all⟩

/-- The discard of a running conversion set. -/
def Conversion.discards : Conversion → Bool
  | .idle => false
  | .converting _ discard => discard

/-- The tail step leaves everything of the Meter but Curtail and the tail. -/
theorem FeederMeter.tailTicked_only (m : FeederMeter) (p : Params) :
    m.tailTicked p = { m with curtail := (m.tailTicked p).curtail, tailElapsed := (m.tailTicked p).tailElapsed } := by
  unfold FeederMeter.tailTicked
  split
  · split <;> rfl
  · rfl

/-- The Meter that a tick leaves: its conversion set, Curtail and the tail. -/
theorem FeederMeter.ticked_only (m : FeederMeter) (interval : Word) (p : Params) :
    m.ticked interval p =
      { m with
        conversion := m.conversionTicked interval
        curtail := (m.ticked interval p).curtail, tailElapsed := (m.ticked interval p).tailElapsed } := by
  have honly := m.tailTicked_only p
  unfold FeederMeter.ticked
  rw [honly]

/-- Outside a calibration a conversion set runs for the new interval (R85; log entry 22). -/
theorem FeederMeter.conversionTicked_of_idle {m : FeederMeter} (h : m.calibration = .idle) (interval : Word) :
    m.conversionTicked interval = .converting interval m.conversion.discards := by
  unfold FeederMeter.conversionTicked
  rw [h]
  cases m.conversion <;> rfl

/-- During a calibration none begins. -/
theorem FeederMeter.conversionTicked_of_calibrating {m : FeederMeter} {origin : CalOrigin} (h : m.calibration = .inFlight origin)
    (interval : Word) : m.conversionTicked interval = m.conversion := by
  unfold FeederMeter.conversionTicked
  rw [h]

/-- The Meter as the blocks have taken a tick. -/
theorem State.tickTaken_meter (s : State) (order : TickOrder) :
    (s.draw.tickTaken order).meter =
      { s.meter with
        conversion := s.meter.conversionTicked (s.draw.tickTaken order).clock.interval
        curtail := (s.draw.tickTaken order).meter.curtail, tailElapsed := (s.draw.tickTaken order).meter.tailElapsed } := by
  have hmeter : (s.draw.tickTaken order).meter =
      s.meter.ticked (s.draw.tickTaken order).clock.interval s.config.loaded := by
    simp [State.tickTaken, State.blocksTick_meter]
  rw [hmeter]
  exact FeederMeter.ticked_only ..

/-- A tick reaches book, roster, Meter, clock and Mirror Writer. -/
theorem State.tickTaken_only (s : State) (order : TickOrder) :
    s.draw.tickTaken order =
      { s with
        book := (s.draw.tickTaken order).book, roster := (s.draw.tickTaken order).roster
        meter := (s.draw.tickTaken order).meter, clock := (s.draw.tickTaken order).clock
        mirror := (s.draw.tickTaken order).mirror, draws := (s.draw.tickTaken order).draws } :=
  State.eq_of_fields (by simp [State.tickTaken])

/-- The blocks leave the calibration as it is. -/
theorem State.tickTaken_calibration (s : State) (order : TickOrder) :
    (s.draw.tickTaken order).meter.calibration = s.meter.calibration := by
  rw [State.tickTaken_meter]

theorem State.tickSample_of_idle {s : State} (h : s.meter.calibration = .idle) : s.tickSample = s := by
  rw [State.tickSample, h]

theorem State.tickSample_of_calibrating {s : State} {origin : CalOrigin} (h : s.meter.calibration = .inFlight origin) :
    s.tickSample = s.invalidSample := by
  unfold State.tickSample State.sampleDone State.validPower
  rw [h]
  cases s.meter.offsets <;> rfl

/-- Settles O13: the blocks' alerts in the order drawn, and behind them, during a calibration, the set without codes. -/
theorem tickRaisesItsAlerts : Obligations.TickRaisesItsAlerts := by
  intro s hrunning
  have hexec := exec_tick_running hrunning
  have halerts := s.tickTaken_alerts (Config.tickOrder s.draws)
  have honly := s.tickTaken_only (Config.tickOrder s.draws)
  have hmeter := s.tickTaken_meter (Config.tickOrder s.draws)
  have hcalibration := s.tickTaken_calibration (Config.tickOrder s.draws)
  rw [State.tickIn_eq] at hexec
  generalize s.draw.tickTaken (Config.tickOrder s.draws) = u at *
  refine ⟨_, hexec, fun hidle => ?_, fun origin hcalibrating => ⟨u, halerts, ?_, ?_, ?_⟩⟩
  · rw [State.tickSample_of_idle (hcalibration.trans hidle)]
    rw [FeederMeter.conversionTicked_of_idle hidle] at hmeter
    exact ⟨halerts, honly, hmeter.trans (by cases s.meter.conversion <;> rfl)⟩
  · have hkept : u.tickSample.book = u.book ∧ u.tickSample.roster = u.roster ∧ u.tickSample.meter = u.meter ∧
        u.tickSample.clock = u.clock ∧ u.tickSample.draws = u.draws := by simp
    obtain ⟨hbook, hroster, hsame, hclock, hdraws⟩ := hkept
    rw [hbook, hroster, hsame, hclock, hdraws]
    exact honly
  · rw [FeederMeter.conversionTicked_of_calibrating hcalibrating] at hmeter
    rw [State.tickSample_meter]
    exact hmeter
  · rw [State.tickSample_of_calibrating (hcalibration.trans hcalibrating)]
    exact u.invalidSample_without

end Sys2Proof.Machine
end

section
/-!
PROOF. Publication: the plane of the pass becomes the front plane, late-corrected, and the log record is handed over (R110, R111, R115,
R116, R149).
-/

namespace Sys2Proof.Machine

open Sys2Proof

/-! ### The planes (R110, R111) -/

/-- An entry is corrected against the live bay record (R111). -/
theorem State.publishedPlane_get (s : State) (sn : Snapshot) (b : BayNo) :
    (s.publishedPlane sn).get b = lateCorrect (sn.plane.get b) (s.bay b) := ofFn_get ..

/-- The late correction keeps an entry only of a bay that is PLUGGED with the entry's tag and mode (R111). -/
theorem lateCorrect_eq (e : PlaneEntry) (bay : BayRecord) :
    lateCorrect e bay =
      if e = { value := 0, tag := none, mode := none, preconditionOn := false } then e
      else if bay.state = .plugged ∧ bay.boundTag = e.tag ∧ bay.agreedMode = e.mode then e
      else { e with value := 0, preconditionOn := false } := by
  unfold lateCorrect
  simp only [eq_comm (a := e.tag), eq_comm (a := e.mode)]
  rfl

theorem armedState_allocator (s : State) (sn : Snapshot) :
    (armedState s sn).allocator =
      { s.allocator with
        front := s.publishedPlane sn, back := s.allocator.front, skipCount := 0, standDown := false } := by
  rw [armedState, State.clearSkips_allocator]
  simp [State.swapPlanes]

theorem startedState_allocator (s : State) (sn : Snapshot) : (startedState s sn).allocator = (armedState s sn).allocator := by
  simp [startedState]

/-- The log record that the Allocator forms at a publication; the hand-over fills the rest. -/
def publishedLog (s : State) (sn : Snapshot) : LogRecord := publicationLog sn (planeSum (s.publishedPlane sn))

/-- A publication: the rounds have started, the log record is handed over, and the pass is done. -/
theorem State.publish_eq (s : State) (sn : Snapshot) :
    s.publish sn =
      let u := (startedState s sn).handLog (publishedLog s sn)
      { u with allocator := { u.allocator with lastB := sn.budget, pass := none } } := by
  have harmed : (s.swapPlanes sn).armBays.allocator.front = s.publishedPlane sn := by simp [State.swapPlanes]
  unfold State.publish startedState armedState publishedLog
  dsimp only
  rw [harmed]

/-- Every field of the Allocator after a publication (R110, R115). -/
theorem State.publish_allocator (s : State) (sn : Snapshot) :
    (s.publish sn).allocator =
      { front := s.publishedPlane sn, back := s.allocator.front, pass := none, skipCount := 0, standDown := false,
        deliveredTotal := 0, lastB := sn.budget } := by
  rw [State.publish_eq]
  dsimp only
  rw [State.handLog_allocator, startedState_allocator, armedState_allocator]

/-! ### The bays of an exchange in flight (R58, R110) -/

/-- A round start leaves the bays of a lane with an exchange in flight, in service or not. -/
theorem LaneStarted.bays_of_exchange {s t : State} {l : LaneNo} (h : LaneStarted s t l) (hx : (s.lane l).exchange ≠ none) (d : Drop) :
    t.bay (bayAt l d) = s.bay (bayAt l d) := by
  obtain ⟨hout, hpending, _⟩ := h
  by_cases hservice : l.val < lanesInService s.config.straps
  · exact (hpending hservice hx).2 d
  · exact (hout (Nat.le_of_not_lt hservice)).2 d

/-- Behind a publication the bays of a lane with an exchange in flight are armed, each in service. -/
theorem State.publish_bay_of_exchange (s : State) (sn : Snapshot) {l : LaneNo} (hx : (s.lane l).exchange ≠ none) (d : Drop) :
    (s.publish sn).bay (bayAt l d) = (s.bay (bayAt l d)).armedIn := by
  have halike := armedState_alike s sn l
  have hstarted : LaneStarted (armedState s sn) (startedState s sn) l :=
    roundsStarted_iff.1 (armedState s sn).startRounds_spec.1 l
  have hlane : (armedState s sn).lane l = s.lane l := by simp [State.lane, armedState]
  obtain ⟨_, hbays, _⟩ := s.publish_started sn
  rw [State.bay_of_bays hbays, hstarted.bays_of_exchange (by rwa [hlane]) d, ← halike.bays d, armedFrom_bay]

/-! ### The log record (R116) -/

theorem Snapshot.sumK_eq (sn : Snapshot) :
    sn.sumK = sumBays fun b => if (sn.bays.get b).state = .disabled then 0 else (sn.bays.get b).k := by
  refine congrArg sumBays (funext fun b => ?_)
  by_cases hb : (sn.bays.get b).state = .disabled
  · rw [if_pos hb, if_neg fun h => (BayState.inService_iff _).1 h hb]
  · rw [if_neg hb, if_pos ((BayState.inService_iff _).2 hb)]

/-- The log record of a publication, every field of it, from the state that the publication meets. -/
theorem startedState_filledRecord (s : State) (sn : Snapshot) :
    (startedState s sn).filledRecord (publishedLog s sn) =
      { interval := s.clock.interval, depotSeconds := s.clock.depotSeconds, budget := sn.budget
        sumG := sumBays fun b => ((s.publishedPlane sn).get b).value
        sumK := sumBays fun b => if (sn.bays.get b).state = .disabled then 0 else (sn.bays.get b).k
        siteLoad := sn.siteLoad, delivered := s.allocator.deliveredTotal, skip := none, overload := sn.overload
        curtail := decide (sn.curtail ≠ .inactive), autonomous := decide (s.clock.plan = .autonomous)
        standDown := false } := by
  unfold State.filledRecord publishedLog publicationLog
  rw [startedState_allocator, armedState_allocator, (startedState_raised s sn).clock, Curtail.inForce_eq, PlanState.isAutonomous_eq,
    Snapshot.sumK_eq]
  rfl

/-- The record of R116 stands at the log position, which moves on. -/
theorem State.publish_logged (s : State) (sn : Snapshot) :
    Logged s.mirror (s.publish sn).mirror s.config.loaded.logLength ((startedState s sn).filledRecord (publishedLog s sn)) := by
  have hconfig : (startedState s sn).config = s.config := by simp [startedState, armedState]
  have hmirror : (s.publish sn).mirror = ((startedState s sn).handLog (publishedLog s sn)).mirror := by rw [State.publish_eq]
  rw [hmirror, ← hconfig]
  exact (startedState_raised s sn).ring.thenLogged ((startedState s sn).handLog_logged (publishedLog s sn))

theorem exec_publication {s : State} {sn : Snapshot} (h : s.allocator.pass = some sn) :
    exec .publication s = .next (s.publish sn) := by
  have hexec : exec .publication s = execPublication s := rfl
  rw [hexec, execPublication, h]

/-- Settles O31: the fields of the Allocator, the armed bays of an exchange in flight, and the log record behind the alerts. -/
theorem publicationPublishesThePass : Obligations.PublicationPublishesThePass := by
  intro s sn hpass
  have hallocator := s.publish_allocator sn
  have hfront : (s.publish sn).allocator.front = s.publishedPlane sn := by rw [hallocator]
  have hlogged := s.publish_logged sn
  have ⟨_, _, _, hheader, _⟩ := hlogged
  refine ⟨s.publish sn, exec_publication hpass, fun b => ?_, ?_, fun l d hx hd => ?_, ?_, hheader, by simp⟩
  · rw [hfront, State.publishedPlane_get, lateCorrect_eq]
  · rw [hallocator]
  · rw [s.publish_bay_of_exchange sn (Option.isSome_iff_ne_none.1 hx), BayRecord.armedIn, if_neg hd]
  · rw [hfront, ← startedState_filledRecord]
    exact hlogged

end Sys2Proof.Machine
end

section
/-!
PROOF. The candidates of a pass (R104), and the planes that a pass writes, within the budget or what is committed (R108 to R110).
-/

namespace Sys2Proof.Machine

open Sys2Proof

/-! ### The candidates (R104) -/

/-- The candidate that a PLUGGED bay is, with its tag and its mode. -/
def Snapshot.candidateAt (sn : Snapshot) (b : BayNo) (t : Tag) (m : ChargeMode) : Candidate :=
  { bay := b, tag := t, mode := m, booking := sn.bookingOf t
    ceiling := min (sn.bays.get b).cap (min (sn.modeEntry m).maximum (sn.bays.get b).postCeiling)
    minimumRun := (sn.modeEntry m).minimumRun, k := (sn.bays.get b).k, lastEnergy := (sn.bays.get b).lastEnergy
    plugIn := plugInAt sn b, p := 0, d := 0 }

theorem Snapshot.candidate_eq_some {sn : Snapshot} {b : BayNo} {c : Candidate} :
    sn.candidate b = some c ↔
      (sn.bays.get b).state = .plugged ∧
        ∃ t m, (sn.bays.get b).boundTag = some t ∧ (sn.bays.get b).agreedMode = some m ∧ c = sn.candidateAt b t m := by
  unfold Snapshot.candidate
  dsimp only
  split
  · next t m hstate htag hmode => simp [hstate, htag, hmode, Snapshot.candidateAt, plugInAt, eq_comm]
  · next hnone =>
    exact ⟨fun h => (by cases h), fun ⟨hstate, t, m, htag, hmode, _⟩ => absurd hmode (hnone t m hstate htag)⟩

theorem Snapshot.mem_candidates {sn : Snapshot} {c : Candidate} : c ∈ sn.candidates ↔ sn.candidate c.bay = some c := by
  have hbay : ∀ b, sn.candidate b = some c → b = c.bay := fun b h => by
    obtain ⟨_, t, m, _, _, rfl⟩ := Snapshot.candidate_eq_some.1 h
    rfl
  simp only [Snapshot.candidates, List.mem_filterMap, List.mem_finRange, true_and]
  exact ⟨fun ⟨b, h⟩ => hbay b h ▸ h, fun h => ⟨_, h⟩⟩

/-- The booking of a candidate is the one that the snapshot's book holds for its tag. -/
theorem Snapshot.booking_of_mem {sn : Snapshot} {c : Candidate} (h : c ∈ sn.candidates) : c.booking = sn.bookingOf c.tag := by
  obtain ⟨_, t, m, _, _, hc⟩ := Snapshot.candidate_eq_some.1 (Snapshot.mem_candidates.1 h)
  rw [hc]
  rfl

theorem insertByPlugIn_perm (c : Candidate) (l : List Candidate) : (insertByPlugIn c l).Perm (c :: l) := by
  induction l with
  | nil => exact .refl _
  | cons x rest ih =>
    rw [insertByPlugIn]
    split
    · exact .refl _
    · exact (ih.cons x).trans (.swap c x rest)

theorem foldl_insertByPlugIn_perm (l acc : List Candidate) :
    (l.foldl (fun acc c => insertByPlugIn c acc) acc).Perm (l ++ acc) := by
  induction l generalizing acc with
  | nil => exact .refl _
  | cons c rest ih => exact (ih _).trans (((insertByPlugIn_perm c acc).append_left rest).trans List.perm_middle)

theorem mem_sortByPlugIn {c : Candidate} {l : List Candidate} : c ∈ sortByPlugIn l ↔ c ∈ l := by
  rw [sortByPlugIn, (foldl_insertByPlugIn_perm l []).mem_iff, List.append_nil]

/-- The booked candidates are those with a booking. -/
theorem Snapshot.mem_bookedOrder {sn : Snapshot} {c : Candidate} :
    c ∈ sn.bookedOrder ↔ c ∈ sn.candidates ∧ c.booking.isSome = true := by
  simp only [Snapshot.bookedOrder, List.mem_flatMap, List.mem_filter, beq_iff_eq]
  constructor
  · rintro ⟨k, hk, hc, htag⟩
    refine ⟨hc, ?_⟩
    rw [Snapshot.booking_of_mem hc, Snapshot.bookingOf, List.find?_isSome]
    exact ⟨k, hk, beq_iff_eq.2 htag.symm⟩
  · rintro ⟨hc, hbooked⟩
    rw [Snapshot.booking_of_mem hc, Snapshot.bookingOf, List.find?_isSome] at hbooked
    obtain ⟨k, hk, htag⟩ := hbooked
    exact ⟨k, hk, hc, (beq_iff_eq.1 htag).symm⟩

/-- The candidate order holds the candidates, booked and unbooked. -/
theorem Snapshot.mem_order {sn : Snapshot} {c : Candidate} : c ∈ sn.order ↔ sn.candidate c.bay = some c := by
  rw [← Snapshot.mem_candidates, Snapshot.order, List.mem_append, mem_sortByPlugIn, Snapshot.mem_bookedOrder, List.mem_filter,
    ← and_or_left, ← Option.not_isSome, Bool.not_eq_true', ← Bool.not_eq_true]
  exact and_iff_left (Classical.em _)

/-! ### What the stages and the walk leave -/

/-- A stage keeps of each candidate what its grant keeps. -/
theorem visitAll_map {β : Type} (f : Candidate → β) {grant : Candidate → Nat → Nat} {take : Candidate → Nat → Candidate}
    (h : ∀ c g, f (take c g) = f c) (cs : List Candidate) (r : Nat) : (visitAll grant take cs r).1.map f = cs.map f := by
  induction cs generalizing r with
  | nil => rfl
  | cons c rest ih => rw [visitAll, List.map_cons, List.map_cons, h, ih]

theorem commitWalk_map_fst (cs : List Candidate) (available : Int) : (commitWalk cs available).map Prod.fst = cs := by
  induction cs generalizing available with
  | nil => rfl
  | cons c rest ih => rw [commitWalk, List.map_cons, ih]

/-- Neither the stages nor the walk change a figure of a candidate that the grants leave. -/
theorem Snapshot.grants_map {β : Type} (sn : Snapshot) (f : Candidate → β) (hpre : ∀ c g, f (takePrecondition c g) = f c)
    (hcharge : ∀ c g, f (takeCharge c g) = f c) : (sn.grants.map Prod.fst).map f = sn.order.map f := by
  rw [Snapshot.grants, commitWalk_map_fst, Snapshot.desired, visitAll_map f hcharge, visitAll_map f hcharge, visitAll_map f hpre]

/-- The committed setpoint of each candidate granted is the one of its bay. -/
theorem Snapshot.k_of_mem_grants {sn : Snapshot} {cg : Candidate × Nat} (h : cg ∈ sn.grants) :
    cg.1.k = (sn.bays.get cg.1.bay).k := by
  have hmem : (cg.1.bay, cg.1.k) ∈ (sn.grants.map Prod.fst).map fun c => (c.bay, c.k) :=
    List.mem_map_of_mem (List.mem_map_of_mem h)
  rw [sn.grants_map (fun c => (c.bay, c.k)) (fun _ _ => rfl) fun _ _ => rfl] at hmem
  obtain ⟨c, hc, he⟩ := List.mem_map.1 hmem
  obtain ⟨hbay, hk⟩ := Prod.mk.inj he
  obtain ⟨_, t, m, _, _, hcandidate⟩ := Snapshot.candidate_eq_some.1 (Snapshot.mem_order.1 hc)
  rw [← hk, ← hbay, hcandidate]
  rfl

/-! ### The commit walk stays within what is available (R108) -/

theorem dropSmallCharge_le (c : Candidate) (g : Nat) : dropSmallCharge c g ≤ g := by
  unfold dropSmallCharge
  dsimp only
  split
  · exact Nat.min_le_right _ _
  · exact Nat.le_refl _

theorem walkGrant_raised_le (c : Candidate) (available : Int) : (walkGrant c available).1 - c.k ≤ available.toNat := by
  unfold walkGrant
  split
  · dsimp only
    omega
  · dsimp only
    omega

/-- What the walk raises above the committed setpoints is together no more than what is available. -/
theorem commitWalk_raised_le (cs : List Candidate) (available : Int) :
    ((commitWalk cs available).map fun cg => cg.2 - cg.1.k).sum ≤ available.toNat := by
  induction cs generalizing available with
  | nil => exact Nat.zero_le _
  | cons c rest ih =>
    have hdrop := dropSmallCharge_le c (walkGrant c available).1
    have hraised := walkGrant_raised_le c available
    rw [commitWalk, List.map_cons, List.sum_cons]
    have hrest := ih (available - ((dropSmallCharge c (walkGrant c available).1 - c.k : Nat) : Int))
    dsimp only
    omega

/-! ### Sums over the bays -/

theorem sumBays_eq_sum (f : BayNo → Nat) : sumBays f = ∑ b, f b := (Fin.sum_univ_def f).symm

theorem sumBays_le {f g : BayNo → Nat} (h : ∀ b, f b ≤ g b) : sumBays f ≤ sumBays g := by
  rw [sumBays_eq_sum, sumBays_eq_sum]
  exact Finset.sum_le_sum fun b _ => h b

theorem sumBays_add (f g : BayNo → Nat) : sumBays (fun b => f b + g b) = sumBays f + sumBays g := by
  simp only [sumBays_eq_sum, Finset.sum_add_distrib]

/-- A figure of the entry found for each bay sums to no more than the figure over all entries. -/
theorem sumBays_find?_le {α : Type} (key : α → BayNo) (f : α → Nat) (l : List α) :
    sumBays (fun b => ((l.find? fun x => key x == b).map f).getD 0) ≤ (l.map f).sum := by
  induction l with
  | nil => simp [sumBays_eq_sum]
  | cons x l ih =>
    have hfirst : ∀ b, (((x :: l).find? fun x => key x == b).map f).getD 0 ≤
        (if key x = b then f x else 0) + ((l.find? fun x => key x == b).map f).getD 0 := fun b => by
      by_cases hb : key x = b
      · simp [hb]
      · simp [hb]
    have hone : sumBays (fun b => if key x = b then f x else 0) = f x := by simp [sumBays_eq_sum]
    calc sumBays (fun b => (((x :: l).find? fun x => key x == b).map f).getD 0)
      _ ≤ sumBays (fun b => (if key x = b then f x else 0) + ((l.find? fun x => key x == b).map f).getD 0) := sumBays_le hfirst
      _ ≤ ((x :: l).map f).sum := by
        rw [sumBays_add, hone, List.map_cons, List.sum_cons]
        exact Nat.add_le_add_left ih _

/-! ### The published plane (R110, R111) -/

theorem Snapshot.plane_get (sn : Snapshot) (b : BayNo) :
    sn.plane.get b = ((sn.grants.find? fun cg => cg.1.bay == b).map entryOf).getD PlaneEntry.blank := ofFn_get ..

/-- What a pass raises a bay above its committed setpoint is what the walk raised its candidate. -/
theorem Snapshot.plane_raised (sn : Snapshot) (b : BayNo) :
    (sn.plane.get b).value - (sn.bays.get b).k =
      ((sn.grants.find? fun cg => cg.1.bay == b).map fun cg => cg.2 - cg.1.k).getD 0 := by
  rw [Snapshot.plane_get]
  cases hfound : sn.grants.find? fun cg => cg.1.bay == b with
  | none => exact Nat.zero_sub _
  | some cg =>
    have hbay : cg.1.bay = b := beq_iff_eq.1 (List.find?_some (p := fun cg : Candidate × Nat => cg.1.bay == b) hfound)
    have hk := Snapshot.k_of_mem_grants (List.mem_of_find?_eq_some hfound)
    rw [hbay] at hk
    rw [← hk]
    rfl

/-- The late correction lowers a value or keeps it. -/
theorem lateCorrect_value_le (e : PlaneEntry) (bay : BayRecord) : (lateCorrect e bay).value ≤ e.value := by
  unfold lateCorrect
  split
  · exact Nat.le_refl _
  · split
    · exact Nat.le_refl _
    · exact Nat.zero_le _

/-- Together the published values are above the committed setpoints by no more than the budget is above their sum. -/
theorem State.publishedPlane_raised_le (s : State) (sn : Snapshot) :
    sumBays (fun b => ((s.publishedPlane sn).get b).value - (sn.bays.get b).k) ≤ sn.budget - sn.sumK := by
  calc sumBays (fun b => ((s.publishedPlane sn).get b).value - (sn.bays.get b).k)
    _ ≤ sumBays (fun b => (sn.plane.get b).value - (sn.bays.get b).k) := sumBays_le fun b => by
      rw [State.publishedPlane_get]
      exact Nat.sub_le_sub_right (lateCorrect_value_le _ _) _
    _ = sumBays (fun b => ((sn.grants.find? fun cg => cg.1.bay == b).map fun cg => cg.2 - cg.1.k).getD 0) :=
      congrArg sumBays (funext sn.plane_raised)
    _ ≤ (sn.grants.map fun cg => cg.2 - cg.1.k).sum :=
      sumBays_find?_le (fun cg : Candidate × Nat => cg.1.bay) (fun cg => cg.2 - cg.1.k) sn.grants
    _ ≤ ((sn.budget : Int) - (sn.sumK : Int)).toNat := commitWalk_raised_le sn.desired _
    _ = sn.budget - sn.sumK := by omega

/-- Settles O33: each bay in service adds its committed setpoint and what it is raised above it. -/
theorem publishedPlaneIsBounded : Obligations.PublishedPlaneIsBounded := by
  intro s sn hpass
  have hfront : (s.publish sn).allocator.front = s.publishedPlane sn := by rw [State.publish_allocator]
  refine ⟨s.publish sn, exec_publication hpass, ?_⟩
  rw [hfront, ← Snapshot.sumK_eq]
  have hbay : ∀ b, (if (sn.bays.get b).state = .disabled then 0 else max ((s.publishedPlane sn).get b).value (sn.bays.get b).k) ≤
      (if (sn.bays.get b).state = .disabled then 0 else (sn.bays.get b).k) +
        (((s.publishedPlane sn).get b).value - (sn.bays.get b).k) := fun b => by
    split
    · exact Nat.zero_le _
    · omega
  have hsum := sumBays_le hbay
  have hraised := s.publishedPlane_raised_le sn
  rw [sumBays_add, ← Snapshot.sumK_eq] at hsum
  omega

end Sys2Proof.Machine
end

section
/-!
PROOF. A pass visits its candidates in their order, through the stages and the commit walk, and writes their entries (R104 to R109).
-/

namespace Sys2Proof.Machine

open Sys2Proof

/-! ### The order (R104) -/

/-- The candidate of a bay, read off the snapshot. -/
theorem Snapshot.candidate_reads {sn : Snapshot} {c : Candidate} (h : sn.candidate c.bay = some c) :
    (sn.bays.get c.bay).boundTag = some c.tag ∧ (sn.bays.get c.bay).agreedMode = some c.mode ∧
      c = sn.candidateAt c.bay c.tag c.mode := by
  obtain ⟨_, t, m, htag, hmode, hc⟩ := Snapshot.candidate_eq_some.1 h
  have hfields : c.tag = t ∧ c.mode = m := by
    rw [hc]
    exact ⟨rfl, rfl⟩
  obtain ⟨rfl, rfl⟩ := hfields
  exact ⟨htag, hmode, hc⟩

/-- The bays of the order are those with a candidate. -/
theorem Snapshot.mem_order_bays {sn : Snapshot} {b : BayNo} :
    b ∈ sn.order.map Candidate.bay ↔
      (sn.bays.get b).state = .plugged ∧ (sn.bays.get b).boundTag ≠ none ∧ (sn.bays.get b).agreedMode ≠ none := by
  simp only [List.mem_map, Snapshot.mem_order]
  constructor
  · rintro ⟨c, hc, rfl⟩
    obtain ⟨hstate, t, m, htag, hmode, _⟩ := Snapshot.candidate_eq_some.1 hc
    exact ⟨hstate, by simp [htag], by simp [hmode]⟩
  · rintro ⟨hstate, htag, hmode⟩
    obtain ⟨t, htag⟩ := Option.ne_none_iff_exists'.1 htag
    obtain ⟨m, hmode⟩ := Option.ne_none_iff_exists'.1 hmode
    exact ⟨sn.candidateAt b t m, Snapshot.candidate_eq_some.2 ⟨hstate, t, m, htag, hmode, rfl⟩, rfl⟩

theorem bookingAt_candidate {sn : Snapshot} {c : Candidate} (h : sn.candidate c.bay = some c) : bookingAt sn c.bay = c.booking := by
  obtain ⟨htag, _, _⟩ := Snapshot.candidate_reads h
  rw [bookingAt, htag, Snapshot.booking_of_mem (Snapshot.mem_candidates.2 h)]
  rfl

theorem rankAt_candidate {sn : Snapshot} {c : Candidate} (h : sn.candidate c.bay = some c) :
    rankAt sn c.bay = sn.bookings.findIdx? fun k => k.tag == c.tag := by
  rw [rankAt, (Snapshot.candidate_reads h).1]
  rfl

theorem plugInAt_candidate {sn : Snapshot} {c : Candidate} (h : sn.candidate c.bay = some c) : plugInAt sn c.bay = c.plugIn := by
  obtain ⟨_, _, hc⟩ := Snapshot.candidate_reads h
  rw [hc]
  rfl

/-- A candidate has a rank when it is booked. -/
theorem rankAt_isSome {sn : Snapshot} {c : Candidate} (h : sn.candidate c.bay = some c) :
    (rankAt sn c.bay).isSome = c.booking.isSome := by
  rw [rankAt_candidate h, Snapshot.booking_of_mem (Snapshot.mem_candidates.2 h), Snapshot.bookingOf, Bool.eq_iff_iff,
    List.findIdx?_isSome, List.any_eq_true, List.find?_isSome]

/-- Where no two bookings are of one tag, the rank of a candidate is the place of the booking of its tag. -/
theorem rankAt_of_booking {sn : Snapshot} (hn : (sn.bookings.map BookingSnap.tag).Nodup) {c : Candidate}
    (h : sn.candidate c.bay = some c) {i : Nat} (hi : i < sn.bookings.length) (htag : c.tag = sn.bookings[i].tag) :
    rankAt sn c.bay = some i := by
  rw [rankAt_candidate h, List.findIdx?_eq_some_iff_getElem]
  refine ⟨hi, beq_iff_eq.2 htag.symm, fun j hji => ?_⟩
  have hne := List.pairwise_iff_getElem.1 (List.pairwise_map.1 hn) j i (by omega) hi hji
  rwa [htag, Bool.not_eq_true, beq_eq_false_iff_ne]

/-- Before another candidate by rank: the rank is lower, or the bay number at one rank. -/
theorem ahead_of_ranks {sn : Snapshot} {a b : BayNo} {i j : Nat} (ha : rankAt sn a = some i) (hb : rankAt sn b = some j)
    (h : i < j ∨ (i = j ∧ a < b)) : Ahead sn a b := by
  unfold Ahead
  rwa [ha, hb]

theorem ahead_of_booked {sn : Snapshot} {a b : BayNo} {i : Nat} (ha : rankAt sn a = some i) (hb : rankAt sn b = none) :
    Ahead sn a b := by
  unfold Ahead
  rw [ha, hb]
  trivial

theorem ahead_of_unbooked {sn : Snapshot} {a b : BayNo} (ha : rankAt sn a = none) (hb : rankAt sn b = none)
    (h : plugInAt sn a < plugInAt sn b ∨ (plugInAt sn a = plugInAt sn b ∧ a < b)) : Ahead sn a b := by
  unfold Ahead
  rwa [ha, hb]

theorem Ahead.ne {sn : Snapshot} {a b : BayNo} (h : Ahead sn a b) : a ≠ b := by
  rintro rfl
  unfold Ahead at h
  cases hr : rankAt sn a <;> simp [hr] at h

/-- The candidates stand by bay number. -/
theorem Snapshot.candidates_sorted (sn : Snapshot) : sn.candidates.Pairwise fun a b => a.bay < b.bay := by
  refine List.pairwise_filterMap.2 ((List.pairwise_lt_finRange 48).imp fun {i j} hij a ha b hb => ?_)
  obtain ⟨_, _, _, _, _, rfl⟩ := Snapshot.candidate_eq_some.1 ha
  obtain ⟨_, _, _, _, _, rfl⟩ := Snapshot.candidate_eq_some.1 hb
  exact hij

/-- The booked candidates stand in the order of their ranks. -/
theorem Snapshot.bookedOrder_sorted {sn : Snapshot} (hn : (sn.bookings.map BookingSnap.tag).Nodup) :
    sn.bookedOrder.Pairwise fun a b => Ahead sn a.bay b.bay := by
  have hrank : ∀ i (hi : i < sn.bookings.length), ∀ c ∈ sn.candidates.filter (fun c => c.tag == sn.bookings[i].tag),
      rankAt sn c.bay = some i := fun i hi c hc => by
    obtain ⟨hc, htag⟩ := List.mem_filter.1 hc
    exact rankAt_of_booking hn (Snapshot.mem_candidates.1 hc) hi (beq_iff_eq.1 htag)
  refine List.pairwise_flatMap.2 ⟨fun k hk => ?_, List.pairwise_iff_getElem.2 fun i j hi hj hij a ha b hb => ?_⟩
  · obtain ⟨i, hi, rfl⟩ := List.getElem_of_mem hk
    exact (sn.candidates_sorted.filter _).imp_of_mem fun ha hb hab =>
      ahead_of_ranks (hrank i hi _ ha) (hrank i hi _ hb) (.inr ⟨rfl, hab⟩)
  · exact ahead_of_ranks (hrank i hi a ha) (hrank j hj b hb) (.inl hij)

/-- By plug-in time, and by bay number at one time. -/
def Candidate.pluggedBefore (a b : Candidate) : Prop := a.plugIn < b.plugIn ∨ (a.plugIn = b.plugIn ∧ a.bay < b.bay)

theorem insertByPlugIn_sorted {c : Candidate} {l : List Candidate} (hl : l.Pairwise Candidate.pluggedBefore)
    (hc : ∀ x ∈ l, x.bay < c.bay) : (insertByPlugIn c l).Pairwise Candidate.pluggedBefore := by
  induction l with
  | nil => exact List.pairwise_singleton _ _
  | cons x rest ih =>
    obtain ⟨hx, hrest⟩ := List.pairwise_cons.1 hl
    rw [insertByPlugIn]
    split
    · next hlt =>
      refine List.pairwise_cons.2 ⟨fun y hy => .inl ?_, hl⟩
      obtain rfl | hy := List.mem_cons.1 hy
      · exact hlt
      · have hxy := hx y hy
        unfold Candidate.pluggedBefore at hxy
        omega
    · next hle =>
      refine List.pairwise_cons.2 ⟨fun y hy => ?_, ih hrest fun y hy => hc y (List.mem_cons_of_mem _ hy)⟩
      obtain rfl | hy := List.mem_cons.1 ((insertByPlugIn_perm c rest).mem_iff.1 hy)
      · exact (Nat.lt_or_eq_of_le (Nat.le_of_not_lt hle)).imp_right fun he => ⟨he, hc x List.mem_cons_self⟩
      · exact hx y hy

theorem foldl_insertByPlugIn_sorted {l acc : List Candidate} (hl : l.Pairwise fun a b => a.bay < b.bay)
    (hacc : acc.Pairwise Candidate.pluggedBefore) (hlow : ∀ x ∈ acc, ∀ y ∈ l, x.bay < y.bay) :
    (l.foldl (fun acc c => insertByPlugIn c acc) acc).Pairwise Candidate.pluggedBefore := by
  induction l generalizing acc with
  | nil => exact hacc
  | cons c rest ih =>
    obtain ⟨hc, hrest⟩ := List.pairwise_cons.1 hl
    refine ih hrest (insertByPlugIn_sorted hacc fun x hx => hlow x hx c List.mem_cons_self) fun x hx y hy => ?_
    obtain rfl | hx := List.mem_cons.1 ((insertByPlugIn_perm c acc).mem_iff.1 hx)
    · exact hc y hy
    · exact hlow x hx y (List.mem_cons_of_mem _ hy)

/-- The candidates stand in the order of R104. -/
theorem Snapshot.order_sorted {sn : Snapshot} (hn : (sn.bookings.map BookingSnap.tag).Nodup) :
    sn.order.Pairwise fun a b => Ahead sn a.bay b.bay := by
  have hunbooked : ∀ c ∈ sortByPlugIn (sn.candidates.filter fun c => c.booking.isNone),
      sn.candidate c.bay = some c ∧ rankAt sn c.bay = none := fun c hc => by
    obtain ⟨hmem, hnone⟩ := List.mem_filter.1 (mem_sortByPlugIn.1 hc)
    have hcandidate := Snapshot.mem_candidates.1 hmem
    rw [← Option.isNone_iff_eq_none, ← Option.not_isSome, rankAt_isSome hcandidate, Option.not_isSome]
    exact ⟨hcandidate, hnone⟩
  refine List.pairwise_append.2 ⟨Snapshot.bookedOrder_sorted hn, ?_, fun a ha b hb => ?_⟩
  · have hsorted := foldl_insertByPlugIn_sorted (sn.candidates_sorted.filter fun c => c.booking.isNone) List.Pairwise.nil (by simp)
    refine hsorted.imp_of_mem fun {a b} ha hb hab => ?_
    obtain ⟨hca, hra⟩ := hunbooked a ha
    obtain ⟨hcb, hrb⟩ := hunbooked b hb
    refine ahead_of_unbooked hra hrb ?_
    rwa [plugInAt_candidate hca, plugInAt_candidate hcb]
  · obtain ⟨hmem, hbooked⟩ := Snapshot.mem_bookedOrder.1 ha
    rw [← rankAt_isSome (Snapshot.mem_candidates.1 hmem)] at hbooked
    obtain ⟨i, hi⟩ := Option.isSome_iff_exists.1 hbooked
    exact ahead_of_booked hi (hunbooked b hb).2

theorem Snapshot.order_candidateOrder {sn : Snapshot} (hn : (sn.bookings.map BookingSnap.tag).Nodup) :
    CandidateOrder sn (sn.order.map Candidate.bay) := by
  have hsorted := List.pairwise_map.2 (Snapshot.order_sorted hn)
  exact ⟨hsorted.imp Ahead.ne, hsorted, fun _ => Snapshot.mem_order_bays⟩

/-! ### Visiting the candidates -/

/-- Candidates visited in order: each has from `value` its figure, by what those ahead of it have left. -/
def VisitedInOrder {ρ : Type} (value : Candidate → ρ → Nat) (left : ρ → Candidate → Nat → ρ) (figure : BayNo → Nat) :
    List Candidate → ρ → Prop
  | [], _ => True
  | c :: rest, r => figure c.bay = value c r ∧ VisitedInOrder value left figure rest (left r c (figure c.bay))

section

variable {ρ : Type} {value : Candidate → ρ → Nat} {left : ρ → Candidate → Nat → ρ} {figure : BayNo → Nat}

/-- Only the figures of the bays visited matter. -/
theorem VisitedInOrder.congr {figure' : BayNo → Nat} {cs : List Candidate} {r : ρ} (h : VisitedInOrder value left figure cs r)
    (he : ∀ c ∈ cs, figure' c.bay = figure c.bay) : VisitedInOrder value left figure' cs r := by
  induction cs generalizing r with
  | nil => trivial
  | cons c rest ih =>
    obtain ⟨hc, hrest⟩ := h
    rw [VisitedInOrder, he c List.mem_cons_self]
    exact ⟨hc, ih hrest fun x hx => he x (List.mem_cons_of_mem _ hx)⟩

/-- Candidates of different bays can be visited. -/
theorem exists_visited (value : Candidate → ρ → Nat) (left : ρ → Candidate → Nat → ρ) {cs : List Candidate}
    (hn : (cs.map Candidate.bay).Nodup) (r : ρ) : ∃ figure, VisitedInOrder value left figure cs r := by
  induction cs generalizing r with
  | nil => exact ⟨fun _ => 0, trivial⟩
  | cons c rest ih =>
    obtain ⟨hc, hrest⟩ := List.nodup_cons.1 hn
    obtain ⟨figure, hfigure⟩ := ih hrest (left r c (value c r))
    have hself : Function.update figure c.bay (value c r) c.bay = value c r := Function.update_self ..
    refine ⟨Function.update figure c.bay (value c r), hself, ?_⟩
    rw [hself]
    exact hfigure.congr fun x hx =>
      Function.update_of_ne (fun e : x.bay = c.bay => hc (e ▸ List.mem_map_of_mem (f := Candidate.bay) hx)) ..

/-- The figure of one candidate, from those of the candidates ahead of it. -/
theorem VisitedInOrder.figure_eq {before after : List Candidate} {c : Candidate} {r : ρ}
    (h : VisitedInOrder value left figure (before ++ c :: after) r) :
    figure c.bay = value c (before.foldl (fun r x => left r x (figure x.bay)) r) := by
  induction before generalizing r with
  | nil => exact h.1
  | cons x rest ih => exact ih h.2

end

/-- What a stage leaves of the budget behind a grant. -/
def spend (r : Nat) (_ : Candidate) (g : Nat) : Nat := r - g

theorem foldl_spend (figure : BayNo → Nat) (cs : List Candidate) (r : Nat) :
    cs.foldl (fun r c => spend r c (figure c.bay)) r = r - sumOver figure (cs.map Candidate.bay) := by
  induction cs generalizing r with
  | nil => rfl
  | cons c rest ih => exact (ih _).trans (Nat.sub_sub ..)

/-- A stage over candidates that the stages before it have changed. -/
theorem visitAll_of_visited {grant : Candidate → Nat → Nat} {take : Candidate → Nat → Candidate} {f : Candidate → Candidate}
    {figure : BayNo → Nat} {cs : List Candidate} {r : Nat} (h : VisitedInOrder (fun c => grant (f c)) spend figure cs r) :
    visitAll grant take (cs.map f) r =
      (cs.map fun c => take (f c) (figure c.bay), r - sumOver figure (cs.map Candidate.bay)) := by
  induction cs generalizing r with
  | nil => rfl
  | cons c rest ih =>
    obtain ⟨hc, hrest⟩ : figure c.bay = grant (f c) r ∧ _ := h
    rw [List.map_cons, visitAll, ← hc]
    have hrest := ih hrest
    rw [spend] at hrest
    rw [hrest, Nat.sub_sub]
    rfl

/-- What the walk gives a candidate: raised by what is available, and without a charging part below the minimum run (R108). -/
def walkValue (c : Candidate) (available : Int) : Nat := dropSmallCharge c (walkGrant c available).1

/-- What stays available behind a candidate: less what it is raised above its committed setpoint. -/
def walkLeft (available : Int) (c : Candidate) (g : Nat) : Int := available - ((g - c.k : Nat) : Int)

theorem foldl_walkLeft (figure k : BayNo → Nat) {cs : List Candidate} (hk : ∀ c ∈ cs, c.k = k c.bay) (available : Int) :
    cs.foldl (fun a c => walkLeft a c (figure c.bay)) available =
      available - (sumOver (fun b => figure b - k b) (cs.map Candidate.bay) : Int) := by
  induction cs generalizing available with
  | nil => exact (Int.sub_zero _).symm
  | cons c rest ih =>
    rw [List.foldl_cons, ih (fun x hx => hk x (List.mem_cons_of_mem _ hx)), walkLeft, hk c List.mem_cons_self, sumOver, sumOver,
      List.map_cons, List.map_cons, List.sum_cons]
    omega

theorem commitWalk_of_visited {f : Candidate → Candidate} (hk : ∀ c, (f c).k = c.k) {figure : BayNo → Nat} {cs : List Candidate}
    {available : Int} (h : VisitedInOrder (fun c => walkValue (f c)) walkLeft figure cs available) :
    commitWalk (cs.map f) available = cs.map fun c => (f c, figure c.bay) := by
  induction cs generalizing available with
  | nil => rfl
  | cons c rest ih =>
    obtain ⟨hc, hrest⟩ : figure c.bay = dropSmallCharge (f c) (walkGrant (f c) available).1 ∧ _ := h
    rw [List.map_cons, commitWalk, ← hc]
    rw [hk, List.map_cons]
    exact congrArg _ (ih hrest)

/-! ### The stages of a candidate (R105 to R108) -/

theorem stage0Grant_eq (sn : Snapshot) (c : Candidate) (left : Nat) :
    stage0Grant sn c left = preconditionPart sn c.booking c.ceiling left := by
  unfold stage0Grant preconditionPart
  rfl

/-- A grant below the minimum run becomes the minimum run where that fits, and nothing otherwise (R106). -/
theorem minimumRunStep_eq (need grant minimumRun room : Nat) :
    minimumRunStep need grant minimumRun room =
      if need = 0 then 0
      else if minimumRun ≤ grant then grant
      else if minimumRun ≤ room then minimumRun
      else 0 := by
  unfold minimumRunStep
  split_ifs <;> omega

theorem stage1Grant_eq (sn : Snapshot) (c : Candidate) (left : Nat) :
    stage1Grant sn c left = needPart sn c.booking c.lastEnergy c.minimumRun (min (c.ceiling - c.d) left) := by
  unfold stage1Grant needPart
  cases c.booking with
  | none => rfl
  | some k =>
    dsimp only
    rw [minimumRunStep_eq, ite_or]
    rfl

theorem stage2Grant_eq (c : Candidate) (left : Nat) :
    stage2Grant c left = topUpPart c.booking (c.d - c.p) c.minimumRun (min (c.ceiling - c.d) left) := by
  have hready : (!c.topsUp) = true ↔ ∃ k, c.booking = some k ∧ k.state = .ready := by
    unfold Candidate.topsUp
    cases c.booking <;> simp
  unfold stage2Grant topUpPart
  dsimp only
  rw [ite_or]
  exact if_congr hready rfl rfl

/-- The value of the walk, from the desired grant and the committed setpoint. -/
theorem walkValue_eq (c : Candidate) (available : Int) :
    walkValue c available =
      let raised := if c.d ≤ c.k then c.d else c.k + min (c.d - c.k) available.toNat
      let held := min c.p raised
      if held < raised ∧ raised - held < c.minimumRun then held else raised := by
  have hraised : (walkGrant c available).1 = if c.d ≤ c.k then c.d else c.k + min (c.d - c.k) available.toNat := by
    unfold walkGrant
    split <;> rfl
  unfold walkValue dropSmallCharge
  simp only [hraised, Nat.sub_pos_iff_lt]

/-! ### The pass -/

/-- A candidate with the grants of the three stages. -/
def Candidate.withGrants (pre need top : BayNo → Nat) (c : Candidate) : Candidate :=
  takeCharge (takeCharge (takePrecondition c (pre c.bay)) (need c.bay)) (top c.bay)

/-- The grants of the stages and the values of the walk, by bay: each candidate's from what those ahead of it have left. -/
structure Snapshot.Passes (sn : Snapshot) (pre need top given : BayNo → Nat) : Prop where
  preconditions : VisitedInOrder (stage0Grant sn) spend pre sn.order sn.budget
  needs : VisitedInOrder (fun c => stage1Grant sn (takePrecondition c (pre c.bay))) spend need sn.order
    (sn.budget - sumOver pre (sn.order.map Candidate.bay))
  topUps : VisitedInOrder (fun c => stage2Grant (takeCharge (takePrecondition c (pre c.bay)) (need c.bay))) spend top sn.order
    (sn.budget - sumOver pre (sn.order.map Candidate.bay) - sumOver need (sn.order.map Candidate.bay))
  walk : VisitedInOrder (fun c => walkValue (c.withGrants pre need top)) walkLeft given sn.order
    ((sn.budget : Int) - (sn.sumK : Int))

theorem Snapshot.exists_passes {sn : Snapshot} (hn : (sn.order.map Candidate.bay).Nodup) :
    ∃ pre need top given, sn.Passes pre need top given := by
  obtain ⟨pre, hpre⟩ := exists_visited (stage0Grant sn) spend hn sn.budget
  obtain ⟨need, hneed⟩ := exists_visited (fun c => stage1Grant sn (takePrecondition c (pre c.bay))) spend hn
    (sn.budget - sumOver pre (sn.order.map Candidate.bay))
  obtain ⟨top, htop⟩ := exists_visited (fun c => stage2Grant (takeCharge (takePrecondition c (pre c.bay)) (need c.bay))) spend hn
    (sn.budget - sumOver pre (sn.order.map Candidate.bay) - sumOver need (sn.order.map Candidate.bay))
  obtain ⟨given, hgiven⟩ := exists_visited (fun c => walkValue (c.withGrants pre need top)) walkLeft hn
    ((sn.budget : Int) - (sn.sumK : Int))
  exact ⟨pre, need, top, given, hpre, hneed, htop, hgiven⟩

theorem Snapshot.k_of_mem_order {sn : Snapshot} {c : Candidate} (h : c ∈ sn.order) : c.k = (sn.bays.get c.bay).k := by
  obtain ⟨_, _, hc⟩ := Snapshot.candidate_reads (Snapshot.mem_order.1 h)
  rw [hc]
  rfl

namespace Snapshot.Passes

variable {sn : Snapshot} {pre need top given : BayNo → Nat} (h : sn.Passes pre need top given)

include h

theorem desired_eq : sn.desired = sn.order.map (Candidate.withGrants pre need top) := by
  have hpre := visitAll_of_visited (take := takePrecondition) (f := id) h.preconditions
  have hneed := visitAll_of_visited (take := takeCharge) h.needs
  have htop := visitAll_of_visited (take := takeCharge) h.topUps
  rw [List.map_id] at hpre
  rw [Snapshot.desired, hpre]
  dsimp only [id]
  rw [hneed, htop]
  rfl

theorem grants_eq : sn.grants = sn.order.map fun c => (c.withGrants pre need top, given c.bay) := by
  rw [Snapshot.grants, h.desired_eq]
  exact commitWalk_of_visited (f := Candidate.withGrants pre need top) (fun _ => rfl) h.walk

/-- A bay without a candidate has a blank entry (R109). -/
theorem plane_of_not_mem {b : BayNo} (hb : b ∉ sn.order.map Candidate.bay) : sn.plane.get b = PlaneEntry.blank := by
  have hnone : sn.grants.find? (fun cg => cg.1.bay == b) = none := by
    rw [h.grants_eq, List.find?_eq_none]
    rintro _ hmem
    obtain ⟨c, hc, rfl⟩ := List.mem_map.1 hmem
    exact fun he => hb (List.mem_map.2 ⟨c, hc, beq_iff_eq.1 he⟩)
  rw [Snapshot.plane_get, hnone]
  rfl

variable {before after : List Candidate} {c : Candidate} (hs : sn.order = before ++ c :: after)

include hs

/-- The entry of a candidate has the value that the walk gave it (R109). -/
theorem plane_eq (hn : (sn.order.map Candidate.bay).Nodup) :
    sn.plane.get c.bay =
      { value := given c.bay, tag := some c.tag, mode := some c.mode
        preconditionOn := decide (0 < min (pre c.bay) (given c.bay)) } := by
  have hahead : ∀ x ∈ before, x.bay ≠ c.bay := fun x hx he => by
    rw [hs, List.map_append, List.map_cons] at hn
    obtain ⟨_, _, hapart⟩ := List.nodup_append.1 hn
    exact hapart _ (List.mem_map_of_mem hx) _ List.mem_cons_self he
  have hfound : sn.grants.find? (fun cg => cg.1.bay == c.bay) = some (c.withGrants pre need top, given c.bay) := by
    have hkey : ((fun cg : Candidate × Nat => cg.1.bay == c.bay) ∘ fun x : Candidate => (x.withGrants pre need top, given x.bay)) =
        fun x => x.bay == c.bay := rfl
    have hnone : before.find? (fun x => x.bay == c.bay) = none :=
      List.find?_eq_none.2 fun x hx he => hahead x hx (beq_iff_eq.1 he)
    have hself : (c :: after).find? (fun x => x.bay == c.bay) = some c := List.find?_cons_of_pos (beq_self_eq_true c.bay)
    rw [h.grants_eq, hs, List.find?_map, hkey, List.find?_append, hnone, Option.none_or, hself]
    rfl
  rw [Snapshot.plane_get, hfound]
  rfl

theorem pre_eq : pre c.bay = preconditionPart sn c.booking c.ceiling (sn.budget - sumOver pre (before.map Candidate.bay)) := by
  have hvisit := h.preconditions
  rw [hs] at hvisit
  rw [hvisit.figure_eq, foldl_spend, stage0Grant_eq]

theorem need_eq :
    need c.bay = needPart sn c.booking c.lastEnergy c.minimumRun
      (min (c.ceiling - pre c.bay)
        (sn.budget - sumOver pre (sn.order.map Candidate.bay) - sumOver need (before.map Candidate.bay))) := by
  have hvisit := h.needs
  generalize sn.budget - sumOver pre (sn.order.map Candidate.bay) = r at *
  rw [hs] at hvisit
  rw [hvisit.figure_eq, foldl_spend, stage1Grant_eq]
  rfl

theorem top_eq :
    top c.bay = topUpPart c.booking (need c.bay) c.minimumRun
      (min (c.ceiling - (pre c.bay + need c.bay))
        (sn.budget - sumOver pre (sn.order.map Candidate.bay) - sumOver need (sn.order.map Candidate.bay) -
          sumOver top (before.map Candidate.bay))) := by
  have hvisit := h.topUps
  have hcharge : (takeCharge (takePrecondition c (pre c.bay)) (need c.bay)).d -
      (takeCharge (takePrecondition c (pre c.bay)) (need c.bay)).p = need c.bay := Nat.add_sub_cancel_left ..
  generalize sn.budget - sumOver pre (sn.order.map Candidate.bay) - sumOver need (sn.order.map Candidate.bay) = r at *
  rw [hs] at hvisit
  rw [hvisit.figure_eq, foldl_spend, stage2Grant_eq, hcharge]
  rfl

theorem given_eq :
    given c.bay =
      let available : Int := (sn.budget : Int) - (sn.sumK : Int) -
        (sumOver (fun b => given b - (sn.bays.get b).k) (before.map Candidate.bay) : Int)
      let desired := pre c.bay + need c.bay + top c.bay
      let raised := if desired ≤ c.k then desired else c.k + min (desired - c.k) available.toNat
      let held := min (pre c.bay) raised
      if held < raised ∧ raised - held < c.minimumRun then held else raised := by
  have hk : ∀ x ∈ before, x.k = (sn.bays.get x.bay).k := fun x hx =>
    Snapshot.k_of_mem_order (hs ▸ List.mem_append_left _ hx)
  have hvisit := h.walk
  rw [hs] at hvisit
  rw [hvisit.figure_eq, foldl_walkLeft given (fun b => (sn.bays.get b).k) hk, walkValue_eq]
  rfl

end Snapshot.Passes

/-- Settles O30: the order of the candidates, then each stage and the walk at the candidate of the bay. -/
theorem passFollowsTheStages : Obligations.PassFollowsTheStages := by
  intro sn hn
  have horder := Snapshot.order_candidateOrder hn
  obtain ⟨pre, need, top, given, h⟩ := Snapshot.exists_passes horder.1
  refine ⟨_, pre, need, top, given, horder, fun b hb => h.plane_of_not_mem hb, fun before b after m hsplit hm => ?_⟩
  obtain ⟨ahead, rest, hs, rfl, hrest⟩ := List.map_eq_append_iff.1 hsplit
  obtain ⟨c, behind, rfl, rfl, rfl⟩ := List.map_eq_cons_iff.1 hrest
  have hmem : c ∈ sn.order := hs ▸ List.mem_append_right _ List.mem_cons_self
  have hcandidate := Snapshot.mem_order.1 hmem
  obtain ⟨htag, hmode, hc⟩ := Snapshot.candidate_reads hcandidate
  obtain rfl : c.mode = m := Option.some.inj (hmode.symm.trans hm)
  have hfigures : c.ceiling = min (sn.bays.get c.bay).cap (min (sn.modeEntry c.mode).maximum (sn.bays.get c.bay).postCeiling) ∧
      c.minimumRun = (sn.modeEntry c.mode).minimumRun ∧ c.k = (sn.bays.get c.bay).k ∧
      c.lastEnergy = (sn.bays.get c.bay).lastEnergy := by
    rw [hc]
    exact ⟨rfl, rfl, rfl, rfl⟩
  obtain ⟨hceiling, hleast, hk, henergy⟩ := hfigures
  dsimp only
  rw [bookingAt_candidate hcandidate, ← hceiling, ← hleast, ← hk, ← henergy, ← Snapshot.sumK_eq, htag]
  exact ⟨h.pre_eq hs, h.need_eq hs, h.top_eq hs, h.given_eq hs, h.plane_eq hs horder.1⟩

end Sys2Proof.Machine
end

section
/-!
PROOF. The Depot Clock at a tick, and the plan that runs out (R13, R122, R123, R127; log entries 8, 36 and 41).
-/

namespace Sys2Proof.Machine

open Sys2Proof

/-- What was dirty still is. -/
theorem Tracks.dirty {s t : State} (h : Tracks false s t) {r : RecordId} (hr : s.mirror.dirty.has r = true) :
    t.mirror.dirty.has r = true := by
  obtain ht | ⟨hclean, _⟩ := h.records r nofun
  · exact ht
  · exact absurd (hclean.symm.trans hr) nofun

/-! ### Depot time and the stale timer (R122, R123, R127) -/

theorem advanceDepot_toNat (t : Word) (length : Nat) :
    (advanceDepot t length).toNat = min 4294967295 (t.toNat + length) := by
  unfold advanceDepot
  split
  · next hpast => exact (min_eq_left hpast.le).symm
  · next hwithin => rw [BitVec.toNat_ofNat, Nat.mod_eq_of_lt (by omega), min_eq_right (by omega)]

/-- The clock with its plan AUTONOMOUS and the stale timer at 0. -/
def DepotClock.expired (c : DepotClock) : DepotClock := { c with plan := .autonomous, staleTimer := 0 }

/-- The clock as its stale timer takes a tick: a PLANNED plan under supervision gathers the interval length, or runs out (R127). -/
def DepotClock.staleTicked (c : DepotClock) (p : Params) : DepotClock :=
  if c.plan = .planned ∧ p.planStalePeriod ≠ 0 then
    if p.planStalePeriod ≤ c.staleTimer + p.intervalLength then c.expired
    else { c with staleTimer := c.staleTimer + p.intervalLength }
  else c

theorem DepotClock.staleTicked_of_autonomous {c : DepotClock} (h : c.plan = .autonomous) (p : Params) : c.staleTicked p = c :=
  if_neg (by simp [h])

theorem DepotClock.staleTicked_of_unsupervised (c : DepotClock) {p : Params} (h : p.planStalePeriod = 0) : c.staleTicked p = c :=
  if_neg (by simp [h])

theorem DepotClock.staleTicked_of_planned {c : DepotClock} {p : Params} (hplan : c.plan = .planned) (hperiod : p.planStalePeriod ≠ 0) :
    c.staleTicked p =
      if p.planStalePeriod ≤ c.staleTimer + p.intervalLength then c.expired
      else { c with staleTimer := c.staleTimer + p.intervalLength } := if_pos ⟨hplan, hperiod⟩

/-- The stale timer's step reaches plan and stale timer alone. -/
theorem DepotClock.staleTicked_only (c : DepotClock) (p : Params) :
    c.staleTicked p = { c with plan := (c.staleTicked p).plan, staleTimer := (c.staleTicked p).staleTimer } := by
  unfold DepotClock.staleTicked
  split
  · split <;> rfl
  · rfl

/-- Depot time and the interval number moved on, with limit reached noted (R122, R123). -/
def DepotClock.advanced (c : DepotClock) (p : Params) : DepotClock :=
  { c with
    depotSeconds := advanceDepot c.depotSeconds p.intervalLength
    interval := c.interval + 1
    limitReached := c.limitReached || decide (advanceDepot c.depotSeconds p.intervalLength = maxDepot) }

/-- The clock that a tick leaves. -/
def DepotClock.ticked (c : DepotClock) (p : Params) : DepotClock := (c.advanced p).staleTicked p

/-- A tick leaves the clock valid or not as it was, and the timer running. -/
theorem DepotClock.ticked_advances (c : DepotClock) (p : Params) :
    (c.ticked p).depotSeconds = advanceDepot c.depotSeconds p.intervalLength ∧ (c.ticked p).interval = c.interval + 1 ∧
      (c.ticked p).valid = c.valid ∧ (c.ticked p).timerRunning = c.timerRunning := by
  rw [DepotClock.ticked, DepotClock.staleTicked_only]
  exact ⟨rfl, rfl, rfl, rfl⟩

@[simp] theorem State.planExpired_clock (s : State) : s.planExpired.clock = s.clock.expired := by
  simp [State.planExpired, State.updClock, DepotClock.expired]

/-- The stale timer's step of a PLANNED plan under supervision, by whether the period is reached (R127). -/
theorem State.stepStale_of_planned {s : State} (hplan : s.clock.plan = .planned) (hperiod : s.config.loaded.planStalePeriod ≠ 0) :
    s.stepStale =
      if s.config.loaded.planStalePeriod ≤ s.clock.staleTimer + s.config.loaded.intervalLength then s.timerStepped.planExpired
      else s.timerStepped := by
  have hdue : s.timerStepped.staleDue = true ↔
      s.config.loaded.planStalePeriod ≤ s.clock.staleTimer + s.config.loaded.intervalLength :=
    s.timerStepped.staleDue_iff.trans ((and_iff_right hplan).trans (and_iff_right hperiod))
  unfold State.stepStale
  rw [hplan]
  exact (if_neg hperiod).trans (if_congr hdue rfl rfl)

theorem State.stepStale_staleTicked (s : State) : s.stepStale.clock = s.clock.staleTicked s.config.loaded := by
  cases hplan : s.clock.plan with
  | autonomous => rw [State.stepStale, DepotClock.staleTicked_of_autonomous hplan, hplan]
  | planned =>
    by_cases hperiod : s.config.loaded.planStalePeriod = 0
    · rw [State.stepStale, DepotClock.staleTicked_of_unsupervised _ hperiod, hplan]
      exact congrArg State.clock (if_pos hperiod)
    rw [State.stepStale_of_planned hplan hperiod, DepotClock.staleTicked_of_planned hplan hperiod]
    split
    · exact s.timerStepped.planExpired_clock
    · rfl

theorem State.tickIn_clock (s : State) (order : TickOrder) : (s.tickIn order).clock = s.clock.ticked s.config.loaded := by
  have hadvanced : s.clockAdvanced.clockLimit.clock = s.clock.advanced s.config.loaded := s.clockAdvanced.clockLimit_clock
  have hconfig : s.clockAdvanced.clockLimit.config = s.config := by simp [State.clockAdvanced]
  have hclock : (s.tickIn order).clock = s.clockTick.clock := by simp [State.tickIn]
  rw [hclock, State.clockTick_eq, State.mark_clock, State.stepStale_staleTicked, hadvanced, hconfig, DepotClock.ticked]

/-! ### The tick at Roster and header (R13, R122) -/

@[simp] theorem State.agingStep_agingPosition (s : State) :
    s.agingStep.roster.agingPosition = s.roster.agingPosition + 1 := rfl

/-- In every order of the blocks the aging position rises by one. -/
theorem State.blocksTick_agingPosition (s : State) (order : TickOrder) :
    (s.blocksTick order).roster.agingPosition = s.roster.agingPosition + 1 := by
  obtain ⟨_, x, _, hroster, _, _, haged⟩ := s.blocksTick_scans order
  rw [haged, State.agingStep_agingPosition, hroster]

theorem State.tickIn_agingPosition (s : State) (order : TickOrder) :
    (s.tickIn order).roster.agingPosition = s.roster.agingPosition + 1 := by
  simp [State.tickIn, State.blocksTick_agingPosition]

/-- The header that the clock marks at a tick stays dirty behind the blocks and the set without codes. -/
theorem State.tickIn_header (s : State) (order : TickOrder) : (s.tickIn order).mirror.dirty.has .header = true :=
  (((Tracks.refl s.clockTick).blocksTick order).tickSample).dirty rfl

/-! ### The expiry (R127; log entry 8) -/

/-- What the expiry of a plan does. -/
theorem State.planExpired_spec (s : State) :
    s.planExpired = { s with clock := s.planExpired.clock, mirror := s.planExpired.mirror } ∧
      s.planExpired.mirror.dirty.has .header = true ∧
      Raises s.mirror s.planExpired.mirror (plainAlert s (.planStale s.config.loaded.planStalePeriod)) :=
  ⟨State.eq_of_fields (by simp [State.planExpired]), State.raise_mark_header _ _ _ _,
    ((MarksOnly.refl (s.updClock DepotClock.expired)).mark .header).raises _ none none⟩

/-- Settles O11: the clock by its own work at the tick, which the blocks leave; the aging position by the Roster's step; and the
command PLAN_STALE by the expiry that is due. -/
theorem tickAdvancesTheClock : Obligations.TickAdvancesTheClock := by
  refine ⟨fun s hrunning => ?_, fun s hstopped => ?_, fun s hplan hperiod hdue => ?_⟩
  · have hclock : (s.draw.tickIn (Config.tickOrder s.draws)).clock = s.clock.ticked s.config.loaded := s.draw.tickIn_clock _
    obtain ⟨hdepot, hinterval, hvalid, htimer⟩ := s.clock.ticked_advances s.config.loaded
    obtain ⟨hpath, hintake, hconfig, hmemory, _⟩ := s.draw.tickIn_keeps (Config.tickOrder s.draws)
    refine ⟨_, exec_tick_running hrunning, ?_⟩
    rw [hclock]
    refine ⟨?_, hinterval, hvalid, htimer.trans hrunning, s.draw.tickIn_header _, s.draw.tickIn_agingPosition _, hmemory, hpath,
      hintake, hconfig, fun hplan => ?_, fun hplan hperiod => ?_, fun hplan hperiod => ?_⟩
    · exact (congrArg BitVec.toNat hdepot).trans (advanceDepot_toNat _ _)
    · have hkept : s.clock.ticked s.config.loaded = s.clock.advanced s.config.loaded :=
        DepotClock.staleTicked_of_autonomous (c := s.clock.advanced _) hplan _
      rw [hkept]
      exact ⟨hplan, rfl⟩
    · have hkept : s.clock.ticked s.config.loaded = s.clock.advanced s.config.loaded :=
        DepotClock.staleTicked_of_unsupervised _ hperiod
      rw [hkept]
      exact ⟨hplan, rfl⟩
    · have hstepped : s.clock.ticked s.config.loaded =
          if s.config.loaded.planStalePeriod ≤ s.clock.staleTimer + s.config.loaded.intervalLength then
            (s.clock.advanced s.config.loaded).expired
          else { s.clock.advanced s.config.loaded with staleTimer := s.clock.staleTimer + s.config.loaded.intervalLength } :=
        DepotClock.staleTicked_of_planned hplan hperiod
      rw [hstepped]
      by_cases hreached : s.config.loaded.planStalePeriod ≤ s.clock.staleTimer + s.config.loaded.intervalLength
      · rw [if_pos hreached, if_pos hreached]
        exact ⟨rfl, rfl⟩
      · rw [if_neg hreached, if_neg hreached]
        exact ⟨hplan, rfl⟩
  · exact congrArg Host.Outcome.next (if_neg (by simp [hstopped]))
  · have hexec : exec .planStale s = .next s.planExpired :=
      congrArg Host.Outcome.next (if_pos (s.staleDue_iff.2 ⟨hplan, hperiod, hdue⟩))
    obtain ⟨honly, hheader, hraises⟩ := s.planExpired_spec
    exact ⟨_, hexec, s.planExpired_clock, honly, hheader, hraises⟩

end Sys2Proof.Machine
end

section
/-!
PROOF. SET CLOCK: the depot time that it sets and the time that it is answered with (R125).
-/

namespace Sys2Proof.Machine

open Sys2Proof

/-- The clock with depot time set: valid, and limit reached no longer where the time is below the maximum (R125). -/
def DepotClock.timed (c : DepotClock) (w : Word) : DepotClock :=
  { c with depotSeconds := w, valid := true, limitReached := if w = maxDepot then c.limitReached else false }

theorem State.setDepotTime_eq (s : State) (w : Word) :
    s.setDepotTime w = (s.updClock fun c => c.timed w).clockLimit.mark .header := rfl

/-- The clock that SET CLOCK leaves. -/
theorem State.setDepotTime_clock (s : State) (w : Word) :
    (s.setDepotTime w).clock = { s.clock with depotSeconds := w, valid := true, limitReached := decide (w = maxDepot) } := by
  have hlimit : ((s.clock.timed w).limitReached || decide (w = maxDepot)) = decide (w = maxDepot) := by
    by_cases htop : w = maxDepot
    · rw [decide_eq_true htop, Bool.or_true]
    · rw [decide_eq_false htop, Bool.or_false]
      exact if_neg htop
  rw [State.setDepotTime_eq, State.mark_clock, State.clockLimit_clock, ← hlimit]
  rfl

theorem DepotClock.timed_limitReached (c : DepotClock) (w : Word) :
    (w = maxDepot ∧ (c.timed w).limitReached = false) ↔ w = maxDepot ∧ c.limitReached = false :=
  and_congr_right fun htop => by rw [DepotClock.timed, if_pos htop]

/-- CLOCK LIMIT comes at the maximum unless it had been reached, and otherwise the ring stays. -/
theorem State.setDepotTime_ring (s : State) (w : Word) :
    if w = maxDepot ∧ s.clock.limitReached = false then
      ∃ m, Raises s.mirror m { kind := .clockLimit, bay := none, tag := none, time := w } ∧ OnlyDirty m (s.setDepotTime w).mirror
    else OnlyDirty s.mirror (s.setDepotTime w).mirror := by
  have hlimit := (s.updClock fun c => c.timed w).clockLimit_eq
  have hcond : ((s.updClock fun c => c.timed w).clock.depotSeconds = maxDepot ∧
      (s.updClock fun c => c.timed w).clock.limitReached = false) ↔ w = maxDepot ∧ s.clock.limitReached = false :=
    s.clock.timed_limitReached w
  rw [if_congr hcond rfl rfl] at hlimit
  rw [State.setDepotTime_eq, hlimit]
  split
  · exact ⟨_, State.raise_raises _ .clockLimit none none, State.mark_onlyDirty _ _⟩
  · exact State.mark_onlyDirty _ _

/-- Storing a result reaches dirty set and backlog alone. -/
theorem State.storeResult_mirror (s : State) (n : SlotNo) (code : ResultCode) (detail : Nat) :
    (s.storeResult n code detail).mirror =
      { s.mirror with
        dirty := (s.storeResult n code detail).mirror.dirty, backlog := (s.storeResult n code detail).mirror.backlog } := by
  unfold State.storeResult
  split <;> rfl

/-- A change of the dirty set, and then a result, reach dirty set and backlog alone. -/
theorem OnlyDirty.storeResult {m : MirrorWriter} {x : State} (h : OnlyDirty m x.mirror) (n : SlotNo) (code : ResultCode) (detail : Nat) :
    (x.storeResult n code detail).mirror =
      { m with
        dirty := (x.storeResult n code detail).mirror.dirty, backlog := (x.storeResult n code detail).mirror.backlog } := by
  have hstored := x.storeResult_mirror n code detail
  have honly : x.mirror = { m with dirty := x.mirror.dirty } := h
  rw [honly] at hstored
  exact hstored

/-- SET CLOCK is taken by the clock. -/
theorem Requested.setClock {s : State} {n : SlotNo} {req : Request} {rest : List SlotNo} (h : Requested s n req rest)
    (hcode : req.code = 0x10) :
    exec .setClock s =
      .next ((s.dequeue.setDepotTime (req.words.get 0)).storeResult n .done s.clock.depotSeconds.toNat) :=
  congrArg Host.Outcome.next (h.takeRequest _ (by simp [hcode]))

/-- Settles O14: depot time is set, and the result is stored behind it. -/
theorem setClockSetsDepotTime : Obligations.SetClockSetsDepotTime := by
  intro s n req rest h hcode
  refine ⟨_, h.setClock hcode, ?_, ?_, ?_, ?_, ?_⟩
  · exact State.storeResult_answered h (by simp) (by simp) (by simp) _ _
  · simp only [State.storeResult_keeps, State.setDepotTime_clock, State.dequeue_keeps]
    rfl
  · exact State.storeResult_dirty rfl _ _ _
  · exact State.eq_of_fields (by simp)
  · have hring := s.dequeue.setDepotTime_ring (req.words.get 0)
    by_cases hlimit : req.words.get 0 = 4294967295 ∧ s.clock.limitReached = false
    · rw [if_pos hlimit]
      obtain ⟨m, hraises, honly⟩ := (if_pos hlimit).mp hring
      exact ⟨m, hlimit.1 ▸ hraises, honly.storeResult _ _ _⟩
    · rw [if_neg hlimit]
      exact ((if_neg hlimit).mp hring).storeResult _ _ _

end Sys2Proof.Machine
end

section
/-!
PROOF. Captured writes of the plan window: where the captured words lie, how a host write of one comes to the port, and what the
heartbeat and the alert consumer index do there (R127, R130, R133, R136, R148; log entries 18 to 20).
-/

namespace Sys2Proof.Machine

open Sys2Proof

/-! ### The captured words (R130, R133) -/

theorem PlanWord.offset_slotWord (n : SlotNo) (v : Fin 8) : (PlanWord.slotWord n v).offset = 64 + 32 * n.val + 4 * v.val := rfl

theorem PlanWord.offset_lt (w : PlanWord) : w.offset < 576 := by
  cases w with
  | heartbeat => decide
  | consumerIndex => decide
  | slotWord n v =>
    rw [PlanWord.offset_slotWord]
    omega

theorem PlanWord.offset_aligned (w : PlanWord) : w.offset % 4 = 0 := by
  cases w with
  | heartbeat => rfl
  | consumerIndex => rfl
  | slotWord n v =>
    rw [PlanWord.offset_slotWord]
    omega

/-- The word at a captured word's offset is that word. -/
theorem PlanWord.planWordAt_offset (w : PlanWord) : planWordAt w.offset = some w := by
  cases w with
  | heartbeat => rfl
  | consumerIndex => rfl
  | slotWord n v =>
    have hword : (PlanWord.slotWord n v).offset / 4 = 16 + 8 * n.val + v.val := by
      rw [PlanWord.offset_slotWord]
      omega
    have hslot : Fin.ofNat 16 ((16 + 8 * n.val + v.val - 16) / 8) = n := Fin.ext (by simp only [Fin.val_ofNat]; omega)
    have hv : Fin.ofNat 8 ((16 + 8 * n.val + v.val - 16) % 8) = v := Fin.ext (by simp only [Fin.val_ofNat]; omega)
    unfold planWordAt
    dsimp only
    rw [hword, if_neg (by omega), if_neg (by omega), if_pos (by omega), hslot, hv]

/-- A captured word's address lies at its offset from the window's base. -/
theorem PathUnit.planAddr_sub (p : PathUnit) (w : PlanWord) : (p.planAddr w - p.planBase).toNat = w.offset := by
  have hlt := w.offset_lt
  have hsub : p.planAddr w - p.planBase = BitVec.ofNat 24 w.offset := by
    unfold PathUnit.planAddr
    rw [BitVec.add_comm, BitVec.add_sub_cancel]
  rw [hsub, BitVec.toNat_ofNat, Nat.mod_eq_of_lt (by omega)]

theorem PathUnit.planAddr_inPlan (p : PathUnit) (w : PlanWord) : p.inPlan (p.planAddr w) = true := by
  have hlt := w.offset_lt
  have hsub := p.planAddr_sub w
  simp only [PathUnit.inPlan, decide_eq_true_eq]
  omega

section

variable {s : State} (hlaw : WindowLaw s) (w : PlanWord)

include hlaw

/-- A captured word stands at an aligned address. -/
theorem WindowLaw.planAddr_aligned : wordAligned (s.path.planAddr w) = true := by
  obtain ⟨hplan, _, _⟩ := hlaw
  have hlt := w.offset_lt
  have haligned := w.offset_aligned
  simp only [wordAligned, PathUnit.planAddr, BitVec.toNat_add, BitVec.toNat_ofNat, beq_iff_eq]
  omega

/-- A captured word lies outside the mirror window. -/
theorem WindowLaw.planAddr_outside : s.path.inMirror (s.path.planAddr w) = false := by
  obtain ⟨hplan, hmirror, hapart⟩ := hlaw
  have hlt := w.offset_lt
  rw [PathUnit.inMirror, decide_eq_false_iff_not, PathUnit.planAddr]
  simp only [BitVec.toNat_sub, BitVec.toNat_add, BitVec.toNat_ofNat] at *
  omega

end

/-! ### The way to the port (R130, R136) -/

/-- Where no access of the host is outstanding, none is held. -/
theorem PathUnit.heldRead_of_not_outstanding {p : PathUnit} (h : p.outstanding = false) : p.heldRead = none := by
  simp only [PathUnit.outstanding, Bool.or_eq_false_iff, Option.isSome_eq_false_iff, Option.isNone_iff_eq_none] at h
  obtain ⟨⟨hheld, _⟩, _⟩ := h
  exact hheld

/-- The Path Unit with the port granted to a host access, `depth` words standing in the backlog (R136; log entry 20). -/
def PathUnit.granted (p : PathUnit) (depth : Nat) (a : HostAccess) : PathUnit :=
  { p with waiting := none, port := .host a, backlogOwed := p.alternation }.followDepth depth

theorem PathUnit.granted_spec (p : PathUnit) (depth : Nat) (a : HostAccess) : Granted p (p.granted depth a) depth a := by
  unfold Granted PathUnit.granted PathUnit.followDepth alternationAfter
  split
  · next hfull =>
    have hdeep : 16 < depth := by omega
    simp [hfull, hdeep]
  split
  · next hfull hshallow => simp [hfull, Nat.not_lt.2 hshallow]
  · next hfull hshallow => simp [hfull, Nat.not_le.1 hshallow]

/-- The part with the port granted to a host access, before anything is captured. -/
def State.granted (s : State) (a : HostAccess) : State := { s with path := s.path.granted s.mirror.backlog.length a }

/-- A claimant whose turn it is takes the port, and its write is captured (R133, R136). -/
theorem HostFirst.claimPort {s : State} (h : HostFirst s) (hheld : s.path.heldRead = none) (a : HostAccess) :
    s.claimPort a = (s.granted a).capture a := by
  obtain ⟨hfree, howed⟩ := h
  have hchoice : (s.updPath fun p => { p with waiting := some a }).arbiterChoice = .host a := by
    have hturn : (s.path.alternation && s.path.backlogOwed && !s.mirror.backlog.isEmpty) = false := by
      simpa [and_assoc] using howed
    simp [State.arbiterChoice, State.updPath, hheld, hturn]
  unfold State.claimPort State.arbitrate
  rw [hchoice]
  simp only [State.updPath, hfree]
  rfl

/-- A claimant at a BUSY port waits (R133). -/
theorem State.claimPort_of_busy {s : State} (h : s.path.port ≠ .free) (a : HostAccess) :
    s.claimPort a = { s with path := { s.path with waiting := some a } } := by
  unfold State.claimPort State.arbitrate
  cases hport : s.path.port with
  | free => exact absurd hport h
  | host b => simp [State.updPath, hport]
  | backlog b => simp [State.updPath, hport]

/-- A host write of a captured word, in WATCHING mode. -/
def State.planWrite (s : State) (w : PlanWord) (data : Word) (enables : BitVec 4) : HostAccess :=
  { write := true, addr := s.path.planAddr w, data := data, enables := enables, watched := true }

/-- The port's grant moves neither window. -/
theorem PathUnit.granted_planBase (p : PathUnit) (depth : Nat) (a : HostAccess) : (p.granted depth a).planBase = p.planBase := by
  rw [p.granted_spec depth a]

/-- What the grant of such a write captures (R133). -/
theorem State.capture_planWrite (s : State) (w : PlanWord) (data : Word) (enables : BitVec 4) :
    (s.granted (s.planWrite w data enables)).capture (s.planWrite w data enables) =
      (s.granted (s.planWrite w data enables)).captureWord w data enables := by
  have hbase : (s.granted (s.planWrite w data enables)).path.planBase = s.path.planBase := PathUnit.granted_planBase _ _ _
  have hin : (s.granted (s.planWrite w data enables)).path.inPlan (s.planWrite w data enables).addr = true := by
    rw [PathUnit.inPlan, hbase]
    exact s.path.planAddr_inPlan w
  have hword : planWordAt ((s.planWrite w data enables).addr - (s.granted (s.planWrite w data enables)).path.planBase).toNat =
      some w := by
    rw [hbase, State.planWrite, PathUnit.planAddr_sub, PlanWord.planWordAt_offset]
  unfold State.capture
  rw [hin, hword]
  rfl

theorem State.planWrite_heartbeat (s : State) (data : Word) (enables : BitVec 4) :
    s.planWrite .heartbeat data enables =
      { write := true, addr := s.path.planBase, data := data, enables := enables, watched := true } := by
  have haddr : s.path.planAddr .heartbeat = s.path.planBase := BitVec.add_zero _
  rw [State.planWrite, haddr]

theorem State.planWrite_consumerIndex (s : State) (data : Word) (enables : BitVec 4) :
    s.planWrite .consumerIndex data enables =
      { write := true, addr := s.path.planBase + 4, data := data, enables := enables, watched := true } := rfl

/-- Capture leaves the port with the access that it captures. -/
theorem State.captureWord_granted (s : State) (a : HostAccess) (w : PlanWord) (data : Word) (enables : BitVec 4) :
    Granted s.path ((s.granted a).captureWord w data enables).path s.mirror.backlog.length a := by
  have hpath : ((s.granted a).captureWord w data enables).path = s.path.granted s.mirror.backlog.length a := by
    simp [State.granted]
  rw [hpath]
  exact PathUnit.granted_spec ..

section

variable {s : State} (hwatching : s.path.watching = true) (hlaw : WindowLaw s) (hout : s.path.outstanding = false) (w : PlanWord)
  (data : Word) (enables : BitVec 4)

include hwatching hlaw hout

/-- A write of a captured word claims the port. -/
theorem State.hostAccess_planWrite :
    s.hostAccess true (s.path.planAddr w) data enables = .next (s.claimPort (s.planWrite w data enables)) := by
  unfold State.hostAccess State.arrive State.watchedAccess State.planWrite
  simp [hlaw.planAddr_aligned w, hlaw.planAddr_outside w, hout, hwatching]

/-- Granted when it arrives, it is captured (R133). -/
theorem HostFirst.planWrite (hfirst : HostFirst s) :
    s.hostAccess true (s.path.planAddr w) data enables =
      .next ((s.granted (s.planWrite w data enables)).captureWord w data enables) := by
  rw [State.hostAccess_planWrite hwatching hlaw hout, hfirst.claimPort (PathUnit.heldRead_of_not_outstanding hout),
    State.capture_planWrite]

/-- At a BUSY port it waits uncaptured (R133). -/
theorem State.planWrite_waits (hbusy : s.path.port ≠ .free) :
    s.hostAccess true (s.path.planAddr w) data enables =
      .next { s with path := { s.path with waiting := some (s.planWrite w data enables) } } := by
  rw [State.hostAccess_planWrite hwatching hlaw hout, State.claimPort_of_busy hbusy]

end

/-! ### The heartbeat (R127) -/

/-- The clock with its plan PLANNED and the stale timer at 0. -/
def DepotClock.planned (c : DepotClock) : DepotClock := { c with plan := .planned, staleTimer := 0 }

/-- A forwarded write restarts the stale timer, and returns an AUTONOMOUS plan to PLANNED with PLAN BACK (R127). -/
theorem State.forwardWrite_forwarded (s : State) (w : PlanWrite) :
    Forwarded s (s.forwardWrite w).clock (s.forwardWrite w).mirror w := by
  cases hplan : s.clock.plan with
  | planned =>
    have hwrite : s.forwardWrite w = s.updClock fun c => { c with staleTimer := 0 } := by rw [State.forwardWrite, hplan]
    rw [Forwarded, hwrite, hplan]
    exact ⟨by rw [← hplan]; rfl, rfl⟩
  | autonomous =>
    have hwrite : s.forwardWrite w = ((s.updClock DepotClock.planned).mark .header).raise (.planBack w) none none := by
      rw [State.forwardWrite, hplan]
      rfl
    rw [Forwarded, hwrite, hplan]
    exact ⟨by simp [State.updClock, DepotClock.planned], State.raise_mark_header _ _ _ _,
      ((MarksOnly.refl (s.updClock DepotClock.planned)).mark .header).raises _ none none⟩

/-- Capture of the heartbeat. -/
theorem State.captureHeartbeat_taken (s : State) (enables : BitVec 4) : HeartbeatTaken s (s.captureHeartbeat enables) enables := by
  refine ⟨by simp, fun hnone => ?_, fun hsome => ?_⟩
  · rw [State.captureHeartbeat, if_pos hnone]
    exact ⟨rfl, rfl⟩
  · rw [State.captureHeartbeat, if_neg hsome]
    exact s.forwardWrite_forwarded .heartbeat

/-! ### The alert consumer index (R148; log entries 18 and 19) -/

/-- How far one ring index stands ahead of another. -/
theorem ringIx_sub_val (i j : RingIx) : (i - j).val = (i.val + 64 - j.val) % 64 := by
  rw [Fin.val_sub]
  omega

/-- A proposal is legal when it is a ring index no further ahead of the consumer than the producer is. -/
theorem MirrorWriter.legalProposal_iff (m : MirrorWriter) (v : Word) :
    m.legalProposal v = true ↔
      v.toNat < 64 ∧ (v.toNat + 64 - m.consumer.val) % 64 ≤ (m.producer.val + 64 - m.consumer.val) % 64 := by
  rw [MirrorWriter.legalProposal, Bool.and_eq_true, decide_eq_true_eq, decide_eq_true_eq, MirrorWriter.unconsumed, ringIx_sub_val,
    ringIx_sub_val, Fin.val_ofNat]
  exact and_congr_right fun hindex => by rw [Nat.mod_eq_of_lt hindex]

/-- The part with the consumer index moved and the header marked, before OVERFLOW is stored. -/
def State.consumerMoved (s : State) (i : RingIx) : State := (s.updMirror fun m => { m with consumer := i }).mark .header

/-- A proposed consumer index, by whether it is legal and new (R148). -/
theorem State.proposeConsumer_eq (s : State) (v : Word) :
    s.proposeConsumer v =
      if s.mirror.legalProposal v = true ∧ v.toNat ≠ s.mirror.consumer.val then (s.consumerMoved (Fin.ofNat 64 v.toNat)).storeOverflow
      else s := by
  unfold State.proposeConsumer
  by_cases hlegal : s.mirror.legalProposal v = true
  · have hindex := ((s.mirror.legalProposal_iff v).1 hlegal).1
    have hpresent : Fin.ofNat 64 v.toNat = s.mirror.consumer ↔ v.toNat = s.mirror.consumer.val := by
      rw [Fin.ext_iff, Fin.val_ofNat, Nat.mod_eq_of_lt hindex]
    rw [if_pos hlegal]
    by_cases hsame : v.toNat = s.mirror.consumer.val
    · rw [if_pos (hpresent.2 hsame), if_neg fun h => h.2 hsame]
    · rw [if_neg (mt hpresent.1 hsame), if_pos ⟨hlegal, hsame⟩]
      rfl
  · rw [if_neg hlegal, if_neg fun h => hlegal h.1]

/-- The part with OVERFLOW stored: the flag is clear, the lost count 0 and the header dirty. -/
def State.overflowStored (s : State) : State :=
  ((s.storeAlert (plainAlert s (.overflow s.mirror.lostCount))).updMirror fun m => { m with overflow := false, lostCount := 0 }).mark
    .header

/-- OVERFLOW is stored where the flag is set and the ring has room (R148). -/
theorem State.storeOverflow_eq (s : State) :
    s.storeOverflow =
      if s.mirror.overflow = true ∧ (s.mirror.producer.val + 64 - s.mirror.consumer.val) % 64 < 63 then s.overflowStored else s := by
  rw [← ringIx_sub_val]
  rfl

/-- A consumer index that is taken: it stands, the header is dirty, and OVERFLOW is stored where the flag is set and the index makes
room (R148). -/
theorem State.consumerMoved_storeOverflow (s : State) (i : RingIx) :
    let t := (s.consumerMoved i).storeOverflow
    t.mirror.consumer = i ∧ t.mirror.dirty.has .header = true ∧
      if s.mirror.overflow = true ∧ (s.mirror.producer.val + 64 - i.val) % 64 < 63 then
        t.mirror.alerts = vput s.mirror.alerts s.mirror.producer (some (plainAlert s (.overflow s.mirror.lostCount))) ∧
        t.mirror.producer = s.mirror.producer + 1 ∧ t.mirror.overflow = false ∧ t.mirror.lostCount = 0
      else
        t.mirror.alerts = s.mirror.alerts ∧ t.mirror.producer = s.mirror.producer ∧
        t.mirror.overflow = s.mirror.overflow ∧ t.mirror.lostCount = s.mirror.lostCount := by
  have hstored : (s.consumerMoved i).storeOverflow =
      if s.mirror.overflow = true ∧ (s.mirror.producer.val + 64 - i.val) % 64 < 63 then (s.consumerMoved i).overflowStored
      else s.consumerMoved i := State.storeOverflow_eq _
  dsimp only
  rw [hstored]
  by_cases hroom : s.mirror.overflow = true ∧ (s.mirror.producer.val + 64 - i.val) % 64 < 63
  · rw [if_pos hroom, if_pos hroom]
    exact ⟨rfl, rfl, rfl, rfl, rfl, rfl⟩
  · rw [if_neg hroom, if_neg hroom]
    exact ⟨rfl, rfl, rfl, rfl, rfl, rfl⟩

/-- Capture of the alert consumer index: the merged value is proposed. -/
theorem State.captureConsumer_taken (s : State) (data : Word) (enables : BitVec 4) :
    ConsumerTaken s (s.captureConsumer data enables) data enables := by
  have hlegal := s.mirror.legalProposal_iff (mergeWord s.intake.consumerShadow data enables)
  have hcapture : s.captureConsumer data enables =
      if s.mirror.legalProposal (mergeWord s.intake.consumerShadow data enables) = true ∧
          (mergeWord s.intake.consumerShadow data enables).toNat ≠ s.mirror.consumer.val then
        ((s.mergeConsumer data enables).consumerMoved
          (Fin.ofNat 64 (mergeWord s.intake.consumerShadow data enables).toNat)).storeOverflow
      else s.mergeConsumer data enables := State.proposeConsumer_eq ..
  refine ⟨by simp, by simp [State.captureConsumer, State.mergeConsumer], ?_⟩
  dsimp only
  rw [← hlegal, hcapture]
  refine ⟨fun hillegal => ?_, fun _ hpresent => ?_, fun htaken hnew => ?_⟩
  · rw [if_neg fun h => hillegal h.1]
    rfl
  · rw [if_neg fun h => h.2 hpresent]
    rfl
  · rw [if_pos ⟨htaken, hnew⟩]
    have hstands := Nat.mod_eq_of_lt (hlegal.1 htaken).1
    obtain ⟨hconsumer, hheader, hroom⟩ := (s.mergeConsumer data enables).consumerMoved_storeOverflow
      (Fin.ofNat 64 (mergeWord s.intake.consumerShadow data enables).toNat)
    rw [Fin.val_ofNat, hstands] at hroom
    exact ⟨(congrArg Fin.val hconsumer).trans hstands, hheader, hroom⟩

/-! ### The writes at the port -/

/-- Settles O17: both words' writes come to the port as any captured word's, and are captured there or wait. -/
theorem heartbeatAndConsumerIndexAreCaptured : Obligations.HeartbeatAndConsumerIndexAreCaptured := by
  intro s data enables hwatching hlaw hout
  have hheartbeat := s.planWrite_heartbeat data enables
  have hconsumer := s.planWrite_consumerIndex data enables
  dsimp only
  rw [← hheartbeat, ← hconsumer]
  refine ⟨fun hfirst => ⟨?_, ?_⟩, fun hbusy => ⟨?_, ?_⟩⟩
  · exact ⟨_, hfirst.planWrite hwatching hlaw hout .heartbeat data enables, s.captureWord_granted _ _ _ _,
      State.eq_of_fields (by simp [State.granted, State.captureWord]), State.captureHeartbeat_taken _ _⟩
  · exact ⟨_, hfirst.planWrite hwatching hlaw hout .consumerIndex data enables, s.captureWord_granted _ _ _ _,
      State.eq_of_fields (by simp [State.granted, State.captureWord]), State.captureConsumer_taken _ _ _⟩
  · exact State.planWrite_waits hwatching hlaw hout .heartbeat data enables hbusy
  · exact State.planWrite_waits hwatching hlaw hout .consumerIndex data enables hbusy

end Sys2Proof.Machine
end

section
/-!
PROOF. The Path Unit's moves (R130 to R137): what each of its operations sets, the four things that the arbiter can do, and the
ways in which a command can reach the Path Unit and the backlog. Every law of the memory path is read off these.
-/

namespace Sys2Proof.Machine

open Sys2Proof

/-! ### The operations of the Path Unit (R135, R136) -/

/-- A push or a grant sets Alternation by the depth it leaves, and a change to OFF owes no word (R136). -/
theorem PathUnit.followDepth_eq (p : PathUnit) (depth : Nat) :
    p.followDepth depth =
      { p with
        alternation := alternationAfter p.alternation depth, backlogOwed := p.backlogOwed && decide (16 < depth) } := by
  unfold PathUnit.followDepth alternationAfter
  split
  · next hfull =>
    have hdeep : 16 < depth := by omega
    simp [hfull, hdeep]
  split
  · next hfull hshallow => simp [hfull, Nat.not_lt.2 hshallow]
  · next hfull hshallow => simp [hfull, Nat.not_le.1 hshallow]

/-- The fence covers an address when the record that it names does. -/
theorem PathUnit.fenceCovers_iff (p : PathUnit) (addr : Addr) :
    p.fenceCovers addr = true ↔ ∃ r, p.fence = some r ∧ r.covers p.mirrorBase addr = true := by
  unfold PathUnit.fenceCovers
  cases p.fence <;> simp

/-- The model's test for a fenced read. -/
theorem readsFenced_iff (p : PathUnit) (a : HostAccess) :
    ReadsFenced p a ↔ (a.watched && !a.write && p.fenceCovers a.addr) = true := by
  simp [ReadsFenced, PathUnit.fenceCovers_iff, and_assoc]

/-- A CLOSED fence holds no read. -/
theorem not_readsFenced_of_closed {p : PathUnit} (h : p.fence = none) (a : HostAccess) : ¬ReadsFenced p a := by
  rintro ⟨_, _, r, hr, _⟩
  cases h.symm.trans hr

/-- An access judged UNWATCHED is not held. -/
theorem not_readsFenced_of_unwatched {a : HostAccess} (h : a.watched = false) (p : PathUnit) : ¬ReadsFenced p a := by
  rintro ⟨hw, _⟩
  cases h.symm.trans hw

/-- A waiting fenced read becomes the held read; any other claimant waits on (R135; log entry 27). -/
theorem PathUnit.holdCovered_cases (p : PathUnit) :
    (∃ a, p.waiting = some a ∧ ReadsFenced p a ∧ p.holdCovered = { p with waiting := none, heldRead := some a }) ∨
      ((∀ a, p.waiting = some a → ¬ReadsFenced p a) ∧ p.holdCovered = p) := by
  unfold PathUnit.holdCovered
  cases hwaiting : p.waiting with
  | none => exact .inr ⟨nofun, rfl⟩
  | some a =>
    dsimp only
    by_cases hfenced : ReadsFenced p a
    · exact .inl ⟨a, rfl, hfenced, if_pos ((readsFenced_iff p a).1 hfenced)⟩
    · refine .inr ⟨fun b hb => ?_, if_neg (mt (readsFenced_iff p a).2 hfenced)⟩
      cases hb
      exact hfenced

theorem PathUnit.holdCovered_of_idle {p : PathUnit} (h : p.waiting = none) : p.holdCovered = p := by
  rw [PathUnit.holdCovered, h]

/-- The Path Unit with the backlog's head on the port, before a fenced claimant is held (R135, R136). -/
def PathUnit.opened (p : PathUnit) (w : BacklogWord) (depth : Nat) : PathUnit :=
  { p with
    port := .backlog w, fence := some (p.fence.getD w.record), alternation := alternationAfter p.alternation depth
    backlogOwed := false }

theorem PathUnit.takeWord_eq (p : PathUnit) (w : BacklogWord) (depth : Nat) :
    p.takeWord w depth = (p.opened w depth).holdCovered := by
  have hfence : fenceAfter p.fence w = some (p.fence.getD w.record) := by cases hf : p.fence <;> rfl
  rw [PathUnit.takeWord, PathUnit.followDepth_eq, hfence]
  rfl

/-- The end of a record's write: the fence CLOSED, and a held read a claimant (R135). -/
theorem PathUnit.closeFence_eq (p : PathUnit) :
    p.closeFence = { p with fence := none, heldRead := none, waiting := p.heldRead.or p.waiting } := by
  unfold PathUnit.closeFence
  cases hheld : p.heldRead with
  | none => simp
  | some a => rfl

/-! ### The arbiter (R136) -/

/-- A word is owed, and the backlog holds one. -/
def State.WordDue (s : State) : Prop :=
  s.path.alternation = true ∧ s.path.backlogOwed = true ∧ s.mirror.backlog ≠ []

/-- The backlog's head goes before the host: a read is held, no access waits, or a word is due. -/
def State.WordFirst (s : State) : Prop := s.path.heldRead ≠ none ∨ s.path.waiting = none ∨ s.WordDue

/-- The four things that the arbiter can do. -/
inductive Arbitrated (s : State) : State → Prop
  | busy (hport : s.path.port ≠ .free) : Arbitrated s s
  | idle (hfree : s.path.port = .free) (hturn : s.WordFirst) (hbacklog : s.mirror.backlog = []) : Arbitrated s s
  | host (a : HostAccess) (hfree : s.path.port = .free) (hheld : s.path.heldRead = none) (hwaiting : s.path.waiting = some a)
      (hdue : ¬s.WordDue) : Arbitrated s ((s.granted a).capture a)
  | word (w : BacklogWord) (rest : List BacklogWord) (hfree : s.path.port = .free) (hturn : s.WordFirst)
      (hbacklog : s.mirror.backlog = w :: rest) : Arbitrated s (s.grantBacklog w rest)

theorem State.wordDue_iff (s : State) :
    s.WordDue ↔ (s.path.alternation && s.path.backlogOwed && !s.mirror.backlog.isEmpty) = true := by
  simp [State.WordDue, and_assoc]

/-- The choice of the arbiter, by whether the backlog goes first. -/
theorem State.arbiterChoice_cases (s : State) :
    (s.WordFirst ∧ s.arbiterChoice = s.mirror.headGrant) ∨
      ∃ a, s.path.heldRead = none ∧ s.path.waiting = some a ∧ ¬s.WordDue ∧ s.arbiterChoice = .host a := by
  unfold State.arbiterChoice
  cases hheld : s.path.heldRead with
  | some b => exact .inl ⟨.inl (by simp [hheld]), rfl⟩
  | none =>
    cases hwaiting : s.path.waiting with
    | none => exact .inl ⟨.inr (.inl hwaiting), rfl⟩
    | some a =>
      by_cases hdue : s.WordDue
      · exact .inl ⟨.inr (.inr hdue), if_pos (s.wordDue_iff.1 hdue)⟩
      · exact .inr ⟨a, rfl, rfl, hdue, if_neg (mt s.wordDue_iff.2 hdue)⟩

theorem State.arbitrated (s : State) : Arbitrated s s.arbitrate := by
  unfold State.arbitrate
  split
  · next hfree =>
    obtain ⟨hturn, hchoice⟩ | ⟨a, hheld, hwaiting, hdue, hchoice⟩ := s.arbiterChoice_cases
    · rw [hchoice]
      cases hbacklog : s.mirror.backlog with
      | nil =>
        rw [MirrorWriter.headGrant, hbacklog]
        exact .idle hfree hturn hbacklog
      | cons w rest =>
        rw [MirrorWriter.headGrant, hbacklog]
        exact .word w rest hfree hturn hbacklog
    · rw [hchoice]
      exact .host a hfree hheld hwaiting hdue
  · next hhost => exact .busy (by simp [hhost])
  · next hword => exact .busy (by simp [hword])

/-- Capture leaves the Path Unit. -/
theorem State.capture_path (s : State) (a : HostAccess) : (s.capture a).path = s.path := by simp

/-- A grant to the host, read off the state. -/
theorem State.granted_path (s : State) (a : HostAccess) :
    ((s.granted a).capture a).path =
      { s.path with
        port := .host a, waiting := none, alternation := alternationAfter s.path.alternation s.mirror.backlog.length
        backlogOwed := s.path.alternation && decide (16 < s.mirror.backlog.length) } := by
  rw [State.capture_path]
  exact PathUnit.granted_spec ..

theorem State.granted_backlog (s : State) (a : HostAccess) :
    ((s.granted a).capture a).mirror.backlog = s.mirror.backlog := by simp [State.granted]

/-- A grant of the backlog's head, read off the state. -/
theorem State.grantBacklog_path (s : State) (w : BacklogWord) (rest : List BacklogWord) :
    (s.grantBacklog w rest).path = (s.path.opened w rest.length).holdCovered := PathUnit.takeWord_eq ..

end Sys2Proof.Machine
end

section
/-!
PROOF. What a command can do to the Path Unit and the backlog: one inversion of `exec`, from which each law of the memory path is
read off.
-/

namespace Sys2Proof.Machine

open Sys2Proof

/-! ### Where the Path Unit rests -/

/-- The Path Unit and the backlog stay, but that the stored result of one slot outdates that slot's words (R141). -/
inductive Rests (s t : State) : Prop
  | same (hpath : t.path = s.path) (hbacklog : t.mirror.backlog = s.mirror.backlog)
  | outdated (n : SlotNo) (hpath : t.path = { s.path with port := s.path.port.outdate n })
      (hbacklog : t.mirror.backlog = s.mirror.backlog.map fun w => w.outdate n)

/-- Storing a result behind an owner that leaves Path Unit and backlog alone. -/
theorem State.storeResult_rests {s x : State} (hpath : x.path = s.path) (hbacklog : x.mirror.backlog = s.mirror.backlog)
    (n : SlotNo) (code : ResultCode) (detail : Nat) : Rests s (x.storeResult n code detail) := by
  cases hbusy : (x.slot n).busy with
  | none =>
    rw [State.storeResult, hbusy]
    exact .same hpath hbacklog
  | some b =>
    rw [State.storeResult_eq x n code detail (phase := b.1) (req := b.2) hbusy]
    exact .outdated n (by rw [hpath]) (by rw [hbacklog])

theorem State.calibrationResult_rests {s x : State} (hpath : x.path = s.path) (hbacklog : x.mirror.backlog = s.mirror.backlog)
    (origin : CalOrigin) (code : ResultCode) (detail : Nat) : Rests s (x.calibrationResult origin code detail) := by
  cases origin with
  | startUp => exact .same hpath hbacklog
  | request n => exact State.storeResult_rests hpath hbacklog n code detail

/-- A command that answers a request changes nothing, or stores its owner's answer in a slot. -/
theorem State.answerRequest_cases (s : State) (is : Request → Bool) (owner : Request → State → Answer) :
    s.answerRequest is owner = s ∨ ∃ n req, s.answerRequest is owner = (owner req s.dequeue).store n := by
  unfold State.answerRequest State.takeRequest
  split
  · exact .inl rfl
  split
  · exact .inr ⟨_, _, rfl⟩
  · exact .inl rfl

/-- Answering a request behind such an owner. -/
theorem Rests.answerRequest {s : State} {is : Request → Bool} {owner : Request → State → Answer}
    (h : ∀ req, (owner req s.dequeue).state.path = s.path ∧ (owner req s.dequeue).state.mirror.backlog = s.mirror.backlog) :
    Rests s (s.answerRequest is owner) := by
  obtain hsame | ⟨n, req, hstored⟩ := s.answerRequest_cases is owner
  · rw [hsame]
    exact .same rfl rfl
  · obtain ⟨hpath, hbacklog⟩ := h req
    rw [hstored]
    exact State.storeResult_rests hpath hbacklog ..

/-- The commands that reach the port: a host access, a completion and a push. -/
def usesPort : Instr → Bool
  | .hostAccess _ _ _ _ | .planWordWrite _ _ _ _ | .heartbeatWrite _ _ | .alertConsumerIndexWrite _ _ | .triggerWrite _ _ _
  | .mirrorWriteStopped _ _ _ | .fencedRead _ | .downstreamCompletion | .recordPush => true
  | _ => false

theorem State.answerSetBay_same {s : State} (r : Request) {action : State → BayNo → State}
    (h : ∀ b, (action s b).path = s.path ∧ (action s b).mirror.backlog = s.mirror.backlog) :
    (s.answerSetBay r action).state.path = s.path ∧ (s.answerSetBay r action).state.mirror.backlog = s.mirror.backlog := by
  unfold State.answerSetBay
  split
  · exact ⟨rfl, rfl⟩
  split
  · exact ⟨rfl, rfl⟩
  · exact h _

/-- The end of a calibration stores one result at most. -/
theorem State.completeCalibration_rests (s : State) (origin : CalOrigin) (a1 a2 a3 : Nat) :
    Rests s (s.completeCalibration origin a1 a2 a3) := by
  unfold State.completeCalibration
  dsimp only
  split <;> exact State.calibrationResult_rests (by simp) (by simp) ..

/-- Every command that neither reaches the port nor resets the part leaves the Path Unit at rest. -/
theorem exec_rests {i : Instr} {s t : State} (h : exec i s = .next t) (hport : usesPort i = false) (hreset : resets i = false) :
    Rests s t := by
  cases i with
  | powerOn _ _ | resetLine _ _ | configImageLoaded _ _ | configReadTimeout | startUpEnd | restart => cases hreset
  | hostAccess _ _ _ _ | planWordWrite _ _ _ _ | heartbeatWrite _ _ | alertConsumerIndexWrite _ _ | triggerWrite _ _ _
    | mirrorWriteStopped _ _ _ | fencedRead _ | downstreamCompletion | recordPush => cases hport
  | book =>
    cases h
    refine .answerRequest fun req => ?_
    unfold State.answerBook State.takeBook
    (repeat' split) <;> simp
  | cancel =>
    cases h
    refine .answerRequest fun req => ?_
    unfold State.answerCancel
    split <;> simp
  | forget =>
    cases h
    refine .answerRequest fun req => ?_
    unfold State.answerForget
    (repeat' split) <;> simp
  | setClock => cases h; exact .answerRequest fun req => by simp [State.answerSetClock]
  | setBayEnable | setBayDisable | setBaySetCap | setBaySetPermittedModes =>
    cases h
    exact .answerRequest fun req => State.answerSetBay_same req fun b => by simp
  | setLimits =>
    cases h
    refine .answerRequest fun req => ?_
    unfold State.answerSetLimits
    (repeat' split) <;> simp
  | unknownRequest => cases h; exact .answerRequest fun req => ⟨rfl, rfl⟩
  | calibrate =>
    cases h
    unfold State.takeRequest
    split
    · exact .same rfl rfl
    split
    · dsimp only
      unfold State.takeCalibrate
      split
      · exact State.storeResult_rests (s := s) (x := s.dequeue) rfl rfl ..
      · exact .same rfl rfl
    · exact .same rfl rfl
  | calibrationCompletion l1 l2 l3 =>
    cases h
    split
    · exact s.completeCalibration_rests ..
    · exact .same rfl rfl
    · exact .same rfl rfl
  | _ =>
    cases h
    (repeat' split) <;> exact .same (by simp) (by simp)

/-! ### Where an access arrives (R131, R132, R134, R135) -/

/-- What becomes of a host access. -/
inductive Arrives (s : State) (a : HostAccess) : State → Prop
  | stopped (hwrite : a.write = true) (hwatched : a.watched = true) (hmirror : s.path.inMirror a.addr = true) :
      Arrives s a (s.stopWrite a)
  | held (hfenced : ReadsFenced s.path a) : Arrives s a (s.updPath fun p => { p with heldRead := some a })
  | claims (hfree : ¬ReadsFenced s.path a) (hout : a.write = true → a.watched = true → s.path.inMirror a.addr = false) :
      Arrives s a (s.claimPort a)

theorem State.arrives (s : State) (write : Bool) (addr : Addr) (data : Word) (enables : BitVec 4) :
    Arrives s { write := write, addr := addr, data := data, enables := enables, watched := s.path.watching }
      (s.arrive write addr data enables) := by
  unfold State.arrive
  dsimp only
  by_cases hwatching : s.path.watching = true
  · rw [if_pos hwatching]
    unfold State.watchedAccess
    cases write with
    | true =>
      by_cases hmirror : s.path.inMirror addr = true
      · rw [if_pos rfl, if_pos hmirror]
        exact .stopped rfl hwatching hmirror
      · rw [if_pos rfl, if_neg hmirror]
        exact .claims (by rintro ⟨_, hread, _⟩; cases hread) fun _ _ => by simpa using hmirror
    | false =>
      by_cases hcovers : s.path.fenceCovers addr = true
      · rw [if_neg (by simp), if_pos hcovers]
        exact .held ⟨hwatching, rfl, (s.path.fenceCovers_iff addr).1 hcovers⟩
      · rw [if_neg (by simp), if_neg hcovers]
        exact .claims (fun ⟨_, _, hcovered⟩ => hcovers ((s.path.fenceCovers_iff addr).2 hcovered)) nofun
  · rw [if_neg hwatching]
    exact .claims (not_readsFenced_of_unwatched (by simpa using hwatching) _) fun _ hw => absurd hw hwatching

/-- An access that is taken finds none outstanding. -/
theorem State.hostAccess_arrives {s t : State} {write : Bool} {addr : Addr} {data : Word} {enables : BitVec 4}
    (h : s.hostAccess write addr data enables = .next t) :
    s.path.outstanding = false ∧
      Arrives s { write := write, addr := addr, data := data, enables := enables, watched := s.path.watching } t := by
  unfold State.hostAccess at h
  split at h
  · cases h
  split at h
  · cases h
  · next hout =>
    cases h
    exact ⟨by simpa using hout, s.arrives ..⟩

/-- A stopped write leaves the Path Unit but for the reply and the guard interval (R134). -/
theorem State.stopWrite_path (s : State) (a : HostAccess) :
    (s.stopWrite a).path =
      { s.path with guardInterval := some s.clock.interval, reply := some { access := a, data := 0 } } := by
  unfold State.stopWrite
  dsimp only
  split
  · next hsame => simp [State.complete, State.updPath, State.updMirror, hsame]
  · simp [State.complete, State.updPath, State.updMirror]

/-! ### Every command -/

/-- What a command does to the Path Unit and the backlog. -/
inductive PathMoves (s : State) : State → Prop
  | rests {t : State} (hrests : Rests s t) (hloading : t.config.step = .loading → s.config.step = .loading) : PathMoves s t
  | arrives {a : HostAccess} {t : State} (hout : s.path.outstanding = false) (hmode : a.watched = s.path.watching)
      (harrives : Arrives s a t) : PathMoves s t
  | hostCompletes {a : HostAccess} (hport : s.path.port = .host a) : PathMoves s (s.freePort.completeHost a).arbitrate
  | wordCompletes {w : BacklogWord} (hport : s.path.port = .backlog w) : PathMoves s (s.freePort.completeBacklog w).arbitrate
  | pushes {r : RecordId} (hpush : s.pushable = some r) : PathMoves s (s.pushRecord r).arbitrate
  | resets (straps : Straps) (level : Level) (offsets : Option Offsets) (g : Generations) :
      PathMoves s (s.startUp straps level offsets g)
  | takesBases {t : State} (plan mirror : Addr) (haligned : plan.toNat % 4096 = 0 ∧ mirror.toNat % 16384 = 0)
      (hapart : 16384 ≤ (plan - mirror).toNat) (hloading : s.config.step = .loading) (hloaded : t.config.step ≠ .loading)
      (hpath : t.path = { s.path with planBase := plan, mirrorBase := mirror }) (hbacklog : t.mirror.backlog = s.mirror.backlog) :
      PathMoves s t
  | watches {t : State} (hserves : t.config.step = .inService) (hpath : t.path = { s.path with watching := true })
      (hbacklog : t.mirror.backlog = s.mirror.backlog) : PathMoves s t
  | restarts {x t : State} (hpath : x.path = s.path.restart) (hbacklog : x.mirror.backlog = s.mirror.backlog) (hrests : Rests x t)
      (hconfig : t.config = s.config) : PathMoves s t

/-- A command leaves the Path Unit alone. -/
theorem PathMoves.refl (s : State) : PathMoves s s := .rests (.same rfl rfl) id

theorem State.takeParams_path (s : State) (p : Params) (src : ConfigSource) :
    (s.takeParams p src).path = { s.path with planBase := p.planWindowBase, mirrorBase := p.mirrorWindowBase } := by
  unfold State.takeParams
  simp only [State.beginStartUpCalibration_keeps]
  rfl

theorem State.configFailed_path (s : State) (reason : ConfigReason) :
    (s.configFailed reason).path =
      { s.path with planBase := Params.defaults.planWindowBase, mirrorBase := Params.defaults.mirrorWindowBase } := by
  rw [← State.takeParams_path s Params.defaults .defaults, State.configFailed]
  simp

/-- Bases at multiples of their windows' lengths stay there in 24 bits. -/
theorem ofNat_toNat_mod {n k : Nat} (h : n % 2 ^ k = 0) (hk : k ≤ 24) : (BitVec.ofNat 24 n).toNat % 2 ^ k = 0 := by
  rw [BitVec.toNat_ofNat, Nat.mod_mod_of_dvd _ (Nat.pow_dvd_pow 2 hk), h]

/-- An image that is used has passed the range checks (R153 check 5). -/
theorem parameterOk_of_inRange {i : List Byte} (h : firstOutOfRange i = none) {n : Nat} (hn : 1 ≤ n ∧ n < 77) :
    parameterOk i n = true := by
  unfold firstOutOfRange at h
  simpa using List.find?_eq_none.1 h n (by simpa [List.mem_range'_1] using hn)

/-- An image that is used gives aligned windows that share no address (R153 checks 5 and 6, R154). -/
theorem checkImage_windows {acked : Bool} {i : List Byte} {p : Params} (h : checkImage acked i = .used p) :
    (p.planWindowBase.toNat % 4096 = 0 ∧ p.mirrorWindowBase.toNat % 16384 = 0) ∧
      16384 ≤ (p.planWindowBase - p.mirrorWindowBase).toNat := by
  unfold checkImage at h
  split_ifs at h with _ _ _ _ hoverlap
  · split at h <;> cases h
  · split at h
    · cases h
    next hrange =>
    cases h
    have hplan : fieldAt i 9 3 % 2 ^ 12 = 0 := by
      simpa [parameterOk, scalarOk] using parameterOk_of_inRange hrange (n := 3) (by omega)
    have hmirror : fieldAt i 12 3 % 2 ^ 14 = 0 := by
      simpa [parameterOk, scalarOk] using parameterOk_of_inRange hrange (n := 4) (by omega)
    exact ⟨⟨ofNat_toNat_mod hplan (by omega), ofNat_toNat_mod hmirror (by omega)⟩, by simpa [windowsOverlap] using hoverlap⟩

/-- The default windows are aligned and share no address (R130). -/
theorem defaults_windows :
    (Params.defaults.planWindowBase.toNat % 4096 = 0 ∧ Params.defaults.mirrorWindowBase.toNat % 16384 = 0) ∧
      16384 ≤ (Params.defaults.planWindowBase - Params.defaults.mirrorWindowBase).toNat := by decide

theorem PathMoves.takeParams {s : State} (hloading : s.config.step = .loading) {p : Params}
    (hwindows : (p.planWindowBase.toNat % 4096 = 0 ∧ p.mirrorWindowBase.toNat % 16384 = 0) ∧
      16384 ≤ (p.planWindowBase - p.mirrorWindowBase).toNat) (src : ConfigSource) : PathMoves s (s.takeParams p src) :=
  .takesBases _ _ hwindows.1 hwindows.2 hloading (s.takeParams_step p src) (s.takeParams_path p src) (by simp)

theorem PathMoves.configFailed {s : State} (hloading : s.config.step = .loading) (reason : ConfigReason) :
    PathMoves s (s.configFailed reason) :=
  .takesBases _ _ defaults_windows.1 defaults_windows.2 hloading
    (by simpa [State.configFailed] using s.takeParams_step Params.defaults .defaults) (s.configFailed_path reason) (by simp)

theorem State.depotRestart_path (s : State) : s.depotRestart.path = s.path.restart := by simp [State.depotRestart]

theorem PathMoves.restart (s : State) :
    PathMoves s
      (s.answerRequest (fun r => r.code == 0x1F) fun _ x => { state := x.depotRestart, code := .done, detail := 0 }) := by
  obtain hsame | ⟨n, req, hstored⟩ := s.answerRequest_cases (fun r => r.code == 0x1F)
    fun _ x => { state := x.depotRestart, code := .done, detail := 0 }
  · rw [hsame]
    exact .refl s
  · rw [hstored]
    exact .restarts (State.depotRestart_path s.dequeue) (by simp) (State.storeResult_rests rfl rfl ..) (by simp [Answer.store])

theorem PathMoves.hostAccess {s t : State} {write : Bool} {addr : Addr} {data : Word} {enables : BitVec 4}
    (h : s.hostAccess write addr data enables = .next t) : PathMoves s t :=
  have ⟨hout, harrives⟩ := State.hostAccess_arrives h
  .arrives hout rfl harrives

/-- Every command moves the Path Unit so. -/
theorem exec_pathMoves {i : Instr} {s t : State} (h : exec i s = .next t) : PathMoves s t := by
  cases i with
  | powerOn straps level => cases h; exact .resets ..
  | resetLine straps level => cases h; exact .resets ..
  | configImageLoaded acked image =>
    cases h
    split
    · next hloading =>
      split
      · next p hused => exact .takeParams hloading (checkImage_windows hused) _
      · exact .configFailed hloading _
    · exact .refl s
  | configReadTimeout =>
    cases h
    split
    · next hloading => exact .configFailed hloading _
    · exact .refl s
  | startUpEnd =>
    cases h
    split
    · exact .watches (by simp) (by simp) (by simp)
    · exact .refl s
  | restart => cases h; exact .restart s
  | hostAccess _ _ _ _ | planWordWrite _ _ _ _ | heartbeatWrite _ _ | alertConsumerIndexWrite _ _ | triggerWrite _ _ _
    | mirrorWriteStopped _ _ _ | fencedRead _ => exact .hostAccess h
  | downstreamCompletion =>
    cases h
    split
    · exact .refl s
    · next a hport => exact .hostCompletes hport
    · next w hport => exact .wordCompletes hport
  | recordPush =>
    cases h
    split
    · next r hpush => exact .pushes hpush
    · exact .refl s
  | _ => exact .rests (exec_rests h rfl rfl) (exec_loading h rfl)

/-- So does every step, the queue of commands apart. -/
theorem step_pathMoves {s t : State} (h : step s = .next t) : ∃ rest, PathMoves { s with pending := rest } t := by
  unfold step at h
  split at h
  · cases h
    exact ⟨s.pending, .refl s⟩
  · exact ⟨_, exec_pathMoves h⟩

end Sys2Proof.Machine
end

section
/-!
PROOF. The laws of the memory path under every step: memory canonical and the backlog within its 64 words, the windows apart, the
port's law and the fence (R130, R132, R135, R136, R146, R153; log entries 3 and 27).
-/

namespace Sys2Proof.Machine

open Sys2Proof

/-! ### The Path Unit before the arbiter is asked -/

/-- With no access outstanding none is held, none waits and none is on the port (R130). -/
theorem PathUnit.not_outstanding {p : PathUnit} (h : p.outstanding = false) :
    p.heldRead = none ∧ p.waiting = none ∧ ∀ a, p.port ≠ .host a := by
  simp only [PathUnit.outstanding, Bool.or_eq_false_iff, Option.isSome_eq_false_iff, Option.isNone_iff_eq_none] at h
  obtain ⟨⟨hheld, hwaiting⟩, hport⟩ := h
  refine ⟨hheld, hwaiting, fun a ha => ?_⟩
  rw [ha] at hport
  cases hport

/-- Memory has completed a host access: the port is FREE and the reply stands (R132). -/
theorem State.completeHost_path (s : State) (a : HostAccess) :
    (s.freePort.completeHost a).path =
      { s.path with
        port := .free
        reply := some { access := a, data := if a.write = true then 0 else memWord s.memory a.addr } } := by
  unfold State.completeHost
  split
  · simp [State.complete, State.freePort, State.updPath]
  · simp [State.complete, State.freePort, State.updPath]

/-- The Path Unit as memory completes a backlog word: the port is FREE, and a record's last word closes the fence (R135). -/
def PathUnit.wordCompleted (p : PathUnit) (w : BacklogWord) : PathUnit :=
  if w.last = true then { p with port := .free, fence := none, heldRead := none, waiting := p.heldRead.or p.waiting }
  else { p with port := .free }

theorem State.freeSlotOf_path (s : State) (n : Option SlotNo) : (s.freeSlotOf n).path = s.path := by simp

theorem State.completeBacklog_path (s : State) (w : BacklogWord) :
    (s.freePort.completeBacklog w).path = s.path.wordCompleted w := by
  unfold State.completeBacklog PathUnit.wordCompleted
  dsimp only
  split
  · rw [State.freeSlotOf_path]
    exact PathUnit.closeFence_eq _
  · rfl

/-- Every record has its words (R145). -/
theorem State.recordWords_length (s : State) (r : RecordId) : (s.recordWords r).length = r.words := by
  cases r with
  | roster i => simp only [State.recordWords, rosterWords]; split <;> rfl
  | booking i => simp only [State.recordWords, bookingWords]; split <;> rfl
  | alert i => simp only [State.recordWords, alertWords]; split <;> rfl
  | log area i => simp only [State.recordWords, logWords]; split <;> rfl
  | _ => rfl

theorem RecordId.words_pos (r : RecordId) : 1 ≤ r.words ∧ r.words ≤ 16 := by cases r <;> simp [RecordId.words]

theorem State.backlogWords_length (s : State) (r : RecordId) : (s.backlogWords r).length = r.words := by
  have hpos := r.words_pos
  simp [State.backlogWords, State.recordWords_length]
  omega

/-- The part with a record out of the dirty set and its generation counted, as its words are formed (R145, R146). -/
def State.pushStarted (s : State) (r : RecordId) : State :=
  s.updMirror fun m => { m with dirty := m.dirty.clear r, generations := m.generations.bump r }

theorem State.pushRecord_eq (s : State) (r : RecordId) :
    s.pushRecord r =
      { s.pushStarted r with
        mirror := { (s.pushStarted r).mirror with backlog := s.mirror.backlog ++ (s.pushStarted r).backlogWords r }
        path := s.path.followDepth (s.mirror.backlog.length + r.words) } := by
  rw [← State.backlogWords_length (s.pushStarted r) r, ← List.length_append]
  rfl

theorem State.pushRecord_path (s : State) (r : RecordId) :
    (s.pushRecord r).path = s.path.followDepth (s.mirror.backlog.length + r.words) := by
  rw [State.pushRecord_eq]

/-- A record is pushed in WATCHING mode, with room for all its words (R131, R146). -/
theorem State.pushable_some {s : State} {r : RecordId} (h : s.pushable = some r) :
    s.path.watching = true ∧ s.mirror.backlog.length + r.words ≤ 64 := by
  unfold State.pushable at h
  split at h
  · next hwatching =>
    split at h
    · split at h
      · next hroom =>
        cases h
        exact ⟨hwatching, hroom⟩
      · cases h
    · cases h
  · cases h

/-- The Path Unit as a power-on or RESET line leaves it to the arbiter (R137; log entry 24). -/
def PathUnit.afterReset (p : PathUnit) : PathUnit :=
  { State.reset.path with waiting := p.waitingAfterReset, port := p.port.afterReset, reply := p.reply }

theorem State.startUp_arbitrates (s : State) (straps : Straps) (level : Level) (offsets : Option Offsets) (g : Generations) :
    ∃ x : State, s.startUp straps level offsets g = x.arbitrate ∧ x.path = s.path.afterReset ∧ x.mirror.backlog = [] := by
  unfold State.startUp
  dsimp only
  split
  · exact ⟨_, rfl, rfl, rfl⟩
  · exact ⟨_, rfl, State.takeParams_path .., by simp [State.coldReset, resetMirror]⟩

/-! ### Memory (R130, R132) -/

theorem State.completeHost_memory (s : State) (a : HostAccess) :
    (s.completeHost a).memory = if a.write = true then memWrite s.memory a.addr a.data a.enables else s.memory := by
  unfold State.completeHost
  split <;> rfl

theorem State.completeBacklog_memory (s : State) (w : BacklogWord) :
    (s.completeBacklog w).memory = memWrite s.memory w.addr w.data 0xF := by
  unfold State.completeBacklog
  dsimp only
  split <;> simp

/-- A grant reaches no byte. -/
theorem State.arbitrate_memory (s : State) : s.arbitrate.memory = s.memory := by simp

/-- A completion writes a word, or nothing. -/
theorem exec_memoryLaw {i : Instr} {s t : State} (hs : MemoryLaw s) (h : exec i s = .next t) : MemoryLaw t := by
  by_cases hi : i = .downstreamCompletion
  · subst hi
    cases h
    split
    · exact hs
    · next a _ =>
      rw [MemoryLaw, State.arbitrate_memory, State.completeHost_memory]
      split
      · exact memWrite_wf _ _ _ hs
      · exact hs
    · rw [MemoryLaw, State.arbitrate_memory, State.completeBacklog_memory]
      exact memWrite_wf _ _ _ hs
  · rwa [MemoryLaw, exec_memory i s t h hi]

/-! ### The backlog's length (R146) -/

/-- The arbiter takes at most the head from the backlog. -/
theorem Arbitrated.backlog {s t : State} (h : Arbitrated s t) :
    t.mirror.backlog = s.mirror.backlog ∨ ∃ w, s.mirror.backlog = w :: t.mirror.backlog := by
  cases h with
  | busy _ => exact .inl rfl
  | idle _ _ _ => exact .inl rfl
  | host a _ _ _ _ => exact .inl (s.granted_backlog a)
  | word w rest _ _ hbacklog => exact .inr ⟨w, hbacklog⟩

theorem Arbitrated.backlogLaw {s t : State} (h : Arbitrated s t) (hs : BacklogLaw s) : BacklogLaw t := by
  obtain hsame | ⟨w, hhead⟩ := h.backlog
  · rwa [BacklogLaw, hsame]
  · rw [BacklogLaw, hhead, List.length_cons] at hs
    rw [BacklogLaw]
    omega

/-- A stopped write reaches no word of the backlog (R134). -/
theorem State.stopWrite_backlog (s : State) (a : HostAccess) : (s.stopWrite a).mirror.backlog = s.mirror.backlog := by simp

theorem Rests.backlogLaw {s t : State} (h : Rests s t) (hs : BacklogLaw s) : BacklogLaw t := by
  cases h with
  | same _ hbacklog => rwa [BacklogLaw, hbacklog]
  | outdated n _ hbacklog => rwa [BacklogLaw, hbacklog, List.length_map]

theorem PathMoves.backlogLaw {s t : State} (h : PathMoves s t) (hs : BacklogLaw s) : BacklogLaw t := by
  cases h with
  | rests hrests _ => exact hrests.backlogLaw hs
  | arrives _ _ harrives =>
    cases harrives with
    | stopped _ _ _ => rwa [BacklogLaw, State.stopWrite_backlog]
    | held _ => exact hs
    | claims _ _ => exact (State.arbitrated _).backlogLaw hs
  | hostCompletes _ => exact (State.arbitrated _).backlogLaw (by simpa [BacklogLaw] using hs)
  | wordCompletes _ => exact (State.arbitrated _).backlogLaw (by simpa [BacklogLaw] using hs)
  | pushes hpush =>
    refine (State.arbitrated _).backlogLaw ?_
    rw [BacklogLaw, State.pushRecord_eq, List.length_append, State.backlogWords_length]
    exact (State.pushable_some hpush).2
  | resets straps level offsets g =>
    obtain ⟨x, hx, _, hbacklog⟩ := s.startUp_arbitrates straps level offsets g
    rw [hx]
    exact x.arbitrated.backlogLaw (by simp [BacklogLaw, hbacklog])
  | takesBases _ _ _ _ _ _ _ hbacklog => rwa [BacklogLaw, hbacklog]
  | watches _ _ hbacklog => rwa [BacklogLaw, hbacklog]
  | restarts _ hbacklog hrests _ => exact hrests.backlogLaw (by rwa [BacklogLaw, hbacklog])

/-- Settles O51: memory changes at a completion alone, and the backlog grows by a push with room alone. -/
theorem stepsKeepMemoryAndBacklog : Obligations.StepsKeepMemoryAndBacklog := by
  intro s t hstep
  refine ⟨fun hs => ?_, fun hs => ?_⟩
  · unfold step at hstep
    split at hstep
    · cases hstep
      exact hs
    · next c rest _ => exact exec_memoryLaw (s := { s with pending := rest }) hs hstep
  · obtain ⟨_, hmoves⟩ := step_pathMoves hstep
    exact hmoves.backlogLaw hs

/-! ### The windows (R130, R153) -/

/-- The Path Unit's windows have not moved. -/
structure SameWindows (s t : State) : Prop where
  plan : t.path.planBase = s.path.planBase
  mirror : t.path.mirrorBase = s.path.mirrorBase

theorem SameWindows.trans {s x t : State} (h : SameWindows s x) (g : SameWindows x t) : SameWindows s t :=
  ⟨g.plan.trans h.plan, g.mirror.trans h.mirror⟩

theorem SameWindows.windowLaw {s t : State} (h : SameWindows s t) (hs : WindowLaw s) : WindowLaw t := by
  rwa [WindowLaw, h.plan, h.mirror]

theorem Arbitrated.sameWindows {s t : State} (h : Arbitrated s t) : SameWindows s t := by
  cases h with
  | busy _ => exact ⟨rfl, rfl⟩
  | idle _ _ _ => exact ⟨rfl, rfl⟩
  | host a _ _ _ _ => exact ⟨by rw [State.granted_path], by rw [State.granted_path]⟩
  | word w rest _ _ _ =>
    obtain ⟨a, _, _, hheld⟩ | ⟨_, hwaits⟩ := (s.path.opened w rest.length).holdCovered_cases
    · exact ⟨by rw [State.grantBacklog_path, hheld]; rfl, by rw [State.grantBacklog_path, hheld]; rfl⟩
    · exact ⟨by rw [State.grantBacklog_path, hwaits]; rfl, by rw [State.grantBacklog_path, hwaits]; rfl⟩

theorem Rests.sameWindows {s t : State} (h : Rests s t) : SameWindows s t := by
  cases h with
  | same hpath _ => exact ⟨by rw [hpath], by rw [hpath]⟩
  | outdated n hpath _ => exact ⟨by rw [hpath], by rw [hpath]⟩

theorem PathUnit.wordCompleted_bases (p : PathUnit) (w : BacklogWord) :
    (p.wordCompleted w).planBase = p.planBase ∧ (p.wordCompleted w).mirrorBase = p.mirrorBase := by
  unfold PathUnit.wordCompleted
  split <;> exact ⟨rfl, rfl⟩

theorem PathMoves.windowLaw {s t : State} (h : PathMoves s t) (hs : WindowLaw s) : WindowLaw t := by
  have arbitrated : ∀ x : State, SameWindows s x → WindowLaw x.arbitrate := fun x hx =>
    (hx.trans x.arbitrated.sameWindows).windowLaw hs
  cases h with
  | rests hrests _ => exact hrests.sameWindows.windowLaw hs
  | arrives _ _ harrives =>
    cases harrives with
    | stopped _ _ _ => rwa [WindowLaw, State.stopWrite_path]
    | held _ => exact hs
    | claims _ _ => exact arbitrated _ ⟨rfl, rfl⟩
  | hostCompletes _ => exact arbitrated _ ⟨by rw [State.completeHost_path], by rw [State.completeHost_path]⟩
  | @wordCompletes w _ =>
    obtain ⟨hplan, hmirror⟩ := s.path.wordCompleted_bases w
    exact arbitrated _ ⟨by rwa [State.completeBacklog_path], by rwa [State.completeBacklog_path]⟩
  | pushes _ =>
    exact arbitrated _
      ⟨by rw [State.pushRecord_path, PathUnit.followDepth_eq], by rw [State.pushRecord_path, PathUnit.followDepth_eq]⟩
  | resets straps level offsets g =>
    obtain ⟨x, hx, hpath, _⟩ := s.startUp_arbitrates straps level offsets g
    have hcold : WindowLaw x := by
      rw [WindowLaw, hpath]
      exact show WindowLaw State.reset from ⟨by decide, by decide, by decide⟩
    rw [hx]
    exact x.arbitrated.sameWindows.windowLaw hcold
  | takesBases plan mirror haligned hapart _ _ hpath _ =>
    rw [WindowLaw, hpath]
    exact ⟨haligned.1, haligned.2, hapart⟩
  | watches _ hpath _ => rwa [WindowLaw, hpath]
  | restarts hpath _ hrests _ => exact hrests.sameWindows.windowLaw (by rwa [WindowLaw, hpath])

/-- Settles O58: only the image read and a reset move the windows, to bases that R153 accepts. -/
theorem stepsKeepTheWindowsApart : Obligations.StepsKeepTheWindowsApart := by
  intro s t hs hstep
  obtain ⟨_, hmoves⟩ := step_pathMoves hstep
  exact hmoves.windowLaw hs

/-! ### The port (R130, R136) -/

/-- What the port's law asks before the arbiter is asked: at most one host access, and no word owed behind a backlog word. -/
structure Claims (s : State) : Prop where
  one : OneAccessLaw s
  owed : ∀ w, s.path.port = .backlog w → s.path.backlogOwed = false

theorem PortLaw.claims {s : State} (h : PortLaw s) : Claims s := ⟨h.1, h.2.1⟩

/-- The arbiter leaves no claimant at a FREE port. -/
theorem Arbitrated.portLaw {s t : State} (h : Arbitrated s t) (hs : Claims s) : PortLaw t := by
  obtain ⟨⟨hone, hhost⟩, howed⟩ := hs
  cases h with
  | busy hport => exact ⟨⟨hone, hhost⟩, howed, fun hfree => absurd hfree hport⟩
  | idle hfree hturn hbacklog =>
    refine ⟨⟨hone, hhost⟩, howed, fun _ => ⟨?_, hbacklog⟩⟩
    obtain hheld | hwaiting | ⟨_, _, hword⟩ := hturn
    · exact hone.resolve_left hheld
    · exact hwaiting
    · exact absurd hbacklog hword
  | host a _ hheld _ _ =>
    rw [PortLaw, OneAccessLaw, State.granted_path]
    exact ⟨⟨.inl hheld, fun _ _ => ⟨hheld, rfl⟩⟩, nofun, nofun⟩
  | word w rest _ _ _ =>
    rw [PortLaw, OneAccessLaw, State.grantBacklog_path]
    obtain ⟨a, hwaiting, _, hheld⟩ | ⟨_, hwaits⟩ := (s.path.opened w rest.length).holdCovered_cases
    · rw [hheld]
      exact ⟨⟨.inr rfl, nofun⟩, fun _ _ => rfl, nofun⟩
    · rw [hwaits]
      exact ⟨⟨hone, nofun⟩, fun _ _ => rfl, nofun⟩

theorem Port.outdate_free {p : Port} {n : SlotNo} : p.outdate n = .free ↔ p = .free := by cases p <;> simp [Port.outdate]

theorem Port.outdate_host {p : Port} {n : SlotNo} {a : HostAccess} : p.outdate n = .host a ↔ p = .host a := by
  cases p <;> simp [Port.outdate]

theorem Port.outdate_backlog {p : Port} {n : SlotNo} {w : BacklogWord} (h : p.outdate n = .backlog w) :
    ∃ w', p = .backlog w' := by
  cases p with
  | backlog w' => exact ⟨w', rfl⟩
  | _ => cases h

theorem Rests.portLaw {s t : State} (h : Rests s t) (hs : PortLaw s) : PortLaw t := by
  cases h with
  | same hpath hbacklog => rwa [PortLaw, OneAccessLaw, hpath, hbacklog]
  | outdated n hpath hbacklog =>
    obtain ⟨⟨hone, hhost⟩, howed, hfree⟩ := hs
    rw [PortLaw, OneAccessLaw, hpath, hbacklog]
    refine ⟨⟨hone, fun a ha => hhost a (Port.outdate_host.1 ha)⟩, fun w hw => ?_, fun hf => ?_⟩
    · obtain ⟨w', hw'⟩ := Port.outdate_backlog hw
      exact howed w' hw'
    · obtain ⟨hwaiting, hnone⟩ := hfree (Port.outdate_free.1 hf)
      exact ⟨hwaiting, by rw [hnone]; rfl⟩

theorem Port.afterReset_host {p : Port} {a : HostAccess} (h : p.afterReset = .host a) : p = .host a := by
  cases p with
  | host b => exact h
  | _ => cases h

/-- A held or waiting access goes on after a power-on or RESET line, one on the port alone. -/
theorem OneAccessLaw.afterReset {s x : State} (hs : OneAccessLaw s) (hpath : x.path = s.path.afterReset) : Claims x := by
  refine ⟨⟨.inl (by rw [hpath]; rfl), fun a ha => ?_⟩, fun _ _ => by rw [hpath]; rfl⟩
  rw [hpath] at ha ⊢
  obtain ⟨hheld, hwaiting⟩ := hs.2 a (Port.afterReset_host ha)
  exact ⟨rfl, by simp [PathUnit.afterReset, PathUnit.waitingAfterReset, hheld, hwaiting]⟩

theorem Claims.wordCompleted {s x : State} (hs : OneAccessLaw s) {w : BacklogWord} (hpath : x.path = s.path.wordCompleted w) :
    Claims x := by
  unfold PathUnit.wordCompleted at hpath
  split at hpath
  · exact ⟨⟨.inl (by rw [hpath]), fun a ha => by rw [hpath] at ha; cases ha⟩, fun w hw => by rw [hpath] at hw; cases hw⟩
  · refine ⟨⟨?_, fun a ha => by rw [hpath] at ha; cases ha⟩, fun w hw => by rw [hpath] at hw; cases hw⟩
    rw [hpath]
    exact hs.1

theorem PathMoves.portLaw {s t : State} (h : PathMoves s t) (hs : PortLaw s) : PortLaw t := by
  have ⟨⟨hone, hhost⟩, howed, hfree⟩ := hs
  cases h with
  | rests hrests _ => exact hrests.portLaw hs
  | arrives hout _ harrives =>
    obtain ⟨hheld, hwaiting, hport⟩ := PathUnit.not_outstanding hout
    cases harrives with
    | stopped _ _ _ =>
      rw [PortLaw, OneAccessLaw, State.stopWrite_path, State.stopWrite_backlog]
      exact hs
    | held _ => exact ⟨⟨.inr hwaiting, fun b hb => absurd hb (hport b)⟩, howed, hfree⟩
    | claims _ _ => exact (State.arbitrated _).portLaw ⟨⟨.inl hheld, fun b hb => absurd hb (hport b)⟩, howed⟩
  | hostCompletes _ =>
    refine (State.arbitrated _).portLaw ⟨?_, fun w hw => ?_⟩
    · rw [OneAccessLaw, State.completeHost_path]
      exact ⟨hone, nofun⟩
    · rw [State.completeHost_path] at hw
      cases hw
  | wordCompletes _ => exact (State.arbitrated _).portLaw (.wordCompleted hs.1 (State.completeBacklog_path ..))
  | pushes _ =>
    refine (State.arbitrated _).portLaw ?_
    rw [State.pushRecord_eq, PathUnit.followDepth_eq]
    exact ⟨⟨hone, hhost⟩, fun w hw => by simp [howed w hw]⟩
  | resets straps level offsets g =>
    obtain ⟨x, hx, hpath, _⟩ := s.startUp_arbitrates straps level offsets g
    rw [hx]
    exact x.arbitrated.portLaw (hs.1.afterReset hpath)
  | takesBases _ _ _ _ _ _ hpath hbacklog =>
    rw [PortLaw, OneAccessLaw, hpath, hbacklog]
    exact hs
  | watches _ hpath hbacklog =>
    rw [PortLaw, OneAccessLaw, hpath, hbacklog]
    exact hs
  | restarts hpath hbacklog hrests _ =>
    refine hrests.portLaw ?_
    rw [PortLaw, OneAccessLaw, hpath, hbacklog]
    exact ⟨⟨hone, hhost⟩, fun _ _ => rfl, hfree⟩

/-- Settles O59: an access joins where none is outstanding, and the arbiter leaves no claimant at a FREE port. -/
theorem stepsKeepThePortLaw : Obligations.StepsKeepThePortLaw := by
  intro s t hs hstep
  obtain ⟨_, hmoves⟩ := step_pathMoves hstep
  exact hmoves.portLaw hs

/-! ### The fence (R135; log entry 27) -/

/-- A grant opens the fence on no watched read: the host's access was not fenced, and a claimant that a word's record covers is
held. -/
theorem Arbitrated.fenceLaw {s t : State} (h : Arbitrated s t) (hs : FenceLaw s) : FenceLaw t := by
  cases h with
  | busy _ => exact hs
  | idle _ _ _ => exact hs
  | host a _ _ hwaiting _ =>
    rw [FenceLaw, State.granted_path]
    refine ⟨nofun, fun b hb => ?_⟩
    cases hb
    exact hs.1 a hwaiting
  | word w rest _ _ _ =>
    rw [FenceLaw, State.grantBacklog_path]
    obtain ⟨a, _, _, hheld⟩ | ⟨hwaiting, hwaits⟩ := (s.path.opened w rest.length).holdCovered_cases
    · rw [hheld]
      exact ⟨nofun, nofun⟩
    · rw [hwaits]
      exact ⟨hwaiting, nofun⟩

/-- A CLOSED fence names no record. -/
theorem FenceLaw.of_closed {s : State} (h : s.path.fence = none) : FenceLaw s :=
  ⟨fun a _ => not_readsFenced_of_closed h a, fun a _ => not_readsFenced_of_closed h a⟩

theorem Rests.fenceLaw {s t : State} (h : Rests s t) (hs : FenceLaw s) : FenceLaw t := by
  cases h with
  | same hpath _ => rwa [FenceLaw, hpath]
  | outdated n hpath _ =>
    rw [FenceLaw, hpath]
    exact ⟨hs.1, fun a ha => hs.2 a (Port.outdate_host.1 ha)⟩

theorem FenceLaw.wordCompleted {s x : State} (hs : FenceLaw s) {w : BacklogWord} (hpath : x.path = s.path.wordCompleted w) :
    FenceLaw x := by
  unfold PathUnit.wordCompleted at hpath
  split at hpath
  · exact .of_closed (by rw [hpath])
  · rw [FenceLaw, hpath]
    exact ⟨hs.1, nofun⟩

theorem PathMoves.fenceLaw {s t : State} (h : PathMoves s t) (hs : FenceLaw s) (hloading : LoadingIsUnwatched s) :
    FenceLaw t := by
  cases h with
  | rests hrests _ => exact hrests.fenceLaw hs
  | arrives _ _ harrives =>
    cases harrives with
    | stopped _ _ _ => rwa [FenceLaw, State.stopWrite_path]
    | held _ => exact hs
    | claims hopen _ =>
      refine (State.arbitrated _).fenceLaw ⟨fun b hb => ?_, hs.2⟩
      cases hb
      exact hopen
  | hostCompletes _ =>
    refine (State.arbitrated _).fenceLaw ?_
    rw [FenceLaw, State.completeHost_path]
    exact ⟨hs.1, nofun⟩
  | wordCompletes _ => exact (State.arbitrated _).fenceLaw (hs.wordCompleted (State.completeBacklog_path ..))
  | pushes _ =>
    refine (State.arbitrated _).fenceLaw ?_
    rw [State.pushRecord_eq, PathUnit.followDepth_eq]
    exact hs
  | resets straps level offsets g =>
    obtain ⟨x, hx, hpath, _⟩ := s.startUp_arbitrates straps level offsets g
    rw [hx]
    exact x.arbitrated.fenceLaw (.of_closed (by rw [hpath]; rfl))
  | takesBases _ _ _ _ hl _ hpath _ =>
    refine .of_closed ?_
    rw [hpath]
    exact (hloading hl).1
  | watches _ hpath _ => rwa [FenceLaw, hpath]
  | restarts hpath _ hrests _ => exact hrests.fenceLaw (by rwa [FenceLaw, hpath])

/-- The mirror window at rest: the fence CLOSED, the backlog empty, the part UNWATCHED. -/
structure WindowRests (s : State) : Prop where
  fence : s.path.fence = none
  backlog : s.mirror.backlog = []
  watching : s.path.watching = false

theorem loadingIsUnwatched_iff (s : State) : LoadingIsUnwatched s ↔ (s.config.step = .loading → WindowRests s) :=
  ⟨fun h hl => have ⟨hf, hb, hw⟩ := h hl; ⟨hf, hb, hw⟩, fun h hl => ⟨(h hl).fence, (h hl).backlog, (h hl).watching⟩⟩

/-- With no word to grant the window stays at rest. -/
theorem Arbitrated.windowRests {s t : State} (h : Arbitrated s t) (hs : WindowRests s) : WindowRests t := by
  cases h with
  | busy _ => exact hs
  | idle _ _ _ => exact hs
  | host a _ _ _ _ =>
    exact ⟨by rw [State.granted_path]; exact hs.fence, by rw [State.granted_backlog]; exact hs.backlog, by
      rw [State.granted_path]; exact hs.watching⟩
  | word w rest _ _ hbacklog => cases hs.backlog.symm.trans hbacklog

theorem Rests.windowRests {s t : State} (h : Rests s t) (hs : WindowRests s) : WindowRests t := by
  cases h with
  | same hpath hbacklog => exact ⟨hpath ▸ hs.fence, hbacklog ▸ hs.backlog, hpath ▸ hs.watching⟩
  | outdated n hpath hbacklog =>
    exact ⟨by rw [hpath]; exact hs.fence, by rw [hbacklog, hs.backlog]; rfl, by rw [hpath]; exact hs.watching⟩

theorem WindowRests.wordCompleted {s x : State} (hs : WindowRests s) {w : BacklogWord} (hpath : x.path = s.path.wordCompleted w)
    (hbacklog : x.mirror.backlog = s.mirror.backlog) : WindowRests x := by
  unfold PathUnit.wordCompleted at hpath
  split at hpath
  · exact ⟨by rw [hpath], hbacklog.trans hs.backlog, by rw [hpath]; exact hs.watching⟩
  · exact ⟨by rw [hpath]; exact hs.fence, hbacklog.trans hs.backlog, by rw [hpath]; exact hs.watching⟩

theorem WindowRests.arrives {s t : State} {a : HostAccess} (hs : WindowRests s) (hmode : a.watched = s.path.watching)
    (h : Arrives s a t) : WindowRests t := by
  cases h with
  | stopped _ hwatched _ => cases hs.watching.symm.trans (hmode.symm.trans hwatched)
  | held hfenced => exact absurd hfenced (not_readsFenced_of_closed hs.fence a)
  | claims _ _ => exact (State.arbitrated _).windowRests ⟨hs.fence, hs.backlog, hs.watching⟩

/-- What follows when start-up reads the image after a move: it is read on, or a reset has just begun it. -/
theorem PathMoves.windowRests {s t : State} (h : PathMoves s t) (hs : s.config.step = .loading → WindowRests s)
    (ht : t.config.step = .loading) : WindowRests t := by
  have arbitrated : ∀ x : State, x.arbitrate.config = x.config := fun x => by simp
  cases h with
  | rests hrests hloading => exact hrests.windowRests (hs (hloading ht))
  | arrives _ hmode harrives =>
    have hloading : s.config.step = .loading := by
      cases harrives with
      | stopped _ _ _ => simpa using ht
      | held _ => exact ht
      | claims _ _ => simpa using ht
    exact (hs hloading).arrives hmode harrives
  | hostCompletes _ =>
    have hx := hs (by simpa using ht)
    exact (State.arbitrated _).windowRests
      ⟨by rw [State.completeHost_path]; exact hx.fence, by simpa using hx.backlog, by
        rw [State.completeHost_path]; exact hx.watching⟩
  | wordCompletes _ =>
    have hx := hs (by simpa using ht)
    exact (State.arbitrated _).windowRests (hx.wordCompleted (State.completeBacklog_path ..) (by simp))
  | pushes hpush =>
    have hx := hs (by simpa using ht)
    cases hx.watching.symm.trans (State.pushable_some hpush).1
  | resets straps level offsets g =>
    obtain ⟨x, hx, hpath, hbacklog⟩ := s.startUp_arbitrates straps level offsets g
    rw [hx]
    exact x.arbitrated.windowRests ⟨by rw [hpath]; rfl, hbacklog, by rw [hpath]; rfl⟩
  | takesBases _ _ _ _ _ hloaded _ _ => exact absurd ht hloaded
  | watches hserves _ _ => cases hserves.symm.trans ht
  | restarts hpath hbacklog hrests hconfig =>
    have hx := hs (hconfig ▸ ht)
    exact hrests.windowRests
      ⟨by rw [hpath]; exact hx.fence, hbacklog.trans hx.backlog, by rw [hpath]; exact hx.watching⟩

/-- Settles O57: no move leaves a watched read before an open record, and while the image is read there is no word to open the
fence. -/
theorem stepsKeepTheFence : Obligations.StepsKeepTheFence := by
  intro s t hs hloading hstep
  obtain ⟨rest, hmoves⟩ := step_pathMoves hstep
  have hrests := (loadingIsUnwatched_iff { s with pending := rest }).1 hloading
  exact ⟨hmoves.fenceLaw hs hloading, (loadingIsUnwatched_iff t).2 (hmoves.windowRests hrests)⟩

end Sys2Proof.Machine
end

section
/-!
PROOF. What the port's grant captures (R127, R133, R139), and host accesses as they arrive: those that go down as they came, the
parameter words, the stopped writes and the fenced reads (R130 to R135; log entry 28).
-/

namespace Sys2Proof.Machine

open Sys2Proof

/-! ### Merging a write into a shadow word (R133) -/

/-- A word's bits stand byte by byte. -/
theorem getLsbD_wordOfBytes (b0 b1 b2 b3 : Byte) (j : Nat) :
    (wordOfBytes b0 b1 b2 b3).getLsbD j =
      if j < 8 then b0.getLsbD j
      else if j - 8 < 8 then b1.getLsbD (j - 8)
      else if j - 8 - 8 < 8 then b2.getLsbD (j - 8 - 8) else b3.getLsbD (j - 8 - 8 - 8) := by
  change (b3 ++ b2 ++ b1 ++ b0 : BitVec (8 + 8 + 8 + 8)).getLsbD j = _
  rw [BitVec.getLsbD_append, BitVec.getLsbD_append, BitVec.getLsbD_append]

theorem wordByte_getLsbD (w : Word) (i : Nat) {j : Nat} (hj : j < 8) : (wordByte w i).getLsbD j = w.getLsbD (8 * i + j) := by
  rw [wordByte, BitVec.getLsbD_extractLsb', decide_eq_true hj, Bool.true_and]

theorem wordByte_wordOfBytes (b0 b1 b2 b3 : Byte) :
    wordByte (wordOfBytes b0 b1 b2 b3) 0 = b0 ∧ wordByte (wordOfBytes b0 b1 b2 b3) 1 = b1 ∧
      wordByte (wordOfBytes b0 b1 b2 b3) 2 = b2 ∧ wordByte (wordOfBytes b0 b1 b2 b3) 3 = b3 := by
  refine ⟨?_, ?_, ?_, ?_⟩ <;> refine BitVec.eq_of_getLsbD_eq fun j hj => ?_ <;>
    rw [wordByte_getLsbD _ _ hj, getLsbD_wordOfBytes]
  · rw [if_pos (by omega)]
    congr 1
    omega
  · rw [if_neg (by omega), if_pos (by omega)]
    congr 1
    omega
  · rw [if_neg (by omega), if_neg (by omega), if_pos (by omega)]
    congr 1
    omega
  · rw [if_neg (by omega), if_neg (by omega), if_neg (by omega)]
    congr 1
    omega

theorem wordOfBytes_wordByte (w : Word) : wordOfBytes (wordByte w 0) (wordByte w 1) (wordByte w 2) (wordByte w 3) = w := by
  refine BitVec.eq_of_getLsbD_eq fun j hj => ?_
  rw [getLsbD_wordOfBytes]
  split_ifs with h0 h1 h2 <;> rw [wordByte_getLsbD _ _ (by omega)] <;> congr 1 <;> omega

/-- A merge, byte by byte. -/
theorem wordByte_mergeWord (old data : Word) (enables : BitVec 4) {i : Nat} (hi : i < 4) :
    wordByte (mergeWord old data enables) i = if enables.getLsbD i = true then wordByte data i else wordByte old i := by
  have hbytes := wordByte_wordOfBytes
    (if enables.getLsbD 0 = true then wordByte data 0 else wordByte old 0)
    (if enables.getLsbD 1 = true then wordByte data 1 else wordByte old 1)
    (if enables.getLsbD 2 = true then wordByte data 2 else wordByte old 2)
    (if enables.getLsbD 3 = true then wordByte data 3 else wordByte old 3)
  obtain ⟨h0, h1, h2, h3⟩ := hbytes
  match i, hi with
  | 0, _ => exact h0
  | 1, _ => exact h1
  | 2, _ => exact h2
  | 3, _ => exact h3

/-- A write with no enable merges nothing. -/
theorem mergeWord_zero (old data : Word) : mergeWord old data 0 = old := by
  simp [mergeWord, wordOfBytes_wordByte]

/-! ### The slots' words (R133, R139) -/

theorem State.mergeSlotWord_slot (s : State) (n k : SlotNo) (v : Fin 8) (data : Word) (enables : BitVec 4) :
    (s.mergeSlotWord n v data enables).slot k =
      if k = n then { s.slot n with shadow := vput (s.slot n).shadow v (mergeWord ((s.slot n).shadow.get v) data enables) }
      else s.slot k := State.setSlot_slot ..

theorem State.mergeSlotWord_shadowMerged (s : State) (n : SlotNo) (v : Fin 8) (data : Word) (enables : BitVec 4) :
    ShadowMerged s (s.mergeSlotWord n v data enables) n v data enables := by
  refine ⟨rfl, rfl, rfl, fun i hi => ?_, fun w hw => ?_, ?_, ?_, fun m hm => ?_⟩
  · rw [State.mergeSlotWord_slot, if_pos rfl, vput_get_self, wordByte_mergeWord _ _ _ hi]
  · rw [State.mergeSlotWord_slot, if_pos rfl, vput_get_of_ne _ _ hw]
  · rw [State.mergeSlotWord_slot, if_pos rfl]
  · rw [State.mergeSlotWord_slot, if_pos rfl]
  · rw [State.mergeSlotWord_slot, if_neg hm]

theorem State.setSlot_same (s : State) (n : SlotNo) : s.setSlot n (s.slot n) = s := by
  rw [State.setSlot, State.slot, vput_get_same]

theorem State.mergeSlotWord_zero (s : State) (n : SlotNo) (v : Fin 8) (data : Word) : s.mergeSlotWord n v data 0 = s := by
  unfold State.mergeSlotWord
  dsimp only
  rw [mergeWord_zero, vput_get_same]
  exact s.setSlot_same n

/-- No parameter word is the trigger word. -/
theorem parameterWord_ne_trigger (w : Fin 7) : w.castSucc ≠ (7 : Fin 8) := (Fin.castSucc_lt_last w).ne

/-- Capture of a parameter word. -/
theorem State.captureSlotWord_parameter (s : State) (n : SlotNo) (w : Fin 7) (data : Word) (enables : BitVec 4) :
    s.captureSlotWord n w.castSucc data enables = s.mergeSlotWord n w.castSucc data enables := by
  rw [State.captureSlotWord]
  exact if_neg fun h => parameterWord_ne_trigger w h.1

/-- A write forwarded to the clock leaves the slots. -/
theorem State.forwardWrite_intake (s : State) (w : PlanWrite) : (s.forwardWrite w).intake = s.intake := by simp

theorem State.raise_slot (s : State) (kind : AlertKind) (bay : Option BayNo) (tag : Option Tag) (n : SlotNo) :
    (s.raise kind bay tag).slot n = s.slot n := by
  simp [State.slot]

/-- A trigger write of a merged word: forwarded first, then no request, a request at a FREE slot, or a collision (R139). -/
theorem State.takeTrigger_eq (s : State) (n : SlotNo) (merged : Word) :
    s.takeTrigger n merged =
      if triggerCode merged = 0 then s.forwardWrite (.trigger n)
      else if (s.slot n).busy = none then (s.forwardWrite (.trigger n)).enqueue n merged
      else (s.forwardWrite (.trigger n)).raise (.slotCollision n (triggerCode merged) (triggerTag merged)) none none := by
  have hslot : (s.forwardWrite (.trigger n)).slot n = s.slot n := by rw [State.slot, State.forwardWrite_intake, State.slot]
  unfold State.takeTrigger
  dsimp only
  rw [hslot]
  split
  · rfl
  cases (s.slot n).busy with
  | none => rfl
  | some b => rfl

/-- What a trigger write that has an enable does to its slot, the queue and the mirror, from the state that its merge leaves. -/
theorem State.takeTrigger_taken (s : State) (n : SlotNo) (merged : Word) :
    let t := s.takeTrigger n merged
    ∃ m, Forwarded s t.clock m (.trigger n) ∧ t.intake.consumerShadow = s.intake.consumerShadow ∧
      (∀ k, k ≠ n → t.slot k = s.slot k) ∧ (t.slot n).shadow = (s.slot n).shadow ∧ (t.slot n).result = (s.slot n).result ∧
      if triggerCode merged = 0 then (t.slot n).busy = (s.slot n).busy ∧ t.intake.queue = s.intake.queue ∧ t.mirror = m
      else if (s.slot n).busy = none then
        (t.slot n).busy = some (.queued, (s.slot n).requestOf merged) ∧ t.intake.queue = s.intake.queue ++ [n] ∧ t.mirror = m
      else
        (t.slot n).busy = (s.slot n).busy ∧ t.intake.queue = s.intake.queue ∧
        Raises m t.mirror (plainAlert s (.slotCollision n (triggerCode merged) (triggerTag merged))) := by
  have hforwarded := s.forwardWrite_forwarded (.trigger n)
  have hintake := s.forwardWrite_intake (.trigger n)
  have htime : (s.forwardWrite (.trigger n)).clock.depotSeconds = s.clock.depotSeconds := by rw [hforwarded.1]
  have hslot : ∀ k, (s.forwardWrite (.trigger n)).slot k = s.slot k := fun k => by rw [State.slot, hintake, State.slot]
  dsimp only
  refine ⟨(s.forwardWrite (.trigger n)).mirror, ?_⟩
  rw [State.takeTrigger_eq]
  split_ifs with hcode hbusy
  · exact ⟨hforwarded, by rw [hintake], fun k _ => hslot k, by rw [hslot], by rw [hslot], by rw [hslot], by rw [hintake], rfl⟩
  · generalize s.forwardWrite (.trigger n) = x at *
    have henqueued : ∀ k, (x.enqueue n merged).slot k =
        if k = n then { x.slot n with busy := some (.queued, (x.slot n).requestOf merged) } else x.slot k := fun k =>
      State.setSlot_slot x n k _
    refine ⟨hforwarded, ?_, fun k hk => ?_, ?_, ?_, ?_, ?_, rfl⟩
    · rw [← hintake]
      rfl
    · rw [henqueued, if_neg hk, hslot]
    · rw [henqueued, if_pos rfl, hslot]
    · rw [henqueued, if_pos rfl, hslot]
    · rw [henqueued, if_pos rfl, hslot]
    · rw [← hintake]
      rfl
  · generalize s.forwardWrite (.trigger n) = x at *
    have hraised : ∀ k, (x.raise (.slotCollision n (triggerCode merged) (triggerTag merged)) none none).slot k = s.slot k :=
      fun k => (x.raise_slot ..).trans (hslot k)
    refine ⟨by simpa using hforwarded, by simp [hintake], fun k _ => hraised k, by rw [hraised], by rw [hraised], by rw [hraised],
      by simp [hintake], ?_⟩
    rw [plainAlert, ← htime]
    exact x.raise_raises _ none none

theorem State.captureTrigger_taken (s : State) (n : SlotNo) (data : Word) (enables : BitVec 4) :
    TriggerTaken s (s.captureSlotWord n 7 data enables) n data enables := by
  refine ⟨fun hnone => ?_, fun hsome => ?_⟩
  · have hcapture : s.captureSlotWord n 7 data enables = s := by
      rw [State.captureSlotWord, hnone, State.mergeSlotWord_zero]
      exact if_neg fun h => h.2 rfl
    rw [hcapture]
    exact ⟨rfl, rfl, rfl⟩
  · have hmerged : ((s.mergeSlotWord n 7 data enables).slot n) =
        { s.slot n with shadow := vput (s.slot n).shadow 7 (mergeWord ((s.slot n).shadow.get 7) data enables) } :=
      (s.mergeSlotWord_slot ..).trans (if_pos rfl)
    have hcapture : s.captureSlotWord n 7 data enables =
        (s.mergeSlotWord n 7 data enables).takeTrigger n (mergeWord ((s.slot n).shadow.get 7) data enables) := by
      rw [State.captureSlotWord]
      refine (if_pos ⟨rfl, hsome⟩).trans ?_
      rw [hmerged, vput_get_self]
    obtain ⟨m, hforwarded, hshadow, hothers, hwords, hresult, hcases⟩ :=
      (s.mergeSlotWord n 7 data enables).takeTrigger_taken n (mergeWord ((s.slot n).shadow.get 7) data enables)
    rw [hcapture]
    rw [hmerged] at hwords hresult hcases
    refine ⟨m, hforwarded, hshadow, fun k hk => ?_, hwords, hresult, ?_⟩
    · rw [hothers k hk, State.mergeSlotWord_slot, if_neg hk]
    · unfold triggerCode triggerTag at hcases
      split_ifs at hcases ⊢ with hcode hbusy
      · exact hcases
      · obtain ⟨hqueued, hqueue, hmirror⟩ := hcases
        refine ⟨⟨_, hqueued, rfl, rfl, fun i => ?_⟩, hqueue, hmirror⟩
        simp [PostingSlot.requestOf, vput_get_of_ne _ _ (parameterWord_ne_trigger i)]
      · exact hcases

/-! ### What a grant captures (R133) -/

/-- The words of the plan window that are not captured. -/
theorem planWordAt_none {offset : Nat} (h : 8 ≤ offset ∧ (offset < 64 ∨ 576 ≤ offset)) : planWordAt offset = none := by
  unfold planWordAt
  dsimp only
  rw [if_neg (by omega), if_neg (by omega), if_neg (by omega)]

/-- A watched write whose word is captured: the heartbeat, the consumer index or a word of a slot (R133). -/
def PathUnit.Captures (p : PathUnit) (a : HostAccess) : Prop :=
  a.write = true ∧ a.watched = true ∧
    ((a.addr - p.planBase).toNat < 8 ∨ (64 ≤ (a.addr - p.planBase).toNat ∧ (a.addr - p.planBase).toNat < 576))

/-- A grant captures nothing but a watched write of a captured word. -/
theorem State.capture_of_uncaptured {s : State} {a : HostAccess} (h : ¬s.path.Captures a) : s.capture a = s := by
  unfold State.capture
  split
  · next hwrite =>
    simp only [Bool.and_eq_true] at hwrite
    obtain ⟨⟨hwrite, hwatched⟩, _⟩ := hwrite
    have hnone : planWordAt (a.addr - s.path.planBase).toNat = none :=
      planWordAt_none (by simp only [PathUnit.Captures, hwrite, hwatched, true_and] at h; omega)
    rw [hnone]
  · rfl

/-- A watched write at a captured word's offset is captured as that word. -/
theorem State.capture_of_offset {s : State} {a : HostAccess} {w : PlanWord} (hwrite : a.write = true)
    (hwatched : a.watched = true) (hoffset : (a.addr - s.path.planBase).toNat = w.offset) : s.capture a = s.captureWord w a.data a.enables := by
  have hlt := w.offset_lt
  have hin : s.path.inPlan a.addr = true := decide_eq_true (by omega)
  unfold State.capture
  rw [hwrite, hwatched, hin, hoffset, PlanWord.planWordAt_offset]
  rfl

/-- Everything that a grant captures. -/
theorem State.capture_captured (s : State) (a : HostAccess) : Captured s (s.capture a) a := by
  refine ⟨fun huncaptured => ?_, fun hwrite hwatched =>
    ⟨fun hoffset => ?_, fun hoffset => ?_, fun n w hoffset => ?_, fun n hoffset => ?_⟩⟩
  · rw [State.capture_of_uncaptured huncaptured]
    exact ⟨rfl, rfl, rfl⟩
  · rw [State.capture_of_offset (w := .heartbeat) hwrite hwatched hoffset]
    exact s.captureHeartbeat_taken _
  · rw [State.capture_of_offset (w := .consumerIndex) hwrite hwatched hoffset]
    exact s.captureConsumer_taken _ _
  · rw [State.capture_of_offset (w := .slotWord n w.castSucc) hwrite hwatched hoffset, State.captureWord,
      State.captureSlotWord_parameter]
    exact s.mergeSlotWord_shadowMerged ..
  · rw [State.capture_of_offset (w := .slotWord n 7) hwrite hwatched hoffset]
    exact s.captureTrigger_taken ..

/-! ### The host's rule of R130 -/

section

variable (s : State) (write : Bool) {addr : Addr} (data : Word) (enables : BitVec 4)

theorem State.hostAccess_misaligned (h : addr.toNat % 4 ≠ 0) :
    s.hostAccess write addr data enables = .fault .misalignedAddress := by
  simp [State.hostAccess, wordAligned, h]

theorem State.hostAccess_outstanding (haligned : wordAligned addr = true) (hout : s.path.outstanding = true) :
    s.hostAccess write addr data enables = .fault .accessOutstanding := by
  simp [State.hostAccess, haligned, hout]

theorem State.hostAccess_taken (haligned : wordAligned addr = true) (hout : s.path.outstanding = false) :
    s.hostAccess write addr data enables = .next (s.arrive write addr data enables) := by
  simp [State.hostAccess, haligned, hout]

/-- An access that no window acts on claims the port. -/
theorem State.arrive_claims (hmirror : s.path.watching = true → write = true → s.path.inMirror addr = false)
    (hfence : s.path.watching = true → write = false → s.path.fenceCovers addr = false) :
    s.arrive write addr data enables =
      s.claimPort { write := write, addr := addr, data := data, enables := enables, watched := s.path.watching } := by
  have harrives := s.arrives write addr data enables
  generalize s.arrive write addr data enables = t at harrives ⊢
  cases harrives with
  | stopped hwrite hwatched hin => cases (hmirror hwatched hwrite).symm.trans hin
  | held hfenced =>
    obtain ⟨hwatched, hread, hcovers⟩ := hfenced
    cases (hfence hwatched hread).symm.trans ((s.path.fenceCovers_iff addr).2 hcovers)
  | claims _ _ => rfl

/-- A watched write in the mirror window is stopped (R134). -/
theorem State.arrive_stopped (hwatching : s.path.watching = true) (hmirror : s.path.inMirror addr = true) :
    s.arrive true addr data enables =
      s.stopWrite { write := true, addr := addr, data := data, enables := enables, watched := true } := by
  have harrives := s.arrives true addr data enables
  rw [hwatching] at harrives
  generalize s.arrive true addr data enables = t at harrives ⊢
  cases harrives with
  | stopped _ _ _ => rfl
  | held hfenced => cases hfenced.2.1
  | claims _ hout => cases (hout rfl rfl).symm.trans hmirror

/-- A watched read of the open record is held (R135). -/
theorem State.arrive_held (hwatching : s.path.watching = true) (hcovers : s.path.fenceCovers addr = true) :
    s.arrive false addr data enables =
      s.updPath fun p =>
        { p with heldRead := some { write := false, addr := addr, data := data, enables := enables, watched := true } } := by
  have harrives := s.arrives false addr data enables
  rw [hwatching] at harrives
  generalize s.arrive false addr data enables = t at harrives ⊢
  cases harrives with
  | stopped hwrite _ _ => cases hwrite
  | held _ => rfl
  | claims hopen _ => exact absurd ⟨rfl, rfl, (s.path.fenceCovers_iff addr).1 hcovers⟩ hopen

end

/-! ### Accesses that go down as they came (R131, R132) -/

/-- A claimant whose turn it is takes the port, and where its write is no captured word nothing else changes. -/
theorem HostFirst.claimPort_plain {s : State} (h : HostFirst s) (hheld : s.path.heldRead = none) {a : HostAccess}
    (huncaptured : ¬s.path.Captures a) : s.claimPort a = s.granted a := by
  rw [h.claimPort hheld]
  refine State.capture_of_uncaptured ?_
  rwa [PathUnit.Captures, show (s.granted a).path.planBase = s.path.planBase from PathUnit.granted_planBase ..]

/-- Settles O15: an access on which no window acts claims the port, and one that breaks R130 stops. -/
theorem hostAccessIsPassedDown : Obligations.HostAccessIsPassedDown := by
  refine ⟨fun write addr data enables s haligned hout hwrite hread => ?_,
    fun write addr data enables s h => s.hostAccess_misaligned _ _ _ h,
    fun addr data enables s h => s.hostAccess_misaligned _ _ _ h, fun addr s h => s.hostAccess_misaligned _ _ _ h,
    fun write addr data enables s haligned hout => ?_, fun s n w data enables hlaw hout => ?_⟩
  · have halignedWord : wordAligned addr = true := by simpa [wordAligned] using haligned
    have hclaims := s.arrive_claims write data enables
      (fun hwatching hw => decide_eq_false (Nat.not_lt.2 (hwrite hwatching hw).1)) hread
    dsimp only
    rw [exec, execHostAccess, s.hostAccess_taken write data enables halignedWord hout, hclaims]
    refine ⟨fun hfirst => ?_, fun hbusy => by rw [State.claimPort_of_busy hbusy]⟩
    rw [hfirst.claimPort_plain (PathUnit.heldRead_of_not_outstanding hout) fun ⟨hw, hwatching, hoffset⟩ => by
      have huncaptured := (hwrite hwatching hw).2
      dsimp only at hoffset
      omega]
    exact ⟨_, rfl, PathUnit.granted_spec .., rfl⟩
  · have halignedWord : wordAligned addr = true := by simpa [wordAligned] using haligned
    exact ⟨s.hostAccess_outstanding _ _ _ halignedWord hout, s.hostAccess_outstanding _ _ _ halignedWord hout,
      s.hostAccess_outstanding _ _ _ halignedWord hout⟩
  · have stopped : ∀ word, s.hostAccess true (s.path.planAddr word) data enables = .fault .accessOutstanding := fun word =>
      s.hostAccess_outstanding _ _ _ (hlaw.planAddr_aligned word) hout
    exact ⟨stopped _, stopped _, stopped _, stopped _⟩

/-! ### Parameter words (R133) -/

/-- Settles O16: a parameter word comes to the port as any captured word, and is merged there or waits. -/
theorem planWordWriteMergesTheShadow : Obligations.PlanWordWriteMergesTheShadow := by
  intro s n w data enables hwatching hlaw hout
  refine ⟨fun hfirst => ?_, fun hbusy => State.planWrite_waits hwatching hlaw hout (.slotWord n w.castSucc) data enables hbusy⟩
  have hgranted := hfirst.planWrite hwatching hlaw hout (.slotWord n w.castSucc) data enables
  rw [State.captureWord, State.captureSlotWord_parameter] at hgranted
  exact ⟨_, hgranted, PathUnit.granted_spec .., State.mergeSlotWord_shadowMerged .., rfl⟩

/-! ### The mirror window (R134, R135) -/

/-- The part with a write stopped and counted, before GUARD is raised. -/
def State.guardCounted (s : State) : State :=
  State.mark { s with mirror := { s.mirror with guardCount := min 65535 (s.mirror.guardCount + 1) } } .header

theorem State.stopWrite_mirror (s : State) (a : HostAccess) :
    (s.stopWrite a).mirror =
      if s.path.guardInterval = some s.clock.interval then s.guardCounted.mirror
      else (s.guardCounted.raise (.guard a.addr (min 65535 (s.mirror.guardCount + 1))) none none).mirror := by
  unfold State.stopWrite
  dsimp only
  split
  · rfl
  · rw [State.raise_mirror, State.raise_mirror]
    rfl

/-- The guard of the mirror window: the count, and GUARD for the first write of an interval. -/
theorem State.stopWrite_guards (s : State) (a : HostAccess) :
    let t := s.stopWrite a
    t.mirror.guardCount = min 65535 (s.mirror.guardCount + 1) ∧ t.mirror.dirty.has .header = true ∧
      if s.path.guardInterval = some s.clock.interval then
        t.mirror = { s.mirror with guardCount := t.mirror.guardCount, dirty := t.mirror.dirty }
      else
        Raises { s.mirror with guardCount := t.mirror.guardCount } t.mirror
          (plainAlert s (.guard a.addr t.mirror.guardCount)) := by
  dsimp only
  rw [State.stopWrite_mirror]
  split
  · exact ⟨rfl, rfl, rfl⟩
  · have hraises : Raises { s.mirror with guardCount := min 65535 (s.mirror.guardCount + 1) }
        (s.guardCounted.raise (.guard a.addr (min 65535 (s.mirror.guardCount + 1))) none none).mirror
        (plainAlert s (.guard a.addr (min 65535 (s.mirror.guardCount + 1)))) :=
      ((MarksOnly.refl _).mark .header).raises _ none none
    have hcount : (s.guardCounted.raise (.guard a.addr (min 65535 (s.mirror.guardCount + 1))) none none).mirror.guardCount =
        min 65535 (s.mirror.guardCount + 1) := by rw [hraises.1]
    exact ⟨hcount, State.raise_mark_header .., by rw [hcount]; exact hraises⟩

/-- Settles O19: a watched write of the mirror window is stopped, a read of the open record held, and one at a CLOSED fence
passed down. -/
theorem mirrorWindowIsGuarded : Obligations.MirrorWindowIsGuarded := by
  refine ⟨fun s addr data enables hwatching haligned hout hmirror => ?_, fun s addr hwatching haligned hout => ?_⟩
  all_goals have halignedWord : wordAligned addr = true := by simpa [wordAligned] using haligned
  · obtain ⟨hcount, hheader, halert⟩ := s.stopWrite_guards
      { write := true, addr := addr, data := data, enables := enables, watched := true }
    refine ⟨_, ?_, State.eq_of_fields (by simp), s.stopWrite_path _, hcount, hheader, halert⟩
    rw [exec, execMirrorWriteStopped, s.hostAccess_taken true data enables halignedWord hout,
      s.arrive_stopped data enables hwatching (decide_eq_true hmirror)]
  · dsimp only
    rw [exec, execFencedRead, s.hostAccess_taken false 0 0xF halignedWord hout]
    refine ⟨fun r hfence hlow hhigh => ?_, fun hclosed hfirst => ?_⟩
    · have hcovers : s.path.fenceCovers addr = true :=
        (s.path.fenceCovers_iff addr).2 ⟨r, hfence, by
          rw [RecordId.covers, decide_eq_true hlow, decide_eq_true hhigh]
          rfl⟩
      rw [s.arrive_held 0 0xF hwatching hcovers]
      rfl
    · rw [s.arrive_claims false 0 0xF nofun fun _ _ => by rw [PathUnit.fenceCovers, hclosed], hwatching,
        hfirst.claimPort_plain (PathUnit.heldRead_of_not_outstanding hout) fun h => by cases h.1]
      exact ⟨_, rfl, PathUnit.granted_spec .., rfl⟩

end Sys2Proof.Machine
end

section
/-!
PROOF. Memory's completions (R132, R135, R136, R141): what a completed access writes and frees, and the arbiter's next grant in
each of R136's cases (log entries 5, 20 and 27).
-/

namespace Sys2Proof.Machine

open Sys2Proof

/-! ### The two completions -/

theorem exec_hostCompletion {s : State} {a : HostAccess} (h : s.path.port = .host a) :
    exec .downstreamCompletion s = .next (s.freePort.completeHost a).arbitrate := by
  rw [exec, execDownstreamCompletion, h]

theorem exec_wordCompletion {s : State} {w : BacklogWord} (h : s.path.port = .backlog w) :
    exec .downstreamCompletion s = .next (s.freePort.completeBacklog w).arbitrate := by
  rw [exec, execDownstreamCompletion, h]

/-! ### The bytes of a completed word (R130, R132) -/

/-- The four bytes of a word stand at different addresses. -/
theorem byteAddr_inj {a : Addr} {i j : Nat} (hi : i < 4) (hj : j < 4) (h : byteAddr a i = byteAddr a j) : i = j := by
  simp only [byteAddr, BitVec.toNat_add, BitVec.toNat_ofNat] at h
  have hlt := a.isLt
  omega

section

variable (a : Addr) (data : Word) (enables : BitVec 4) {m : List Host.Cell} (h : Memory.wf m = true)

include h

/-- An enabled byte reads as written. -/
theorem memByte_memWrite_enabled {i : Nat} (hi : i < 4) (henabled : enables.getLsbD i = true) :
    memByte (memWrite m a data enables) (byteAddr a i) = wordByte data i := by
  have hne : ∀ j, j < 4 → j ≠ i → ¬(enables.getLsbD j = true ∧ byteAddr a i = byteAddr a j) := fun j hj hji hsame =>
    hji (byteAddr_inj hi hj hsame.2).symm
  rw [memByte_memWrite a data enables _ h]
  match i, hi with
  | 0, _ =>
    rw [if_neg (hne 3 (by omega) (by omega)), if_neg (hne 2 (by omega) (by omega)), if_neg (hne 1 (by omega) (by omega)),
      if_pos ⟨henabled, rfl⟩]
  | 1, _ => rw [if_neg (hne 3 (by omega) (by omega)), if_neg (hne 2 (by omega) (by omega)), if_pos ⟨henabled, rfl⟩]
  | 2, _ => rw [if_neg (hne 3 (by omega) (by omega)), if_pos ⟨henabled, rfl⟩]
  | 3, _ => rw [if_pos ⟨henabled, rfl⟩]

/-- A byte that no enable reaches reads as before. -/
theorem memByte_memWrite_other {k : Nat} (hk : ∀ i, i < 4 → enables.getLsbD i = true → k ≠ byteAddr a i) :
    memByte (memWrite m a data enables) k = memByte m k := by
  have hne : ∀ i, i < 4 → ¬(enables.getLsbD i = true ∧ k = byteAddr a i) := fun i hi hreached => hk i hi hreached.1 hreached.2
  rw [memByte_memWrite a data enables _ h, if_neg (hne 3 (by omega)), if_neg (hne 2 (by omega)), if_neg (hne 1 (by omega)),
    if_neg (hne 0 (by omega))]

end

/-- A backlog word enables its four bytes. -/
theorem allEnabled {i : Nat} (hi : i < 4) : (0xF : BitVec 4).getLsbD i = true := by
  match i, hi with
  | 0, _ => rfl
  | 1, _ => rfl
  | 2, _ => rfl
  | 3, _ => rfl

/-! ### The slot that a completed word frees (R141) -/

/-- An ANSWERED slot becomes FREE, and any other is left. -/
theorem State.freeSlot_cases (s : State) (n : SlotNo) :
    (∃ req, (s.slot n).busy = some (.answered, req) ∧ s.freeSlot n = s.setSlot n { s.slot n with busy := none }) ∨
      ((∀ req, (s.slot n).busy ≠ some (.answered, req)) ∧ s.freeSlot n = s) := by
  unfold State.freeSlot
  split
  · next req hbusy => exact .inl ⟨req, hbusy, rfl⟩
  · next req hbusy => exact .inr ⟨fun _ h => (by cases hbusy.symm.trans h), rfl⟩
  · next req hbusy => exact .inr ⟨fun _ h => (by cases hbusy.symm.trans h), rfl⟩
  · next hbusy => exact .inr ⟨fun _ h => (by cases hbusy.symm.trans h), rfl⟩

theorem BacklogWord.freedSlot_iff (w : BacklogWord) (n : SlotNo) :
    w.freedSlot = some n ↔ w.freesSlot = true ∧ w.record = .slot n := by
  unfold BacklogWord.freedSlot RecordId.slotNo
  cases w.freesSlot <;> cases w.record <;> simp

theorem SlotsFreed.of_same {s : State} {w : BacklogWord}
    (h : ∀ n req, w.last = true → w.freesSlot = true → w.record = .slot n → (s.slot n).busy ≠ some (.answered, req)) :
    SlotsFreed s s w :=
  ⟨rfl, fun n => ⟨fun ⟨hlast, hfrees, hrecord, req, hbusy⟩ => absurd hbusy (h n req hlast hfrees hrecord), fun _ => rfl⟩⟩

/-- A record's last word frees the slot that it answers, and no other. -/
theorem State.freeSlotOf_freed (s : State) {w : BacklogWord} (hlast : w.last = true) :
    SlotsFreed s (s.freeSlotOf w.freedSlot) w := by
  cases hslot : w.freedSlot with
  | none =>
    refine .of_same fun n req _ hfrees hrecord => ?_
    cases hslot.symm.trans ((w.freedSlot_iff n).2 ⟨hfrees, hrecord⟩)
  | some n =>
    obtain ⟨hfrees, hrecord⟩ := (w.freedSlot_iff n).1 hslot
    have hother : ∀ {m : SlotNo}, w.record = .slot m → m = n := fun hm => RecordId.slot.inj (hm.symm.trans hrecord)
    rw [State.freeSlotOf]
    obtain ⟨req, hbusy, hfreed⟩ | ⟨hbusy, hkept⟩ := s.freeSlot_cases n
    · rw [hfreed]
      refine ⟨rfl, fun m => ⟨fun ⟨_, _, hm, _⟩ => ?_, fun hkeeps => ?_⟩⟩
      · cases hother hm
        exact State.setSlot_slot_self ..
      · rw [State.setSlot_slot]
        refine if_neg fun hmn => ?_
        subst hmn
        exact hkeeps ⟨hlast, hfrees, hrecord, req, hbusy⟩
    · rw [hkept]
      refine .of_same fun m req _ _ hm => ?_
      cases hother hm
      exact hbusy req

/-! ### The part between the completion and the next grant -/

/-- The Path Unit with the port FREE and the fence, the held read, the claimant and the reply given. -/
def PathUnit.released (p : PathUnit) (fence : Option RecordId) (held claim : Option HostAccess) (reply : Option HostReply) :
    PathUnit :=
  { p with port := .free, fence := fence, heldRead := held, waiting := claim, reply := reply }

theorem State.completeHost_eq (s : State) (a : HostAccess) :
    s.freePort.completeHost a =
      { s with
        memory := if a.write = true then memWrite s.memory a.addr a.data a.enables else s.memory
        path := s.path.released s.path.fence s.path.heldRead s.path.waiting
          (some { access := a, data := if a.write = true then 0 else memWord s.memory a.addr }) } := by
  refine State.eq_of_fields ?_
  simp [State.completeHost_path, State.completeHost_memory, PathUnit.released]

theorem PathUnit.wordCompleted_last {p : PathUnit} {w : BacklogWord} (h : w.last = true) :
    p.wordCompleted w = p.released none none (p.heldRead.or p.waiting) p.reply := if_pos h

theorem PathUnit.wordCompleted_inner {p : PathUnit} {w : BacklogWord} (h : w.last = false) :
    p.wordCompleted w = p.released p.fence p.heldRead p.waiting p.reply := if_neg (by simp [h])

theorem State.completeBacklog_eq (s : State) (w : BacklogWord) :
    s.freePort.completeBacklog w =
      { s with
        memory := memWrite s.memory w.addr w.data 0xF, intake := (s.freePort.completeBacklog w).intake
        path := s.path.wordCompleted w } := by
  refine State.eq_of_fields ?_
  simp [State.completeBacklog_path, State.completeBacklog_memory]

theorem State.completeBacklog_inner (s : State) {w : BacklogWord} (h : w.last = false) :
    (s.freePort.completeBacklog w).intake = s.intake := by
  unfold State.completeBacklog
  dsimp only
  rw [if_neg (by simp [h])]
  rfl

/-- The slots behind a completed word. -/
theorem State.completeBacklog_freed (s : State) (w : BacklogWord) :
    SlotsFreed s { s with intake := (s.freePort.completeBacklog w).intake } w := by
  cases hlast : w.last with
  | false =>
    rw [State.completeBacklog_inner s hlast]
    refine .of_same fun n req h => ?_
    cases hlast.symm.trans h
  | true =>
    have hfreed := State.freeSlotOf_freed
      (({ s.freePort with memory := memWrite s.freePort.memory w.addr w.data 0xF } : State).updPath PathUnit.closeFence) hlast
    unfold State.completeBacklog
    dsimp only
    rw [if_pos hlast]
    exact hfreed

/-! ### The grant, by its claimants (R136) -/

theorem State.arbitrate_host {s : State} {a : HostAccess} (hfree : s.path.port = .free) (hheld : s.path.heldRead = none)
    (hwaiting : s.path.waiting = some a) (hdue : ¬s.WordDue) : s.arbitrate = (s.granted a).capture a := by
  have hfirst : ¬s.WordFirst := by simp [State.WordFirst, hheld, hwaiting, hdue]
  have harb := s.arbitrated
  generalize s.arbitrate = t at harb
  cases harb with
  | busy hbusy => exact absurd hfree hbusy
  | idle _ hturn _ => exact absurd hturn hfirst
  | host b _ _ hb _ => cases hwaiting.symm.trans hb; rfl
  | word _ _ _ hturn _ => exact absurd hturn hfirst

theorem State.WordFirst.not_host {s : State} (h : s.WordFirst) {a : HostAccess} (hheld : s.path.heldRead = none)
    (hwaiting : s.path.waiting = some a) (hdue : ¬s.WordDue) : False := by
  obtain hread | hidle | hword := h
  · exact hread hheld
  · cases hidle.symm.trans hwaiting
  · exact hdue hword

theorem State.arbitrate_word {s : State} {w : BacklogWord} {rest : List BacklogWord} (hfree : s.path.port = .free)
    (hturn : s.WordFirst) (hbacklog : s.mirror.backlog = w :: rest) : s.arbitrate = s.grantBacklog w rest := by
  have harb := s.arbitrated
  generalize s.arbitrate = t at harb
  cases harb with
  | busy hbusy => exact absurd hfree hbusy
  | idle _ _ hnone => cases hbacklog.symm.trans hnone
  | host b _ hheld hwaiting hdue => exact (hturn.not_host hheld hwaiting hdue).elim
  | word _ _ _ _ hb => cases hbacklog.symm.trans hb; rfl

theorem State.arbitrate_busy {s : State} (h : s.path.port ≠ .free) : s.arbitrate = s := by
  have harb := s.arbitrated
  generalize s.arbitrate = t at harb
  cases harb with
  | busy _ => rfl
  | idle _ _ _ => rfl
  | host _ hfree _ _ _ => exact absurd hfree h
  | word _ _ hfree _ _ => exact absurd hfree h

theorem State.arbitrate_idle {s : State} (hturn : s.WordFirst) (hbacklog : s.mirror.backlog = []) :
    s.arbitrate = s := by
  have harb := s.arbitrated
  generalize s.arbitrate = t at harb
  cases harb with
  | busy _ => rfl
  | idle _ _ _ => rfl
  | host b _ hheld hwaiting hdue => exact (hturn.not_host hheld hwaiting hdue).elim
  | word _ _ _ _ hb => cases hbacklog.symm.trans hb

/-- A grant leaves the host's reply. -/
theorem Arbitrated.reply {s t : State} (h : Arbitrated s t) : t.path.reply = s.path.reply := by
  cases h with
  | busy _ => rfl
  | idle _ _ _ => rfl
  | host a _ _ _ _ => rw [State.granted_path]
  | word w rest _ _ _ =>
    rw [State.grantBacklog_path]
    obtain ⟨a, _, _, hheld⟩ | ⟨_, hwaits⟩ := (s.path.opened w rest.length).holdCovered_cases
    · rw [hheld]
      rfl
    · rw [hwaits]
      rfl

/-- With no access waiting nothing is captured. -/
theorem Arbitrated.intake {s t : State} (h : Arbitrated s t) (hwaiting : s.path.waiting = none) : t.intake = s.intake := by
  cases h with
  | busy _ => rfl
  | idle _ _ _ => rfl
  | host a _ _ hclaim _ => cases hwaiting.symm.trans hclaim
  | word w rest _ _ _ => rfl

/-! ### A completed host access (R132) -/

/-- Settles O20: the completed access writes its enabled bytes or returns memory's word, and the arbiter leaves the reply. -/
theorem hostAccessCompletes : Obligations.HostAccessCompletes := by
  intro s a hport hmemory
  have harb := (s.freePort.completeHost a).arbitrated
  have hmem : (s.freePort.completeHost a).arbitrate.memory =
      if a.write = true then memWrite s.memory a.addr a.data a.enables else s.memory := by
    rw [State.arbitrate_memory, State.completeHost_memory]
    rfl
  refine ⟨_, exec_hostCompletion hport, ?_, fun hread => ?_, fun hwrite => ?_, fun hwaiting hheld hbacklog => ?_⟩
  · rw [harb.reply, State.completeHost_path]
  · rw [hmem, if_neg (by simp [hread])]
  · rw [hmem, if_pos hwrite]
    exact ⟨fun i hi henabled => memByte_memWrite_enabled a.addr a.data a.enables hmemory hi henabled,
      fun k hk => memByte_memWrite_other a.addr a.data a.enables hmemory hk⟩
  · have hidle : (s.freePort.completeHost a).arbitrate = s.freePort.completeHost a := by
      rw [State.completeHost_eq]
      exact State.arbitrate_idle (.inr (.inl hwaiting)) hbacklog
    rw [hidle, State.completeHost_eq]
    rfl

/-! ### A completed backlog word (R135, R141) -/

/-- Settles O21: the completed word's bytes stand, and a record's last word closes the fence before the next grant. -/
theorem backlogWordCompletes : Obligations.BacklogWordCompletes := by
  intro s w hport hmemory
  have harb := (s.freePort.completeBacklog w).arbitrated
  have hpath := s.completeBacklog_path w
  have hmem : (s.freePort.completeBacklog w).arbitrate.memory = memWrite s.memory w.addr w.data 0xF := by
    rw [State.arbitrate_memory, State.completeBacklog_memory]
    rfl
  have hbacklog : (s.freePort.completeBacklog w).mirror.backlog = s.mirror.backlog := by simp
  refine ⟨_, exec_wordCompletion hport, fun i hi => ?_, fun k hk => ?_, fun hinner => ?_, fun hlast hwaiting howed =>
    ⟨fun a hheld => ?_,    fun hheld hnone => ?_, fun n req hfrees hrecord hheld hbusy => ?_⟩⟩
  · rw [hmem]
    exact memByte_memWrite_enabled w.addr w.data 0xF hmemory hi (allEnabled hi)
  · rw [hmem]
    exact memByte_memWrite_other w.addr w.data 0xF hmemory fun i hi _ => hk i hi
  · by_cases hwaiting : s.path.waiting = none
    · left
      rw [harb.intake (by rw [hpath, PathUnit.wordCompleted_inner hinner]; exact hwaiting), State.completeBacklog_inner s hinner]
    · exact .inr hwaiting
  · rw [PathUnit.wordCompleted_last hlast, hheld] at hpath
    have hdue : ¬(s.freePort.completeBacklog w).WordDue := fun ⟨_, hword, _⟩ => by
      rw [hpath] at hword
      cases howed.symm.trans hword
    rw [State.arbitrate_host (a := a) (by rw [hpath]; rfl) (by rw [hpath]; rfl) (by rw [hpath]; rfl) hdue, State.granted_path,
      hpath]
    exact ⟨rfl, rfl, rfl⟩
  · rw [PathUnit.wordCompleted_last hlast, hheld, hwaiting] at hpath
    rw [State.arbitrate_idle (.inr (.inl (by rw [hpath]; rfl))) (hbacklog.trans hnone), hpath]
    exact ⟨rfl, rfl⟩
  · rw [PathUnit.wordCompleted_last hlast, hheld, hwaiting] at hpath
    rw [State.slot, harb.intake (by rw [hpath]; rfl)]
    exact ((s.completeBacklog_freed w).2 n).1 ⟨hlast, hfrees, hrecord, req, hbusy⟩

/-! ### The arbiter's cases (R136) -/

/-- What a grant captures depends on the plan base, Plan Intake, the clock and the Mirror Writer alone. -/
theorem Captured.of_same {s x t : State} {a : HostAccess} (h : Captured x t a) (hbase : x.path.planBase = s.path.planBase)
    (hintake : x.intake = s.intake) (hclock : x.clock = s.clock) (hmirror : x.mirror = s.mirror) : Captured s t a := by
  obtain ⟨_, _, _, _, _, _, xclock, xmirror, xpath, xintake, _, _, _, _⟩ := x
  dsimp only at hbase hintake hclock hmirror
  subst hintake hclock hmirror
  unfold Captured at h ⊢
  dsimp only at h
  rw [hbase] at h
  exact h

/-- Only the claimant can move as a word is granted. -/
theorem PathUnit.holdCovered_only (p : PathUnit) :
    p.holdCovered = { p with heldRead := p.holdCovered.heldRead, waiting := p.holdCovered.waiting } := by
  obtain ⟨a, _, _, h⟩ | ⟨_, h⟩ := p.holdCovered_cases <;> rw [h]

/-- The grant that follows a completion, from the fence, the held read and the claimant that the completion leaves, `u` being the
part with the slots as the completion leaves them (R136). -/
structure GrantsInOrder (s t u : State) (fence : Option RecordId) (held claim : Option HostAccess) : Prop where
  only : t = { s with memory := t.memory, path := t.path, mirror := t.mirror, intake := t.intake, clock := t.clock }
  host : ∀ a, held = none → claim = some a → ¬s.WordDue →
    Granted { s.path with fence := fence, heldRead := none, reply := t.path.reply } t.path s.mirror.backlog.length a ∧
    Captured u t a
  word : ∀ w rest, s.mirror.backlog = w :: rest → (held ≠ none ∨ claim = none ∨ s.WordDue) →
    t.mirror = { s.mirror with backlog := rest } ∧ t.intake = u.intake ∧ t.clock = s.clock ∧
    t.path.port = .backlog w ∧ t.path.fence = some (fence.getD w.record) ∧ t.path.backlogOwed = false ∧
    t.path.alternation = alternationAfter s.path.alternation rest.length ∧
    (claim = none → t.path.heldRead = held ∧ t.path.waiting = none) ∧
    ∀ a, held = none → claim = some a →
      let covered : Prop := a.watched = true ∧ a.write = false ∧ (fence.getD w.record).covers s.path.mirrorBase a.addr = true
      (covered → t.path.heldRead = some a ∧ t.path.waiting = none) ∧
      (¬covered → t.path.heldRead = none ∧ t.path.waiting = some a)
  idle : s.mirror.backlog = [] → (held ≠ none ∨ claim = none) →
    t.mirror = s.mirror ∧ t.intake = u.intake ∧ t.clock = s.clock ∧
    t.path = { s.path with port := .free, fence := fence, heldRead := held, waiting := none, reply := t.path.reply }

/-- The part as a completion leaves it to the arbiter. -/
def State.completed (s : State) (memory : List Host.Cell) (intake : PlanIntake) (path : PathUnit) : State :=
  { s with memory := memory, intake := intake, path := path }

section

variable (s : State) (memory : List Host.Cell) (intake : PlanIntake) (fence : Option RecordId) (held claim : Option HostAccess)
  (reply : Option HostReply)

theorem State.completed_host {a : HostAccess} (hdue : ¬s.WordDue) :
    let y := s.completed memory intake (s.path.released fence none (some a) reply)
    Granted { s.path with fence := fence, heldRead := none, reply := y.arbitrate.path.reply } y.arbitrate.path
        s.mirror.backlog.length a ∧
      Captured { s with intake := intake } y.arbitrate a := by
  dsimp only
  have hgrant : (s.completed memory intake (s.path.released fence none (some a) reply)).arbitrate = _ :=
    State.arbitrate_host (a := a) rfl rfl rfl hdue
  rw [hgrant]
  refine ⟨?_, (State.capture_captured _ a).of_same ?_ rfl rfl rfl⟩
  · rw [Granted, State.granted_path]
    rfl
  · exact PathUnit.granted_planBase ..

/-- The claimant, as a word is granted behind a completion: held when it is a watched read of the record then open. -/
theorem State.completed_claimant {a : HostAccess} {w : BacklogWord} (depth : Nat) :
    let p := ((s.path.released fence none (some a) reply).opened w depth).holdCovered
    let covered : Prop := a.watched = true ∧ a.write = false ∧ (fence.getD w.record).covers s.path.mirrorBase a.addr = true
    (covered → p.heldRead = some a ∧ p.waiting = none) ∧ (¬covered → p.heldRead = none ∧ p.waiting = some a) := by
  have hcovered : ReadsFenced ((s.path.released fence none (some a) reply).opened w depth) a ↔
      a.watched = true ∧ a.write = false ∧ (fence.getD w.record).covers s.path.mirrorBase a.addr = true := by
    simp [ReadsFenced, PathUnit.opened, PathUnit.released]
  dsimp only
  rw [← hcovered]
  obtain ⟨b, hb, hread, hheld⟩ | ⟨hopen, hwaits⟩ :=
    ((s.path.released fence none (some a) reply).opened w depth).holdCovered_cases
  · cases hb
    rw [hheld]
    exact ⟨fun _ => ⟨rfl, rfl⟩, fun hnot => absurd hread hnot⟩
  · rw [hwaits]
    exact ⟨fun hread => absurd hread (hopen a rfl), fun _ => ⟨rfl, rfl⟩⟩

/-- Settled behind any completion, with at most one of held read and claimant. -/
theorem State.completed_grantsInOrder (hone : held = none ∨ claim = none) :
    GrantsInOrder s (s.completed memory intake (s.path.released fence held claim reply)).arbitrate { s with intake := intake } fence
      held claim where
  only := State.eq_of_fields (by simp [State.completed])
  host a hheld hclaim hdue := by
    subst hheld hclaim
    exact s.completed_host memory intake fence reply hdue
  word w rest hbacklog hturn := by
    have hgrant : (s.completed memory intake (s.path.released fence held claim reply)).arbitrate = _ :=
      State.arbitrate_word rfl hturn hbacklog
    have hpath := State.grantBacklog_path (s.completed memory intake (s.path.released fence held claim reply)) w rest
    have honly := ((s.path.released fence held claim reply).opened w rest.length).holdCovered_only
    rw [hgrant]
    refine ⟨rfl, rfl, rfl, ?_⟩
    rw [hpath]
    refine ⟨congrArg PathUnit.port honly, congrArg PathUnit.fence honly, congrArg PathUnit.backlogOwed honly,
      congrArg PathUnit.alternation honly, fun hclaim => ?_, fun a hheld hclaim => ?_⟩
    · rw [PathUnit.holdCovered_of_idle hclaim]
      exact ⟨rfl, hclaim⟩
    · subst hheld hclaim
      exact s.completed_claimant fence reply rest.length
  idle hbacklog hturn := by
    have hclaim : claim = none := hturn.elim hone.resolve_left id
    subst hclaim
    have hgrant : (s.completed memory intake (s.path.released fence held none reply)).arbitrate = _ :=
      State.arbitrate_idle (.inr (.inl rfl)) hbacklog
    rw [hgrant]
    exact ⟨rfl, rfl, rfl, rfl⟩

end

/-- Settles O22: each completion leaves the port FREE with its claimants, and the arbiter's grant follows in R136's order. -/
theorem arbiterGrantsInOrder : Obligations.ArbiterGrantsInOrder := by
  refine ⟨fun s hlaw hbusy => ?_, fun s hfree => by rw [exec, execDownstreamCompletion, hfree]⟩
  obtain ⟨hone, _⟩ := hlaw
  cases hport : s.path.port with
  | free => exact absurd hport hbusy
  | host a =>
    have hexec := exec_hostCompletion hport
    rw [State.completeHost_eq] at hexec
    have hgrant := s.completed_grantsInOrder (if a.write = true then memWrite s.memory a.addr a.data a.enables else s.memory)
      s.intake s.path.fence s.path.heldRead s.path.waiting
      (some { access := a, data := if a.write = true then 0 else memWord s.memory a.addr }) hone
    exact ⟨_, s, s.path.fence, s.path.heldRead, s.path.waiting, hexec, nofun, fun _ => ⟨rfl, rfl, rfl⟩, rfl, fun _ _ => rfl,
      nofun, hgrant.only, hgrant.host, hgrant.word, hgrant.idle⟩
  | backlog w =>
    have hexec := exec_wordCompletion hport
    have hfreed := s.completeBacklog_freed w
    rw [State.completeBacklog_eq] at hexec
    generalize (s.freePort.completeBacklog w).intake = intake at hexec hfreed
    cases hlast : w.last with
    | true =>
      rw [PathUnit.wordCompleted_last hlast] at hexec
      have hgrant := s.completed_grantsInOrder (memWrite s.memory w.addr w.data 0xF) intake none none
        (s.path.heldRead.or s.path.waiting) s.path.reply (.inl rfl)
      refine ⟨_, { s with intake := intake }, none, none, s.path.heldRead.or s.path.waiting, hexec, fun _ => ⟨rfl, rfl, rfl⟩,
        fun hopen => absurd ⟨w, rfl, hlast⟩ hopen, rfl, nofun, fun v hv => ?_, hgrant.only, hgrant.host, hgrant.word, hgrant.idle⟩
      cases hv
      exact hfreed
    | false =>
      rw [PathUnit.wordCompleted_inner hlast] at hexec
      have hgrant := s.completed_grantsInOrder (memWrite s.memory w.addr w.data 0xF) intake s.path.fence s.path.heldRead
        s.path.waiting s.path.reply hone
      refine ⟨_, { s with intake := intake }, s.path.fence, s.path.heldRead, s.path.waiting, hexec, fun ⟨v, hv, hl⟩ => ?_,
        fun _ => ⟨rfl, rfl, rfl⟩, rfl, nofun, fun v hv => ?_, hgrant.only, hgrant.host, hgrant.word, hgrant.idle⟩
      · cases hv
        cases hlast.symm.trans hl
      · cases hv
        exact hfreed

end Sys2Proof.Machine
end

section
/-!
PROOF. The Path Unit after each reset (R137, R144; log entry 24).
-/

namespace Sys2Proof.Machine

open Sys2Proof

/-! ### A power-on and the RESET line -/

/-- What such a reset leaves to the arbiter: no word to grant, and at most an access to pass down. -/
structure ResetLeaves (s x : State) : Prop where
  path : x.path = s.path.afterReset
  backlog : x.mirror.backlog = []

namespace ResetLeaves

variable {s x : State} (h : ResetLeaves s x)

include h

/-- The arbiter moves the port and the claimant alone. -/
theorem only :
    x.arbitrate.path = { s.path.afterReset with port := x.arbitrate.path.port, waiting := x.arbitrate.path.waiting } := by
  have harb := x.arbitrated
  generalize x.arbitrate = t at harb ⊢
  cases harb with
  | busy _ => rw [h.path]
  | idle _ _ _ => rw [h.path]
  | host a _ _ _ _ =>
    rw [State.granted_path, h.path, h.backlog]
    rfl
  | word _ _ _ _ hword => cases h.backlog.symm.trans hword

theorem port : x.path.port = s.path.port.afterReset := by rw [h.path]; rfl

theorem waiting : x.path.waiting = s.path.waitingAfterReset := by rw [h.path]; rfl

/-- An access on the port stays there, and so does a word, which frees no slot. -/
theorem busy (hbusy : s.path.port ≠ .free) : x.arbitrate = x := by
  refine State.arbitrate_busy fun hfree => hbusy ?_
  rw [h.port] at hfree
  cases hport : s.path.port with
  | free => rfl
  | _ => rw [hport] at hfree; cases hfree

/-- At a FREE port the access goes on at once. -/
theorem free {a : HostAccess} (hfree : s.path.port = .free) (hwaits : s.path.waitingAfterReset = some a) :
    x.arbitrate.path.port = .host a ∧ x.arbitrate.path.waiting = none := by
  have hdue : ¬x.WordDue := fun ⟨_, _, hword⟩ => hword h.backlog
  rw [State.arbitrate_host (by rw [h.port, hfree]; rfl) (by rw [h.path]; rfl) (h.waiting.trans hwaits) hdue, State.granted_path]
  exact ⟨rfl, rfl⟩

/-- With no access nothing is granted. -/
theorem idle (hnone : s.path.waitingAfterReset = none) : x.arbitrate = x :=
  State.arbitrate_idle (.inr (.inl (h.waiting.trans hnone))) h.backlog

end ResetLeaves

/-- The access that waits after such a reset: a held read, or else the one that waited, UNWATCHED. -/
theorem PathUnit.waitingAfterReset_some {p : PathUnit} {a : HostAccess}
    (h : p.heldRead = some a ∨ (p.heldRead = none ∧ p.waiting = some a)) :
    p.waitingAfterReset = some { a with watched := false } := by
  obtain hheld | ⟨hheld, hwaiting⟩ := h
  · simp [PathUnit.waitingAfterReset, hheld]
  · simp [PathUnit.waitingAfterReset, hheld, hwaiting]

theorem PathUnit.waitingAfterReset_none {p : PathUnit} (hheld : p.heldRead = none) (hwaiting : p.waiting = none) :
    p.waitingAfterReset = none := by
  simp [PathUnit.waitingAfterReset, hheld, hwaiting]

/-! ### A depot restart -/

theorem State.depotRestart_slot (s : State) (n : SlotNo) : s.depotRestart.slot n = s.slot n := by
  simp [State.depotRestart, State.slot]

/-- Settles O8: what each reset leaves to the arbiter and its grant, and a RESTART behind its request. -/
theorem resetsSetThePathUnit : Obligations.ResetsSetThePathUnit := by
  refine ⟨fun straps level s c hc => ?_, fun s n req rest h hcode => ⟨_, h.restart hcode, ?_⟩⟩
  · obtain ⟨offsets, g, hexec⟩ : ∃ offsets g, exec c s = .next (s.startUp straps level offsets g) := by
      obtain rfl | rfl := hc
      · exact ⟨_, _, rfl⟩
      · exact ⟨_, _, rfl⟩
    obtain ⟨x, hx, hpath, hbacklog⟩ := s.startUp_arbitrates straps level offsets g
    have h : ResetLeaves s x := ⟨hpath, hbacklog⟩
    rw [hx] at hexec
    have honly := h.only
    refine ⟨_, hexec, congrArg PathUnit.watching honly, congrArg PathUnit.fence honly, congrArg PathUnit.heldRead honly,
      congrArg PathUnit.alternation honly, congrArg PathUnit.backlogOwed honly, congrArg PathUnit.guardInterval honly,
      fun a ha => ?_, fun w hw => ?_, fun a ha => ⟨fun hfree => ?_, fun hbusy => ?_⟩, fun hheld hwaiting => ⟨?_, fun hfree => ?_⟩⟩
    · rw [h.busy (by simp [ha]), h.port, ha]
      rfl
    · rw [h.busy (by simp [hw]), h.port, hw]
      rfl
    · exact h.free hfree (PathUnit.waitingAfterReset_some ha)
    · rw [h.busy hbusy, h.waiting, PathUnit.waitingAfterReset_some ha]
    · rw [h.idle (PathUnit.waitingAfterReset_none hheld hwaiting), h.waiting, PathUnit.waitingAfterReset_none hheld hwaiting]
    · rw [h.idle (PathUnit.waitingAfterReset_none hheld hwaiting), h.port, hfree]
      rfl
  · rw [State.storeResult_eq _ n .done 0 (phase := .queued) (req := req) (by rw [State.depotRestart_slot]; exact h.2)]
    dsimp only
    rw [State.depotRestart_path]
    rfl

end Sys2Proof.Machine
end

section
/-!
PROOF. The push of a record (R131, R135, R136, R141, R145, R146; log entry 17): the scan order of the dirty records, the words
that a record puts in the backlog, and the port's grant of the first of them.
-/

namespace Sys2Proof.Machine

open Sys2Proof

/-! ### Lists in rising rank -/

/-- A list rises strictly in rank, within bounds. -/
structure Ranked {α : Type} (rank : α → Nat) (low high : Nat) (l : List α) : Prop where
  rising : l.Pairwise fun a b => rank a < rank b
  bounds : ∀ a ∈ l, low ≤ rank a ∧ rank a < high

namespace Ranked

variable {α : Type} {rank : α → Nat} {low mid high : Nat} {l m : List α}

theorem append (h : Ranked rank low mid l) (g : Ranked rank mid high m) (hlow : low ≤ mid) (hhigh : mid ≤ high) :
    Ranked rank low high (l ++ m) where
  rising := List.pairwise_append.2 ⟨h.rising, g.rising, fun a ha b hb =>
    lt_of_lt_of_le (h.bounds a ha).2 (g.bounds b hb).1⟩
  bounds a ha := by
    obtain ha | ha := List.mem_append.1 ha
    · exact ⟨(h.bounds a ha).1, lt_of_lt_of_le (h.bounds a ha).2 hhigh⟩
    · exact ⟨le_trans hlow (g.bounds a ha).1, (g.bounds a ha).2⟩

/-- A rising list of numbers, each standing for an element whose rank differs from it by a constant. -/
theorem of_rising {n : Nat} {l : List (Fin n)} (hl : l.Pairwise (· < ·)) {g : Fin n → α} (base off : Nat)
    (hrank : ∀ i ∈ l, rank (g i) + off = base + i.val)
    (hbounds : ∀ i ∈ l, low + off ≤ base + i.val ∧ base + i.val < high + off) : Ranked rank low high (l.map g) where
  rising := by
    rw [List.pairwise_map]
    refine hl.imp_of_mem fun hi hj hij => ?_
    have hi := hrank _ hi
    have hj := hrank _ hj
    have hval := Fin.lt_def.1 hij
    omega
  bounds a ha := by
    obtain ⟨i, hi, rfl⟩ := List.mem_map.1 ha
    have hr := hrank i hi
    have hb := hbounds i hi
    omega

/-- All numbers in turn. -/
theorem of_all {n : Nat} {g : Fin n → α} (base : Nat) (hrank : ∀ i, rank (g i) = base + i.val) (hlow : low ≤ base)
    (hhigh : base + n ≤ high) : Ranked rank low high ((List.finRange n).map g) :=
  .of_rising (List.pairwise_lt_finRange n) base 0 (fun i _ => hrank i) fun i _ => by
    have hi := i.isLt
    omega

end Ranked

/-- The numbers that pass a test, in turn. -/
theorem pairwise_lt_filter {n : Nat} (p : Fin n → Bool) : ((List.finRange n).filter p).Pairwise (· < ·) :=
  (List.pairwise_lt_finRange n).filter p

/-! ### The scan order (R146; log entry 17) -/

/-- Alert entries in the order their alerts were stored, then those not stored. -/
theorem MirrorWriter.alertOrder_ranked (m : MirrorWriter) : Ranked (scanRank m) 1000 2000 (m.alertOrder.map RecordId.alert) := by
  unfold MirrorWriter.alertOrder
  rw [List.map_append, List.filter_map, List.map_map]
  refine Ranked.append (mid := 1064) (.of_rising (pairwise_lt_filter _) 1000 0 (fun k hk => ?_) fun k _ => ?_)
    (.of_rising (pairwise_lt_filter _) 1064 0 (fun i hi => ?_) fun i _ => ?_) (by omega) (by omega)
  · have hstored : (m.alerts.get (m.producer + k)).isSome = true := (List.mem_filter.1 hk).2
    simp [scanRank, hstored]
  · have hlt := k.isLt
    omega
  · have hempty : (m.alerts.get i).isSome = false := by simpa using (List.mem_filter.1 hi).2
    simp [scanRank, hempty, ← Nat.add_assoc]
  · have hlt := i.isLt
    omega

theorem LogArea.eq_other_of_ne : ∀ {a b : LogArea}, a ≠ b → a = b.other
  | .areaA, .areaA, h => absurd rfl h
  | .areaA, .areaB, _ => rfl
  | .areaB, .areaA, _ => rfl
  | .areaB, .areaB, h => absurd rfl h

theorem LogArea.other_ne (a : LogArea) : a.other ≠ a := by cases a <;> decide

/-- A stored log entry ranks by how far the log position has moved on since it was written. -/
theorem scanRank_log_stored {m : MirrorWriter} {a : LogArea} {i : LogIx} (h : (m.logEntry a i).isSome = true) :
    scanRank m (.log a i) =
      5000 + if a = m.logArea then (if m.logIndex ≤ i then i.val - m.logIndex.val else 240 + i.val - m.logIndex.val)
        else 120 - m.logIndex.val + i.val := by
  simp [scanRank, h]

theorem scanRank_log_empty {m : MirrorWriter} {a : LogArea} {i : LogIx} (h : (m.logEntry a i).isSome = false) :
    scanRank m (.log a i) = 5000 + (240 + (if a = .areaB then 120 else 0) + i.val) := by
  simp [scanRank, h]

/-- The stored log entries in the order they were written. -/
theorem MirrorWriter.logCycle_ranked (m : MirrorWriter) :
    Ranked (scanRank m) 5000 5240
      ((m.logCycle.filter fun p => (m.logEntry p.1 p.2).isSome).map fun p => RecordId.log p.1 p.2) := by
  have hindex := m.logIndex.isLt
  unfold MirrorWriter.logCycle
  rw [List.filter_append, List.filter_append, List.map_append, List.map_append, List.filter_map, List.filter_map, List.filter_map,
    List.map_map, List.map_map, List.map_map]
  refine Ranked.append (mid := 5240 - m.logIndex.val) (Ranked.append (mid := 5120 - m.logIndex.val)
    (.of_rising ((pairwise_lt_filter _).filter _) 5000 m.logIndex.val (fun i hi => ?_) fun i hi => ?_)
    (.of_rising (pairwise_lt_filter _) 5120 m.logIndex.val (fun i hi => ?_) fun i _ => ?_) (by omega) (by omega))
    (.of_rising ((pairwise_lt_filter _).filter _) 5240 m.logIndex.val (fun i hi => ?_) fun i hi => ?_) (by omega) (by omega)
  all_goals have hlt := i.isLt
  · obtain ⟨hpast, hstored⟩ := List.mem_filter.1 hi
    have hpast : m.logIndex ≤ i := by simpa using (List.mem_filter.1 hpast).2
    have hval := Fin.le_def.1 hpast
    rw [Function.comp_apply, scanRank_log_stored hstored, if_pos rfl, if_pos hpast]
    dsimp only
    omega
  · have hpast : m.logIndex ≤ i := by simpa using (List.mem_filter.1 (List.mem_filter.1 hi).1).2
    have hval := Fin.le_def.1 hpast
    omega
  · have hstored := (List.mem_filter.1 hi).2
    rw [Function.comp_apply, scanRank_log_stored hstored, if_neg m.logArea.other_ne]
    dsimp only
    omega
  · omega
  · obtain ⟨hbefore, hstored⟩ := List.mem_filter.1 hi
    have hbefore : i < m.logIndex := by simpa using (List.mem_filter.1 hbefore).2
    have hval := Fin.lt_def.1 hbefore
    rw [Function.comp_apply, scanRank_log_stored hstored, if_pos rfl, if_neg (not_le.2 hbefore)]
    dsimp only
    omega
  · have hbefore : i < m.logIndex := by simpa using (List.mem_filter.1 (List.mem_filter.1 hi).1).2
    have hval := Fin.lt_def.1 hbefore
    omega

/-- The log entries not stored, area A first. -/
theorem MirrorWriter.logEmpty_ranked (m : MirrorWriter) :
    Ranked (scanRank m) 5240 6000
      ((allLogEntries.filter fun p => (m.logEntry p.1 p.2).isNone).map fun p => RecordId.log p.1 p.2) := by
  unfold allLogEntries
  rw [List.filter_append, List.map_append, List.filter_map, List.filter_map, List.map_map, List.map_map]
  refine Ranked.append (mid := 5360) (.of_rising (pairwise_lt_filter _) 5240 0 (fun i hi => ?_) fun i _ => ?_)
    (.of_rising (pairwise_lt_filter _) 5360 0 (fun i hi => ?_) fun i _ => ?_) (by omega) (by omega)
  all_goals have hlt := i.isLt
  · have hempty : (m.logEntry .areaA i).isSome = false := by simpa using (List.mem_filter.1 hi).2
    rw [Function.comp_apply, scanRank_log_empty hempty, if_neg (by decide)]
    omega
  · omega
  · have hempty : (m.logEntry .areaB i).isSome = false := by simpa using (List.mem_filter.1 hi).2
    rw [Function.comp_apply, scanRank_log_empty hempty, if_pos rfl]
    omega
  · omega

/-- The scan order rises in rank. -/
theorem MirrorWriter.scanOrder_ranked (m : MirrorWriter) : Ranked (scanRank m) 0 6001 m.scanOrder := by
  have hslots : Ranked (scanRank m) 0 1000 ((List.finRange 16).map RecordId.slot) :=
    .of_all 0 (fun n => (Nat.zero_add n.val).symm) (by omega) (by omega)
  have hbays : Ranked (scanRank m) 2000 3000 ((List.finRange 48).map RecordId.bay) :=
    .of_all 2000 (fun _ => rfl) (by omega) (by omega)
  have hbookings : Ranked (scanRank m) 3000 4000 ((List.finRange 160).map RecordId.booking) :=
    .of_all 3000 (fun _ => rfl) (by omega) (by omega)
  have hroster : Ranked (scanRank m) 4000 5000 ((List.finRange 128).map RecordId.roster) :=
    .of_all 4000 (fun _ => rfl) (by omega) (by omega)
  have hlogs : Ranked (scanRank m) 5000 6000 (m.logOrder.map fun p => RecordId.log p.1 p.2) := by
    rw [MirrorWriter.logOrder, List.map_append]
    exact m.logCycle_ranked.append m.logEmpty_ranked (by omega) (by omega)
  have hheader : Ranked (scanRank m) 6000 6001 [RecordId.header] := ⟨List.pairwise_singleton _ _, by simp [scanRank]⟩
  exact (((((hslots.append m.alertOrder_ranked (by omega) (by omega)).append hbays (by omega) (by omega)).append hbookings
    (by omega) (by omega)).append hroster (by omega) (by omega)).append hlogs (by omega) (by omega)).append hheader (by omega)
    (by omega)

theorem MirrorWriter.mem_alertOrder (m : MirrorWriter) (i : RingIx) : i ∈ m.alertOrder := by
  unfold MirrorWriter.alertOrder
  rw [List.mem_append]
  cases hstored : (m.alerts.get i).isSome with
  | true => exact .inl (List.mem_filter.2 ⟨List.mem_map.2 ⟨i - m.producer, List.mem_finRange _, add_sub_cancel _ _⟩, hstored⟩)
  | false => exact .inr (List.mem_filter.2 ⟨List.mem_finRange i, by simpa using hstored⟩)

theorem MirrorWriter.mem_logCycle (m : MirrorWriter) (a : LogArea) (i : LogIx) : (a, i) ∈ m.logCycle := by
  unfold MirrorWriter.logCycle
  by_cases harea : a = m.logArea
  · subst harea
    by_cases hpast : m.logIndex ≤ i
    · simp [hpast]
    · simp [not_le.1 hpast]
  · rw [LogArea.eq_other_of_ne harea]
    simp

theorem mem_allLogEntries (a : LogArea) (i : LogIx) : (a, i) ∈ allLogEntries := by
  cases a <;> simp [allLogEntries]

theorem MirrorWriter.mem_logOrder (m : MirrorWriter) (a : LogArea) (i : LogIx) : (a, i) ∈ m.logOrder := by
  unfold MirrorWriter.logOrder
  rw [List.mem_append]
  cases hstored : (m.logEntry a i).isSome with
  | true => exact .inl (List.mem_filter.2 ⟨m.mem_logCycle a i, hstored⟩)
  | false => exact .inr (List.mem_filter.2 ⟨mem_allLogEntries a i, by simpa using hstored⟩)

/-- Every record stands in the scan order. -/
theorem MirrorWriter.mem_scanOrder (m : MirrorWriter) (r : RecordId) : r ∈ m.scanOrder := by
  unfold MirrorWriter.scanOrder
  cases r with
  | alert i => simp [m.mem_alertOrder i]
  | log a i => simp [m.mem_logOrder a i]
  | _ => simp

/-- The dirty record of least rank is the first that the scan finds. -/
theorem firstDirty_of_firstInScan {m : MirrorWriter} {r : RecordId} (h : FirstInScan m r) : m.firstDirty = some r := by
  obtain ⟨hdirty, hleast⟩ := h
  obtain ⟨before, after, hsplit⟩ := List.append_of_mem (m.mem_scanOrder r)
  have hrising := m.scanOrder_ranked.rising
  rw [hsplit, List.pairwise_append] at hrising
  refine List.find?_eq_some_iff_append.2 ⟨hdirty, before, after, hsplit, fun q hq => ?_⟩
  have hlt := hrising.2.2 q hq r (List.mem_cons_self ..)
  cases hq : m.dirty.has q with
  | false => rfl
  | true => exact absurd (hleast q hq) (not_le.2 hlt)

theorem MirrorWriter.firstDirty_none {m : MirrorWriter} (h : ∀ r, m.dirty.has r = false) : m.firstDirty = none :=
  List.find?_eq_none.2 fun r _ => by simp [h r]

/-! ### The words of a push (R141, R145) -/

/-- A push that answers a slot: its result stands, and has not been written since. -/
theorem State.answersSlot_iff (s : State) (r : RecordId) :
    s.answersSlot r = true ↔ ∃ n req, r = .slot n ∧ (s.slot n).busy = some (.answered, req) := by
  cases r with
  | slot n =>
    unfold State.answersSlot
    simp only [RecordId.slot.injEq, exists_and_left, exists_eq_left']
    split
    · next req hbusy => simp [hbusy]
    · next req hbusy => simp [hbusy]
    · next req hbusy => simp [hbusy]
    · next hbusy => simp [hbusy]
  | _ => simp [State.answersSlot]

/-- One word of a push: at its place in the record, and the last when it is the record's first. -/
def State.backlogWord (s : State) (r : RecordId) (p : Word × Nat) (last : Bool) : BacklogWord :=
  { addr := r.wordAddr s.path.mirrorBase p.2, data := p.1, record := r, last := last, freesSlot := last && s.answersSlot r }

/-- A record's words in the backlog, its first word last. -/
theorem State.backlogWords_eq {s : State} {r : RecordId} {first : Word} {others : List Word}
    (h : s.recordWords r = first :: others) :
    s.backlogWords r = (others.zipIdx 1).map (fun p => s.backlogWord r p false) ++ [s.backlogWord r (first, 0) true] := by
  rw [State.backlogWords, h]
  rfl

/-- A record has a first word, and the others behind it. -/
theorem State.recordWords_cons (s : State) (r : RecordId) :
    ∃ first others, s.recordWords r = first :: others ∧ others.length = r.words - 1 := by
  have hlength := s.recordWords_length r
  have hpos := r.words_pos
  cases hwords : s.recordWords r with
  | nil =>
    rw [hwords, List.length_nil] at hlength
    omega
  | cons first others =>
    rw [hwords, List.length_cons] at hlength
    exact ⟨first, others, rfl, by omega⟩

theorem State.backlogWords_record {s : State} {r : RecordId} {w : BacklogWord} (hw : w ∈ s.backlogWords r) :
    w.record = r ∧
      (w.freesSlot = true ↔ w.last = true ∧ ∃ n req, r = .slot n ∧ (s.slot n).busy = some (.answered, req)) := by
  obtain ⟨first, others, hwords, _⟩ := s.recordWords_cons r
  have hword : ∃ p last, w = s.backlogWord r p last := by
    rw [State.backlogWords_eq hwords, List.mem_append, List.mem_map, List.mem_singleton] at hw
    obtain ⟨p, _, rfl⟩ | rfl := hw
    · exact ⟨p, false, rfl⟩
    · exact ⟨(first, 0), true, rfl⟩
  obtain ⟨p, last, rfl⟩ := hword
  refine ⟨rfl, ?_⟩
  rw [← s.answersSlot_iff r]
  exact Bool.and_eq_true_iff

theorem State.backlogWords_addr (s : State) (r : RecordId) :
    (s.backlogWords r).map (fun w => w.addr) =
      ((List.range' 1 (r.words - 1)).map fun i => s.path.mirrorBase + BitVec.ofNat 24 (r.offset + 4 * i)) ++
        [s.path.mirrorBase + BitVec.ofNat 24 r.offset] := by
  obtain ⟨first, others, hwords, hlength⟩ := s.recordWords_cons r
  have hplaces : List.range' 1 (r.words - 1) = (others.zipIdx 1).map Prod.snd := by rw [List.zipIdx_map_snd, hlength]
  rw [State.backlogWords_eq hwords, hplaces, List.map_append, List.map_map, List.map_map]
  rfl

theorem State.backlogWords_last (s : State) (r : RecordId) :
    (s.backlogWords r).map (fun w => w.last) = List.replicate (r.words - 1) false ++ [true] := by
  obtain ⟨first, others, hwords, hlength⟩ := s.recordWords_cons r
  rw [State.backlogWords_eq hwords, List.map_append, List.map_map, ← hlength, ← List.length_zipIdx (l := others) (i := 1),
    ← List.map_const']
  rfl

theorem State.backlogWords_data (s : State) (r : RecordId) :
    (s.backlogWords r).map (fun w => w.data) = (s.recordWords r).drop 1 ++ (s.recordWords r).take 1 := by
  obtain ⟨first, others, hwords, _⟩ := s.recordWords_cons r
  have hothers : (others.zipIdx 1).map (fun p => p.1) = others := List.zipIdx_map_fst ..
  rw [State.backlogWords_eq hwords, hwords, List.map_append, List.map_map]
  exact congrArg (· ++ [first]) hothers

/-! ### What a push leaves of the dirty set and the counts (R145, R146) -/

/-- A record is dirty after a clear when it was dirty and is not the one cleared. -/
theorem DirtySet.has_clear (d : DirtySet) (r q : RecordId) : (d.clear r).has q = (d.has q && decide (q ≠ r)) := by
  rcases r with _ | r | r | r | r | r | ⟨_ | _, r⟩ <;> rcases q with _ | q | q | q | q | q | ⟨_ | _, q⟩ <;>
    simp [DirtySet.clear, DirtySet.has, vput_get]
  all_goals by_cases h : q = r <;> simp [h]

/-- A record of 8 words or more counts its generation, and no other record's count moves. -/
theorem Generations.count_bump (g : Generations) (r q : RecordId) :
    (g.bump r).count q = if q = r ∧ 8 ≤ r.words then g.count q + 1 else g.count q := by
  rcases r with _ | r | r | r | r | r | ⟨_ | _, r⟩ <;> rcases q with _ | q | q | q | q | q | ⟨_ | _, q⟩ <;>
    simp [Generations.bump, Generations.count, RecordId.words, vput_get]
  all_goals by_cases h : q = r <;> simp [h]

/-- What a record shows depends on neither the dirty set nor the backlog. -/
theorem State.pushStarted_recordWords (s : State) (r q : RecordId) :
    (s.pushStarted r).recordWords q =
      ({ s with mirror := { s.mirror with generations := s.mirror.generations.bump r } } : State).recordWords q := by
  cases q with
  | log a i => cases a <;> rfl
  | _ => rfl

/-! ### The push (R131, R136, R146) -/

theorem pushable_of_firstInScan {s : State} {r : RecordId} (h : FirstInScan s.mirror r) (hwatching : s.path.watching = true) :
    s.pushable = if s.mirror.backlog.length + r.words ≤ 64 then some r else none := by
  unfold State.pushable
  rw [if_pos hwatching, firstDirty_of_firstInScan h]
  rfl

theorem execRecordPush_none {s : State} (h : s.pushable = none) : exec .recordPush s = .next s := by
  rw [exec, execRecordPush, h]

/-- What a push changes of the Mirror Writer, the backlog apart. -/
structure Pushed (s t : State) (r : RecordId) : Prop where
  only : t = { s with mirror := t.mirror, path := t.path }
  mirror : t.mirror =
    { s.mirror with
      dirty := s.mirror.dirty.clear r, generations := s.mirror.generations.bump r, backlog := t.mirror.backlog }

/-- A push at a BUSY port waits in the backlog. -/
theorem State.pushRecord_busy {s : State} (r : RecordId) (hbusy : s.path.port ≠ .free) :
    (s.pushRecord r).arbitrate = s.pushRecord r := by
  refine State.arbitrate_busy ?_
  rwa [State.pushRecord_path, PathUnit.followDepth_eq]

/-- A push at a FREE port, which has no claimant, is granted its first word. -/
theorem State.pushRecord_free {s : State} (hlaw : PortLaw s) (hfree : s.path.port = .free) {r : RecordId} {w : BacklogWord}
    {rest : List BacklogWord} (hwords : (s.pushStarted r).backlogWords r = w :: rest) :
    (s.pushRecord r).arbitrate = (s.pushRecord r).grantBacklog w rest := by
  obtain ⟨_, _, hidle⟩ := hlaw
  obtain ⟨hwaiting, hbacklog⟩ := hidle hfree
  rw [State.pushRecord_eq, PathUnit.followDepth_eq]
  exact State.arbitrate_word hfree (.inr (.inl hwaiting)) (by rw [hbacklog, hwords]; rfl)

/-- A backlog of 16 words or fewer leaves Alternation OFF (R136). -/
theorem alternationAfter_shallow {depth : Nat} (h : depth ≤ 16) (alternation : Bool) :
    alternationAfter alternation depth = false := by
  have hfull : ¬48 ≤ depth := by omega
  simp [alternationAfter, hfull, Nat.not_lt.2 h]

/-- The Path Unit as a FREE port takes the first word of a push: the fence is open on the record, and the backlog is short (R135,
R136). -/
theorem State.pushRecord_free_path {s : State} (hlaw : PortLaw s) (hfree : s.path.port = .free) {r : RecordId} {w : BacklogWord}
    {rest : List BacklogWord} (hwords : (s.pushStarted r).backlogWords r = w :: rest) :
    ((s.pushRecord r).grantBacklog w rest).path =
      { s.path with
        port := .backlog w, fence := some (s.path.fence.getD r), alternation := false, backlogOwed := false } := by
  obtain ⟨_, _, hidle⟩ := hlaw
  obtain ⟨hwaiting, _⟩ := hidle hfree
  have hrecord : w.record = r := (State.backlogWords_record (hwords ▸ List.mem_cons_self ..)).1
  have hlength := State.backlogWords_length (s.pushStarted r) r
  have hpos := r.words_pos
  rw [hwords, List.length_cons] at hlength
  rw [State.grantBacklog_path, State.pushRecord_path, PathUnit.followDepth_eq]
  refine (PathUnit.holdCovered_of_idle ?_).trans ?_
  · exact hwaiting
  · rw [PathUnit.opened, alternationAfter_shallow (depth := rest.length) (by omega), hrecord]

/-- A push at either port. -/
theorem State.pushRecord_pushed {s : State} (hlaw : PortLaw s) (r : RecordId) : Pushed s (s.pushRecord r).arbitrate r := by
  by_cases hfree : s.path.port = .free
  · cases hwords : (s.pushStarted r).backlogWords r with
    | nil =>
      have hlength := State.backlogWords_length (s.pushStarted r) r
      have hpos := r.words_pos
      rw [hwords, List.length_nil] at hlength
      omega
    | cons w rest =>
      rw [State.pushRecord_free hlaw hfree hwords]
      exact ⟨rfl, rfl⟩
  · rw [State.pushRecord_busy r hfree]
    exact ⟨rfl, rfl⟩

/-- Settles O23: the scan finds the first dirty record, its words enter the backlog, and a FREE port takes the first of them. -/
theorem recordIsPushedWhole : Obligations.RecordIsPushedWhole := by
  refine ⟨fun s r hlaw hwatching hfirst hroom => ?_, fun s r hfirst hfull => execRecordPush_none ?_,
    fun s hclean => execRecordPush_none ?_, fun s hunwatched => execRecordPush_none ?_⟩
  · have hexec : exec .recordPush s = .next (s.pushRecord r).arbitrate := by
      rw [exec, execRecordPush, pushable_of_firstInScan hfirst hwatching, if_pos hroom]
    obtain ⟨honly, hmirror⟩ := State.pushRecord_pushed hlaw r
    have hdirty : (s.pushRecord r).arbitrate.mirror.dirty = s.mirror.dirty.clear r := by rw [hmirror]
    have hcounts : (s.pushRecord r).arbitrate.mirror.generations = s.mirror.generations.bump r := by rw [hmirror]
    refine ⟨_, (s.pushStarted r).backlogWords r, hexec, fun q => ?_, ?_, fun q => ?_, State.backlogWords_length .., fun w hw => ?_,
      State.backlogWords_addr .., State.backlogWords_last .., ?_, honly, ?_, fun hbusy => ?_, fun hfree w rest hwords => ?_⟩
    · rw [hdirty, DirtySet.has_clear]
      by_cases hq : q = r
      · simp [hq, hfirst.1]
      · simp [hq]
    · rw [hdirty, DirtySet.has_clear]
      simp
    · rw [hcounts, Generations.count_bump]
    · exact State.backlogWords_record (s := s.pushStarted r) hw
    · rw [hcounts, State.backlogWords_data, State.pushStarted_recordWords]
    · rw [hdirty, hcounts]
      exact hmirror
    · rw [State.pushRecord_busy r hbusy, State.pushRecord_eq, PathUnit.followDepth_eq]
      exact ⟨rfl, rfl⟩
    · rw [State.pushRecord_free hlaw hfree hwords]
      exact ⟨rfl, State.pushRecord_free_path hlaw hfree hwords⟩
  · unfold State.pushable
    rw [firstDirty_of_firstInScan hfirst]
    split
    · exact if_neg (Nat.not_le.2 hfull)
    · rfl
  · unfold State.pushable
    rw [MirrorWriter.firstDirty_none hclean]
    split <;> rfl
  · unfold State.pushable
    rw [hunwatched]
    rfl

end Sys2Proof.Machine
end

section
/-!
PROOF. Plan Intake: every reset, the trigger write at the port, and a code that names no request (R127, R132, R133, R139, R140,
R143, R144; log entries 3 and 24).
-/

namespace Sys2Proof.Machine

open Sys2Proof

/-! ### A power-on and the RESET line (R144) -/

/-- The arbiter reaches Plan Intake through a captured write alone. -/
theorem Arbitrated.intake_of_unwatched {s t : State} (h : Arbitrated s t)
    (hunwatched : ∀ a, s.path.waiting = some a → a.watched = false) : t.intake = s.intake := by
  cases h with
  | busy _ | idle _ _ _ => rfl
  | host a _ _ hwaiting _ => rw [State.capture_of_unwatched _ (hunwatched a hwaiting)]; rfl
  | word w rest _ _ _ => simp

/-- A power-on and the RESET line leave Plan Intake at its reset values: no access that goes on is captured. -/
theorem State.startUp_intake (s : State) (straps : Straps) (level : Level) (offsets : Option Offsets) (g : Generations) :
    (s.startUp straps level offsets g).intake = State.reset.intake := by
  have arbitrated : ∀ x : State, x.intake = State.reset.intake → x.path.waiting = s.path.waitingAfterReset →
      x.arbitrate.intake = State.reset.intake := fun x hintake hwaiting =>
    (x.arbitrated.intake_of_unwatched fun _ ha => PathUnit.waitingAfterReset_watched (hwaiting ▸ ha)).trans hintake
  unfold State.startUp
  dsimp only
  split
  · exact arbitrated _ rfl rfl
  · exact arbitrated _ (by simp [State.coldReset]) (State.takeParams_waiting ..)

/-- Such a reset leaves the part UNWATCHED. -/
theorem State.startUp_unwatched (s : State) (straps : Straps) (level : Level) (offsets : Option Offsets) (g : Generations) :
    (s.startUp straps level offsets g).path.watching = false := by
  obtain ⟨x, hx, hpath, hbacklog⟩ := s.startUp_arbitrates straps level offsets g
  have hleaves : ResetLeaves s x := ⟨hpath, hbacklog⟩
  rw [hx]
  exact congrArg PathUnit.watching hleaves.only

theorem State.startUp_allDirty (s : State) (straps : Straps) (level : Level) (offsets : Option Offsets) (g : Generations) :
    AllDirty (s.startUp straps level offsets g) := by
  obtain ⟨⟨_, _, _, hdirty, _⟩, _⟩ := s.startUp_isReset straps level offsets g
  exact hdirty

/-- The two cold resets begin start-up alike. -/
theorem exec_coldReset {c : Instr} {straps : Straps} {level : Level} (h : c = .powerOn straps level ∨ c = .resetLine straps level)
    (s : State) : ∃ offsets g, exec c s = .next (s.startUp straps level offsets g) := by
  obtain rfl | rfl := h
  · exact ⟨_, _, rfl⟩
  · exact ⟨_, _, rfl⟩

/-- A slot after a power-on or the RESET line. -/
theorem State.slot_of_reset {t : State} (h : t.intake = State.reset.intake) (n : SlotNo) :
    t.slot n =
      { shadow := Vector.replicate 8 0, busy := none, result := { tag := 0, code := .noAnswer, detail := 0 } } := by
  rw [State.slot, h]
  exact replicate_get _ n

/-! ### A depot restart (R143) -/

theorem State.depotRestart_intake (s : State) : s.depotRestart.intake = { s.intake with consumerShadow := 0 } := by
  simp [State.depotRestart]

/-- Settles O5: the two cold resets alike, and a RESTART behind its request. -/
theorem resetsSetTheIntake : Obligations.ResetsSetTheIntake := by
  refine ⟨fun straps level s c hc => ?_, fun s n req rest h hcode => ⟨_, h.restart hcode, ?_⟩⟩
  · obtain ⟨offsets, g, hexec⟩ := exec_coldReset hc s
    have hintake := s.startUp_intake straps level offsets g
    refine ⟨_, hexec, by rw [hintake]; rfl, by rw [hintake]; rfl, s.startUp_unwatched .., (State.startUp_keeps ..).1, fun n => ?_⟩
    rw [State.slot_of_reset hintake]
    exact ⟨rfl, rfl, fun w => replicate_get 0 w, s.startUp_allDirty straps level offsets g _⟩
  · have hslot : ∀ m, s.dequeue.depotRestart.slot m = s.slot m := fun m => State.depotRestart_slot ..
    have hintake := s.dequeue.depotRestart_intake
    have hmemory : s.dequeue.depotRestart.memory = s.memory := by simp
    rw [State.storeResult_eq _ n .done 0 (phase := .queued) (req := req) (by rw [hslot]; exact h.2), hslot]
    refine ⟨?_, by rw [hintake], vput_get_self .., fun m hm => (vput_get_of_ne _ _ hm).trans (hslot m), ?_, hmemory⟩
    · rw [hintake, State.dequeue, h.1]
      rfl
    · simp [DirtySet.has_mark]

/-! ### The trigger write (R139) -/

/-- Settles O18: the trigger word comes to the port as any captured word, and is captured there or waits. -/
theorem triggerWriteMakesARequest : Obligations.TriggerWriteMakesARequest := by
  intro s n data enables hwatching hlaw hout
  refine ⟨fun hfirst => ?_, fun hbusy => State.planWrite_waits hwatching hlaw hout (.slotWord n 7) data enables hbusy⟩
  exact ⟨_, hfirst.planWrite hwatching hlaw hout (.slotWord n 7) data enables, s.captureWord_granted _ _ _ _,
    State.eq_of_fields (by simp [State.granted]), State.captureTrigger_taken ..⟩

/-! ### Codes that name no request (R140) -/

/-- A code outside the list names no request. -/
theorem knownCode_eq_false {c : Byte} (h : c ≠ 0x01 ∧ c ≠ 0x02 ∧ c ≠ 0x03 ∧ c ≠ 0x10 ∧ c ≠ 0x11 ∧ c ≠ 0x12 ∧ c ≠ 0x13 ∧ c ≠ 0x1F) :
    knownCode c = false := by
  simpa [knownCode, and_assoc] using h

/-- The request at the head of the queue is answered UNKNOWN_REQUEST when its code names none. -/
theorem Requested.unknown {s : State} {n : SlotNo} {req : Request} {rest : List SlotNo} (h : Requested s n req rest)
    (hcode : knownCode req.code = false) :
    exec .unknownRequest s = .next (s.dequeue.storeResult n .unknownRequest req.code.toNat) :=
  congrArg Host.Outcome.next (h.takeRequest _ (by simp [hcode]))

/-- Settles O49: the answer is stored behind a request that no block has taken. -/
theorem unknownCodeIsAnswered : Obligations.UnknownCodeIsAnswered := by
  intro s n req rest h h1 h2 h3 h10 h11 h12 h13 h1F
  have hstored := s.dequeue.storeResult_eq n .unknownRequest req.code.toNat h.2
  refine ⟨_, h.unknown (knownCode_eq_false ⟨h1, h2, h3, h10, h11, h12, h13, h1F⟩),
    State.storeResult_answered h rfl rfl rfl _ _, State.eq_of_fields (by simp), s.dequeue.storeResult_mirror .., ?_⟩
  rw [hstored]
  exact s.mark_dirtyBy (.slot n)

end Sys2Proof.Machine
end

section
/-!
PROOF. Every step keeps the intake queue and the slots' phases together (R138 to R142): which commands leave them alone, and what
an answer, a trigger write, a calibration and the end of a result's write do to one slot.
-/

namespace Sys2Proof.Machine

open Sys2Proof

/-! ### Where queue and phases stay -/

/-- The queue and the slots' phases stay, and no calibration has come to be requested. -/
structure IntakeRests (s t : State) : Prop where
  queue : t.intake.queue = s.intake.queue
  busy : ∀ n, (t.slot n).busy = (s.slot n).busy
  requested : ∀ n, t.meter.calibration = .inFlight (.request n) → s.meter.calibration = .inFlight (.request n)

theorem IntakeRests.refl (s : State) : IntakeRests s s := ⟨rfl, fun _ => rfl, fun _ h => h⟩

theorem IntakeRests.trans {s x t : State} (h : IntakeRests s x) (g : IntakeRests x t) : IntakeRests s t :=
  ⟨g.queue.trans h.queue, fun n => (g.busy n).trans (h.busy n), fun n hn => h.requested n (g.requested n hn)⟩

/-- Plan Intake and the calibration as they were. -/
theorem IntakeRests.of_eq {s t : State} (hintake : t.intake = s.intake) (hcalibration : t.meter.calibration = s.meter.calibration) :
    IntakeRests s t :=
  ⟨by rw [hintake], fun n => by rw [State.slot, hintake, State.slot], fun n h => hcalibration ▸ h⟩

/-- Plan Intake and the Meter as they were. -/
theorem IntakeRests.of_blocks {s t : State} (h : t.intake = s.intake ∧ t.meter = s.meter) : IntakeRests s t :=
  .of_eq h.1 (by rw [h.2])

theorem QueueLaw.rests {s t : State} (hs : QueueLaw s) (h : IntakeRests s t) : QueueLaw t := by
  obtain ⟨hnodup, hqueued, hinHand⟩ := hs
  refine ⟨h.queue ▸ hnodup, fun n => ?_, fun n hn => ?_⟩
  · rw [h.queue, h.busy]
    exact hqueued n
  · rw [h.busy]
    exact hinHand n (h.requested n hn)

/-! ### Moves of one slot -/

/-- One slot leaves the queue and is QUEUED no longer; it is IN HAND if a calibration is requested for it, and none comes to be
requested for another. -/
theorem QueueLaw.leaves {s t : State} (hs : QueueLaw s) (n : SlotNo) (hqueue : t.intake.queue = s.intake.queue.erase n)
    (hleft : ∀ req, (t.slot n).busy ≠ some (.queued, req)) (hothers : ∀ m, m ≠ n → (t.slot m).busy = (s.slot m).busy)
    (hown : t.meter.calibration = .inFlight (.request n) → ∃ req, (t.slot n).busy = some (.inHand, req))
    (hrequested : ∀ m, m ≠ n → t.meter.calibration = .inFlight (.request m) →
      s.meter.calibration = .inFlight (.request m)) : QueueLaw t := by
  obtain ⟨hnodup, hqueued, hinHand⟩ := hs
  refine ⟨hqueue ▸ hnodup.erase n, fun m => ?_, fun m hm => ?_⟩
  · rw [hqueue, hnodup.mem_erase_iff]
    by_cases hmn : m = n
    · subst hmn
      exact ⟨fun h => absurd rfl h.1, fun ⟨req, h⟩ => absurd h (hleft req)⟩
    · rw [hothers m hmn, ← hqueued m]
      exact and_iff_right hmn
  · by_cases hmn : m = n
    · subst hmn
      exact hown hm
    · rw [hothers m hmn]
      exact hinHand m (hrequested m hmn hm)

/-- The slot of a requested calibration is IN HAND (R142). -/
theorem QueueLaw.inHand {s : State} (hs : QueueLaw s) {n : SlotNo} (h : s.meter.calibration = .inFlight (.request n)) :
    ∃ req, (s.slot n).busy = some (.inHand, req) := by
  obtain ⟨_, _, hinHand⟩ := hs
  exact hinHand n h

/-- A slot that is not QUEUED is not in the queue. -/
theorem QueueLaw.not_mem {s : State} (hs : QueueLaw s) {n : SlotNo} (h : ∀ req, (s.slot n).busy ≠ some (.queued, req)) :
    n ∉ s.intake.queue := fun hn => by
  obtain ⟨_, hqueued, _⟩ := hs
  obtain ⟨req, hreq⟩ := (hqueued n).1 hn
  exact h req hreq

/-- A slot for which a calibration is requested is in no other phase than IN HAND (R142). -/
theorem QueueLaw.not_requested {s : State} (hs : QueueLaw s) {n : SlotNo} {phase : BusyPhase} {req : Request}
    (hbusy : (s.slot n).busy = some (phase, req)) (hphase : phase ≠ .inHand) :
    s.meter.calibration ≠ .inFlight (.request n) := fun hn => by
  obtain ⟨_, hinHand⟩ := hs.inHand hn
  cases hbusy.symm.trans hinHand
  exact hphase rfl

/-- A FREE slot joins the queue's tail (R139). -/
theorem QueueLaw.enqueue {s : State} (hs : QueueLaw s) {n : SlotNo} (hfree : (s.slot n).busy = none) (merged : Word) :
    QueueLaw (s.enqueue n merged) := by
  have hnot : n ∉ s.intake.queue := hs.not_mem (by simp [hfree])
  have hslot : ∀ m, (s.enqueue n merged).slot m =
      if m = n then { s.slot n with busy := some (.queued, (s.slot n).requestOf merged) } else s.slot m := fun m =>
    State.setSlot_slot s n m _
  obtain ⟨hnodup, hqueued, hinHand⟩ := hs
  refine ⟨?_, fun m => ?_, fun m hm => ?_⟩
  · exact hnodup.append (List.nodup_singleton n) (List.disjoint_singleton.2 hnot)
  · have hmem : m ∈ (s.enqueue n merged).intake.queue ↔ m ∈ s.intake.queue ∨ m = n := by
      simp [State.enqueue, State.setSlot]
    rw [hmem, hslot]
    split
    · next hmn => exact ⟨fun _ => ⟨_, rfl⟩, fun _ => .inr hmn⟩
    · next hmn => rw [hqueued m, or_iff_left hmn]
  · obtain ⟨req, hreq⟩ := hinHand m hm
    have hmn : m ≠ n := fun h => by
      rw [h, hfree] at hreq
      cases hreq
    exact ⟨req, by rw [hslot, if_neg hmn, hreq]⟩

/-- An ANSWERED slot becomes FREE (R141). -/
theorem QueueLaw.freeSlot {s : State} (hs : QueueLaw s) (n : SlotNo) : QueueLaw (s.freeSlot n) := by
  obtain ⟨req, hbusy, hfreed⟩ | ⟨_, hkept⟩ := s.freeSlot_cases n
  · rw [hfreed]
    refine hs.leaves n ?_ ?_ (fun m hm => ?_) (fun hn => ?_) fun _ _ h => h
    · exact (List.erase_of_not_mem (hs.not_mem (by simp [hbusy]))).symm
    · simp
    · rw [State.setSlot_slot, if_neg hm]
    · exact absurd hn (hs.not_requested hbusy nofun)
  · rw [hkept]
    exact hs

theorem QueueLaw.freeSlotOf {s : State} (hs : QueueLaw s) (n : Option SlotNo) : QueueLaw (s.freeSlotOf n) := by
  cases n with
  | none => exact hs
  | some n => exact hs.freeSlot n

/-! ### Requests taken (R138, R140, R142) -/

/-- The request that the processor finds stands at the head of the queue. -/
theorem State.headRequest_requested {s : State} {n : SlotNo} {req : Request} (h : s.headRequest = some (n, req)) :
    ∃ rest, Requested s n req rest := by
  unfold State.headRequest at h
  split at h
  · cases h
  · next m rest hqueue =>
    split at h
    · next r hbusy =>
      cases h
      exact ⟨rest, hqueue, hbusy⟩
    all_goals cases h

/-- A command that takes a request finds none of its kind, or its owner acts on the one at the head of the queue. -/
theorem State.takeRequest_cases (s : State) (is : Request → Bool) (owner : SlotNo → Request → State → State) :
    s.takeRequest is owner = s ∨
      ∃ n req rest, Requested s n req rest ∧ s.takeRequest is owner = owner n req s.dequeue := by
  unfold State.takeRequest
  split
  · exact .inl rfl
  · next n req hhead =>
    obtain ⟨rest, hrequested⟩ := State.headRequest_requested hhead
    split
    · exact .inr ⟨n, req, rest, hrequested, rfl⟩
    · exact .inl rfl

/-- Taking the head takes its slot out of the queue. -/
theorem Requested.dequeue_queue {s : State} {n : SlotNo} {req : Request} {rest : List SlotNo} (h : Requested s n req rest) :
    s.dequeue.intake.queue = s.intake.queue.erase n := by
  rw [State.dequeue, h.1, List.erase_cons_head, List.tail_cons]

theorem State.storeResult_busy {s : State} {n : SlotNo} {phase : BusyPhase} {req : Request}
    (h : (s.slot n).busy = some (phase, req)) (code : ResultCode) (detail : Nat) (m : SlotNo) :
    ((s.storeResult n code detail).slot m).busy = if m = n then some (.answered, req) else (s.slot m).busy := by
  rw [State.storeResult_eq s n code detail h, State.slot, vput_get]
  split <;> rfl

/-- A result is stored in a slot that has left the queue, for which no calibration is requested any more. -/
theorem QueueLaw.stored {s x : State} (hs : QueueLaw s) {n : SlotNo} {phase : BusyPhase} {req : Request}
    (hbusy : (s.slot n).busy = some (phase, req)) (hqueue : x.intake.queue = s.intake.queue.erase n)
    (hsame : ∀ m, (x.slot m).busy = (s.slot m).busy) (hown : x.meter.calibration ≠ .inFlight (.request n))
    (hrequested : ∀ m, x.meter.calibration = .inFlight (.request m) → s.meter.calibration = .inFlight (.request m))
    (code : ResultCode) (detail : Nat) : QueueLaw (x.storeResult n code detail) := by
  have hstored := State.storeResult_busy ((hsame n).trans hbusy) code detail
  have hmeter : (x.storeResult n code detail).meter = x.meter := by simp
  refine hs.leaves n (by rwa [State.storeResult_queue]) ?_ (fun m hm => ?_) (fun hn => ?_) fun m _ hm => ?_
  · simp [hstored]
  · rw [hstored, if_neg hm, hsame]
  · rw [hmeter] at hn
    exact absurd hn hown
  · rw [hmeter] at hm
    exact hrequested m hm

/-- The head's answer is stored, behind an owner that leaves the rest of the queue and the slots' phases. -/
theorem QueueLaw.answered {s x : State} (hs : QueueLaw s) {n : SlotNo} {req : Request} {rest : List SlotNo}
    (h : Requested s n req rest) (hrests : IntakeRests s.dequeue x) (code : ResultCode) (detail : Nat) :
    QueueLaw (x.storeResult n code detail) :=
  hs.stored h.2 (hrests.queue.trans h.dequeue_queue) hrests.busy
    (fun hn => hs.not_requested h.2 nofun (hrests.requested n hn)) hrests.requested code detail

/-- A request answered at once, by such an owner. -/
theorem QueueLaw.answerRequest {s : State} (hs : QueueLaw s) {is : Request → Bool} {owner : Request → State → Answer}
    (howner : ∀ req, IntakeRests s.dequeue (owner req s.dequeue).state) : QueueLaw (s.answerRequest is owner) := by
  unfold State.answerRequest
  obtain hsame | ⟨n, req, rest, h, htaken⟩ := s.takeRequest_cases is fun n req x => (owner req x).store n
  · rw [hsame]
    exact hs
  · rw [htaken]
    exact hs.answered h (howner req) _ _

/-! ### Calibrations (R88, R89, R142) -/

/-- CALIBRATE is answered BUSY, or its slot is IN HAND and the calibration requested for it. -/
theorem QueueLaw.takeCalibrate {s : State} (hs : QueueLaw s) {n : SlotNo} {req : Request} {rest : List SlotNo}
    (h : Requested s n req rest) : QueueLaw (s.dequeue.takeCalibrate n req) := by
  unfold State.takeCalibrate
  split
  · exact hs.answered h (.refl _) _ _
  · next hidle =>
    obtain ⟨hmeter, hslot, hothers, hintake, _⟩ := h.calibrationBegun
    generalize (s.dequeue.updMeter fun m => { m with calibration := .inFlight (.request n) }).holdInHand n req = t at *
    refine hs.leaves n ?_ ?_ (fun m hm => by rw [hothers m hm]) (fun _ => ⟨req, by rw [hslot]⟩) fun m hm hrequested => ?_
    · rw [hintake, h.1, List.erase_cons_head]
    · simp [hslot]
    · rw [hmeter] at hrequested
      cases hrequested
      exact absurd rfl hm

/-- The end of a requested calibration answers its slot, and that of the start-up one none. -/
theorem QueueLaw.calibrationEnds {s x : State} (hs : QueueLaw s) {origin : CalOrigin}
    (hcalibration : s.meter.calibration = .inFlight origin) (hintake : x.intake = s.intake) (hidle : x.meter.calibration = .idle)
    (code : ResultCode) (detail : Nat) : QueueLaw (x.calibrationResult origin code detail) := by
  have hnone : ∀ m, x.meter.calibration ≠ .inFlight (.request m) := fun m hm => by cases hidle.symm.trans hm
  have hslot : ∀ m, x.slot m = s.slot m := fun m => by rw [State.slot, hintake, State.slot]
  cases origin with
  | startUp => exact hs.rests ⟨congrArg PlanIntake.queue hintake, fun m => congrArg _ (hslot m), fun m hm => absurd hm (hnone m)⟩
  | request n =>
    obtain ⟨req, hbusy⟩ := hs.inHand hcalibration
    have hnot : n ∉ s.intake.queue := hs.not_mem (by simp [hbusy])
    exact hs.stored hbusy (by rw [hintake, List.erase_of_not_mem hnot]) (fun m => by rw [hslot]) (hnone n)
      (fun m hm => absurd hm (hnone m)) code detail

theorem QueueLaw.completeCalibration {s : State} (hs : QueueLaw s) {origin : CalOrigin}
    (hcalibration : s.meter.calibration = .inFlight origin) (a1 a2 a3 : Nat) :
    QueueLaw (s.completeCalibration origin a1 a2 a3) := by
  have judged : ∀ offsets alert code detail,
      QueueLaw ((s.calibrationJudged offsets alert).calibrationResult origin code detail) := fun offsets alert code detail =>
    hs.calibrationEnds hcalibration (by rw [State.calibrationJudged_blocks]) (by rw [State.calibrationJudged_blocks]) code detail
  rw [State.completeCalibration_eq]
  split
  · exact judged ..
  · exact judged ..

/-! ### The port (R133, R136, R139, R141) -/

theorem IntakeRests.mergeSlotWord (s : State) (n : SlotNo) (v : Fin 8) (data : Word) (enables : BitVec 4) :
    IntakeRests s (s.mergeSlotWord n v data enables) := by
  refine ⟨rfl, fun m => ?_, fun _ h => h⟩
  rw [State.mergeSlotWord_slot]
  split
  · next h => rw [h]
  · rfl

theorem QueueLaw.takeTrigger {s : State} (hs : QueueLaw s) (n : SlotNo) (merged : Word) : QueueLaw (s.takeTrigger n merged) := by
  have hforwarded : IntakeRests s (s.forwardWrite (.trigger n)) := .of_blocks (by simp)
  rw [State.takeTrigger_eq]
  split_ifs with hcode hfree
  · exact hs.rests hforwarded
  · exact (hs.rests hforwarded).enqueue ((hforwarded.busy n).trans hfree) merged
  · exact hs.rests (hforwarded.trans (.of_blocks (by simp)))

theorem QueueLaw.captureWord {s : State} (hs : QueueLaw s) (w : PlanWord) (data : Word) (enables : BitVec 4) :
    QueueLaw (s.captureWord w data enables) := by
  cases w with
  | heartbeat => exact hs.rests (.of_blocks (by simp [State.captureWord]))
  | consumerIndex =>
    have hintake : (s.captureConsumer data enables).intake = (s.mergeConsumer data enables).intake := by simp [State.captureConsumer]
    have hmerged : IntakeRests s (s.mergeConsumer data enables) := ⟨rfl, fun _ => rfl, fun _ h => h⟩
    exact hs.rests (hmerged.trans (.of_blocks ⟨hintake, by simp [State.captureWord]⟩))
  | slotWord n v =>
    have hmerged := hs.rests (.mergeSlotWord s n v data enables)
    unfold State.captureWord State.captureSlotWord
    dsimp only
    split
    · exact hmerged.takeTrigger ..
    · exact hmerged

theorem QueueLaw.capture {s : State} (hs : QueueLaw s) (a : HostAccess) : QueueLaw (s.capture a) := by
  unfold State.capture
  split
  · split
    · exact hs.captureWord ..
    · exact hs
  · exact hs

/-- The arbiter's grant captures at most one write. -/
theorem QueueLaw.arbitrate {s : State} (hs : QueueLaw s) : QueueLaw s.arbitrate := by
  have harbitrated := s.arbitrated
  generalize s.arbitrate = t at harbitrated ⊢
  cases harbitrated with
  | busy _ | idle _ _ _ => exact hs
  | host a _ _ _ _ => exact (hs.rests (.of_blocks ⟨rfl, rfl⟩) : QueueLaw (s.granted a)).capture a
  | word w rest _ _ _ => exact hs.rests (.of_blocks (by simp))

theorem QueueLaw.hostAccess {s t : State} (hs : QueueLaw s) {write : Bool} {addr : Addr} {data : Word} {enables : BitVec 4}
    (h : s.hostAccess write addr data enables = .next t) : QueueLaw t := by
  obtain ⟨_, harrives⟩ := State.hostAccess_arrives h
  cases harrives with
  | stopped _ _ _ => exact hs.rests (.of_blocks (by simp))
  | held _ => exact hs.rests (.of_blocks ⟨rfl, rfl⟩)
  | claims _ _ =>
    unfold State.claimPort
    exact (hs.rests (.of_blocks (by simp))).arbitrate

theorem QueueLaw.completeBacklog {s : State} (hs : QueueLaw s) (w : BacklogWord) : QueueLaw (s.completeBacklog w) := by
  unfold State.completeBacklog
  dsimp only
  split
  · exact (hs.rests (.of_blocks (by simp))).freeSlotOf _
  · exact hs.rests (.of_blocks ⟨rfl, rfl⟩)

/-! ### Resets (R143, R144, R154, R155) -/

/-- A power-on and the RESET line leave every slot FREE, the queue empty and no calibration requested. -/
theorem QueueLaw.startUp (s : State) (straps : Straps) (level : Level) (offsets : Option Offsets) (g : Generations) :
    QueueLaw (s.startUp straps level offsets g) := by
  have hintake := s.startUp_intake straps level offsets g
  refine ⟨?_, fun n => ?_, fun n hn => ?_⟩
  · rw [hintake]
    exact .nil
  · rw [State.slot_of_reset hintake, hintake]
    exact ⟨nofun, fun ⟨_, h⟩ => nomatch h⟩
  · rw [State.startUp_meter] at hn
    dsimp only at hn
    split_ifs at hn
    cases hn

theorem IntakeRests.takeParams (s : State) (p : Params) (src : ConfigSource) : IntakeRests s (s.takeParams p src) := by
  refine ⟨by simp, fun n => by simp [State.slot], fun n hn => ?_⟩
  unfold State.takeParams State.beginStartUpCalibration at hn
  split at hn
  · cases hn
  · exact hn

theorem IntakeRests.configFailed (s : State) (reason : ConfigReason) : IntakeRests s (s.configFailed reason) :=
  (IntakeRests.takeParams s Params.defaults .defaults).trans (.of_blocks (by simp [State.configFailed]))

theorem IntakeRests.depotRestart (s : State) : IntakeRests s s.depotRestart :=
  ⟨s.depotRestart_queue, fun n => by rw [s.depotRestart_slot], fun n hn => by rwa [State.depotRestart_meter] at hn⟩

/-! ### Commands of the Meter and the clock (R85, R94 to R96, R122) -/

theorem State.judgeOverload_calibration (s : State) (p : Nat) : (s.judgeOverload p).meter.calibration = s.meter.calibration := by
  unfold State.judgeOverload State.overloadOn State.overloadOff
  dsimp only
  (repeat' split) <;> simp

theorem State.sampleDone_calibration (s : State) (codes : Option Codes) (interval : Word) :
    (s.sampleDone codes interval).meter.calibration = s.meter.calibration := by
  unfold State.sampleDone State.validSample
  split
  · simp [State.judgeOverload_calibration]
  · simp

theorem State.assertCurtail_calibration (s : State) : s.assertCurtail.meter.calibration = s.meter.calibration := by
  unfold State.assertCurtail
  split <;> simp

theorem State.releaseCurtail_calibration (s : State) : s.releaseCurtail.meter.calibration = s.meter.calibration := by
  unfold State.releaseCurtail
  (repeat' split) <;> simp

theorem State.endTail_calibration (s : State) : s.endTail.meter.calibration = s.meter.calibration := by
  unfold State.endTail
  split <;> simp

theorem State.tickIn_calibration (s : State) (order : TickOrder) : (s.tickIn order).meter.calibration = s.meter.calibration := by
  rw [State.tickIn_meter, FeederMeter.ticked_only]

/-! ### Owners of requests (R140) -/

theorem PlanAnswer.intakeRests {s a : State} (h : PlanAnswer s a) : IntakeRests s a := by
  obtain ⟨_, hmeter, _, _, _, hintake, _⟩ := h.blocks
  exact .of_blocks ⟨hintake, hmeter⟩

theorem IntakeRests.answerSetLimits (s : State) (r : Request) : IntakeRests s (s.answerSetLimits r).state := by
  unfold State.answerSetLimits
  (repeat' split) <;> exact .of_eq rfl rfl

/-- The Bay Manager's answers leave what its actions leave. -/
theorem IntakeRests.answerSetBay {s : State} (r : Request) {action : State → BayNo → State} (h : ∀ b, IntakeRests s (action s b)) :
    IntakeRests s (s.answerSetBay r action).state := by
  unfold State.answerSetBay
  split
  · exact .refl s
  split
  · exact .refl s
  · exact h _

/-! ### Every command -/

theorem exec_queueLaw {i : Instr} {s t : State} (hs : QueueLaw s) (h : exec i s = .next t) : QueueLaw t := by
  cases i with
  | powerOn _ _ | resetLine _ _ => cases h; exact .startUp ..
  | configImageLoaded acked image =>
    cases h
    split
    · split
      · exact hs.rests (.takeParams ..)
      · exact hs.rests (.configFailed ..)
    · exact hs
  | configReadTimeout =>
    cases h
    split
    · exact hs.rests (.configFailed ..)
    · exact hs
  | startUpEnd =>
    cases h
    split
    · exact hs.rests (.of_eq (by simp) (by rw [State.curtailFromInput_meter]))
    · exact hs
  | tick =>
    cases h
    split
    · exact hs.rests (.of_eq (by simp) (State.tickIn_calibration ..))
    · exact hs
  | curtailTailEnd => cases h; exact hs.rests (.of_eq (by simp) (State.endTail_calibration s))
  | curtailInputChange => cases h; exact hs.rests (.of_eq (by simp) rfl)
  | curtailAssertionEdge =>
    cases h
    split
    · split
      · exact hs.rests (.of_eq (by simp) (State.assertCurtail_calibration _))
      · exact hs.rests (.of_eq rfl rfl)
    · exact hs
  | curtailReleaseEdge =>
    cases h
    split
    · split
      · exact hs.rests (.of_eq (by simp) (State.releaseCurtail_calibration _))
      · exact hs.rests (.of_eq rfl rfl)
    · exact hs
  | sampleCompletion l1 l2 l3 =>
    cases h
    split
    · exact hs
    · dsimp only
      split
      · exact hs.rests (.of_eq rfl rfl)
      · exact hs.rests (.of_eq (by simp) (State.sampleDone_calibration ..))
  | hostAccess _ _ _ _ | planWordWrite _ _ _ _ | heartbeatWrite _ _ | alertConsumerIndexWrite _ _ | triggerWrite _ _ _
    | mirrorWriteStopped _ _ _ | fencedRead _ => exact hs.hostAccess h
  | downstreamCompletion =>
    cases h
    split
    · exact hs
    · exact (hs.rests (.of_blocks (by simp))).arbitrate
    · next w _ => exact ((hs.rests (.of_blocks (by simp)) : QueueLaw s.freePort).completeBacklog w).arbitrate
  | recordPush =>
    cases h
    split
    · exact (hs.rests (.of_blocks (by simp))).arbitrate
    · exact hs
  | book => cases h; exact hs.answerRequest fun r => (PlanAnswer.answerBook _ r).intakeRests
  | cancel => cases h; exact hs.answerRequest fun r => (PlanAnswer.answerCancel _ r).intakeRests
  | forget => cases h; exact hs.answerRequest fun r => (PlanAnswer.answerForget _ r).intakeRests
  | setClock => cases h; exact hs.answerRequest fun r => .of_blocks (by simp [State.answerSetClock])
  | setBayEnable | setBayDisable | setBaySetCap | setBaySetPermittedModes =>
    cases h
    exact hs.answerRequest fun r => .answerSetBay r fun b => .of_blocks (by simp)
  | setLimits => cases h; exact hs.answerRequest fun r => .answerSetLimits _ r
  | calibrate =>
    cases h
    obtain hsame | ⟨n, req, rest, hrequested, htaken⟩ :=
      s.takeRequest_cases (fun r => r.code == 0x13) fun n req x => x.takeCalibrate n req
    · rw [hsame]
      exact hs
    · rw [htaken]
      exact hs.takeCalibrate hrequested
  | restart => cases h; exact hs.answerRequest fun r => .depotRestart _
  | unknownRequest => cases h; exact hs.answerRequest fun r => .refl _
  | calibrationCompletion l1 l2 l3 =>
    cases h
    split
    · next origin hcalibration _ => exact hs.completeCalibration hcalibration ..
    · exact hs
    · exact hs
  | _ =>
    cases h
    (repeat' split) <;> exact hs.rests (.of_blocks (by simp))

/-- Settles O56: the idle step leaves the state, and every command keeps the law. -/
theorem stepsKeepTheQueueLaw : Obligations.StepsKeepTheQueueLaw := by
  intro s t hs hstep
  unfold step at hstep
  split at hstep
  · cases hstep
    exact hs
  · next c rest _ =>
    have hrest : QueueLaw { s with pending := rest } := hs
    exact exec_queueLaw hrest hstep

end Sys2Proof.Machine
end

section
/-!
PROOF. The Mirror Writer after each reset (R151, R99): what such a reset leaves to the arbiter, which grants no word and captures
nothing, and the ring behind a depot restart.
-/

namespace Sys2Proof.Machine

open Sys2Proof

/-! ### A power-on and the RESET line -/

/-- The arbiter reaches the Mirror Writer through a captured write or a backlog word alone. -/
theorem Arbitrated.mirror_of_unwatched {s t : State} (h : Arbitrated s t)
    (hunwatched : ∀ a, s.path.waiting = some a → a.watched = false) (hbacklog : s.mirror.backlog = []) :
    t.mirror = s.mirror := by
  cases h with
  | busy _ | idle _ _ _ => rfl
  | host a _ _ hwaiting _ => rw [State.capture_of_unwatched _ (hunwatched a hwaiting)]; rfl
  | word w rest _ _ hword => cases hbacklog.symm.trans hword

/-- A power-on and the RESET line leave the Mirror Writer at its reset values with no word in the backlog, the generation counts
those that the kind of reset leaves. -/
theorem State.startUp_mirror (s : State) (straps : Straps) (level : Level) (offsets : Option Offsets) (g : Generations) :
    (s.startUp straps level offsets g).mirror = resetMirror [] g := by
  have arbitrated : ∀ x : State, x.mirror = resetMirror [] g → x.path.waiting = s.path.waitingAfterReset →
      x.arbitrate.mirror = resetMirror [] g := fun x hmirror hwaiting => by
    have hunwatched : ∀ a, x.path.waiting = some a → a.watched = false := fun _ ha =>
      PathUnit.waitingAfterReset_watched (hwaiting ▸ ha)
    rw [x.arbitrated.mirror_of_unwatched hunwatched (by rw [hmirror]; rfl), hmirror]
  unfold State.startUp
  dsimp only
  split
  · exact arbitrated _ rfl rfl
  · exact arbitrated _ (by simp [State.coldReset]) (State.takeParams_waiting ..)

theorem resetMirror_alerts (backlog : List BacklogWord) (g : Generations) (i : RingIx) :
    (resetMirror backlog g).alerts.get i = none :=
  replicate_get none i

/-- A Mirror Writer that differs from the reset one in what an alert and a stored result touch, with every record still dirty. -/
theorem mirrorIsReset_of_reset {m : MirrorWriter}
    (hm : m = { resetMirror m.backlog m.generations with dirty := m.dirty, alerts := m.alerts, producer := m.producer })
    (hdirty : ∀ r, m.dirty.has r = true) : MirrorIsReset m := by
  refine ⟨hdirty, by rw [hm]; rfl, by rw [hm]; rfl, by rw [hm]; rfl, by rw [hm]; rfl, by rw [hm]; rfl, by rw [hm]; rfl,
    fun a i => ?_⟩
  rw [hm]
  cases a <;> exact replicate_get none i

theorem Generations.zero_count (r : RecordId) : Generations.zero.count r = 0 := by
  cases r with
  | bay b => exact replicate_get 0 b
  | roster i => exact replicate_get 0 i
  | booking i => exact replicate_get 0 i
  | header | slot _ | alert _ | log _ _ => rfl

/-- What a power-on and the RESET line set alike. -/
theorem State.startUp_setsTheMirror (s : State) (straps : Straps) (level : Level) (offsets : Option Offsets) (g : Generations) :
    let t := s.startUp straps level offsets g
    MirrorIsReset t.mirror ∧ t.mirror.backlog = [] ∧ t.mirror.producer = 0 ∧ (∀ i, t.mirror.alerts.get i = none) ∧
      t.path.watching = false ∧ t.mirror.generations = g := by
  have hmirror := s.startUp_mirror straps level offsets g
  dsimp only
  rw [hmirror]
  exact ⟨mirrorIsReset_of_reset rfl DirtySet.has_every, rfl, rfl, resetMirror_alerts [] g,
    s.startUp_unwatched .., rfl⟩

/-! ### A depot restart (R143) -/

/-- Into an empty ring an alert goes to index 0. -/
theorem MirrorWriter.takes_reset {m : MirrorWriter} {backlog : List BacklogWord} {g : Generations}
    (hm : m = { resetMirror backlog g with dirty := m.dirty }) (a : Alert) :
    m.takes a =
      { resetMirror backlog g with
        dirty := (m.takes a).dirty, alerts := vput (Vector.replicate 64 none) 0 (some a), producer := 1 } := by
  have hroom : m.overflow = false ∧ (m.producer - m.consumer).val < 63 := by
    rw [hm]
    exact ⟨rfl, show (0 - 0 : RingIx).val < 63 by decide⟩
  unfold MirrorWriter.takes
  rw [if_pos hroom, hm]
  rfl

/-- With the filtered input released a restart raises nothing. -/
theorem State.depotRestart_mirror_released {s : State} (h : s.meter.filteredLevel = .released) :
    s.depotRestart.mirror = resetMirror s.mirror.backlog s.mirror.generations := by
  simp [State.depotRestart, State.curtailFromInput, FeederMeter.restart, h, State.updMeter]

/-- With the filtered input asserted CURTAIL ON stands at index 0 of the new ring (R99). -/
theorem State.depotRestart_mirror_asserted {s : State} (h : s.meter.filteredLevel = .asserted) :
    s.depotRestart.mirror =
      { resetMirror s.mirror.backlog s.mirror.generations with
        dirty := s.depotRestart.mirror.dirty
        alerts :=
          vput (Vector.replicate 64 none) 0 (some (plainAlert s (.curtailOn s.config.loaded.limits.curtailCeiling)))
        producer := 1 } := by
  simp only [State.depotRestart, State.curtailFromInput, FeederMeter.restart, h, State.curtailOn, State.raise_mirror]
  exact MirrorWriter.takes_reset rfl _

/-- Settles O6: the two cold resets alike, and a RESTART by the filtered input. -/
theorem everyResetSetsTheMirror : Obligations.EveryResetSetsTheMirror := by
  refine ⟨fun straps level s => ⟨_, rfl, ?_⟩, fun straps level s => ⟨_, rfl, s.startUp_setsTheMirror ..⟩,
    fun s n req rest h hcode => ⟨_, h.restart hcode, ?_⟩⟩
  · obtain ⟨hreset, hbacklog, hproducer, halerts, hwatching, hgenerations⟩ :=
      s.startUp_setsTheMirror straps level none Generations.zero
    exact ⟨hreset, hbacklog, hproducer, halerts, hwatching, fun r => by rw [hgenerations]; exact Generations.zero_count r⟩
  · have hslot : (s.dequeue.depotRestart.slot n).busy = some (.queued, req) := by rw [State.depotRestart_slot]; exact h.2
    have hdirty := ((Tracks.refl s.dequeue.depotRestart).storeResult n .done 0).allDirty (State.depotRestart_allDirty _)
    rw [State.storeResult_eq _ n .done 0 hslot] at hdirty ⊢
    dsimp only at hdirty ⊢
    cases hlevel : s.meter.filteredLevel with
    | released =>
      rw [State.depotRestart_mirror_released (s := s.dequeue) hlevel] at hdirty ⊢
      exact ⟨mirrorIsReset_of_reset rfl hdirty, rfl, rfl, rfl, resetMirror_alerts _ _⟩
    | asserted =>
      rw [State.depotRestart_mirror_asserted (s := s.dequeue) hlevel] at hdirty ⊢
      exact ⟨mirrorIsReset_of_reset rfl hdirty, rfl, rfl, rfl, vput_get_self .., fun i hi =>
        (vput_get_of_ne _ _ hi).trans (replicate_get none i)⟩

end Sys2Proof.Machine
end

section
/-!
PROOF. The words of every record follow their layouts (R145, R156): a word summed from fields that stand apart holds each of them
and 0 elsewhere, and every word of the model is the sum of its layout's fields.
-/

namespace Sys2Proof.Machine

open Sys2Proof

/-! ### Words packed from fields (R156) -/

/-- The sum of the fields of one word, each a lowest bit, a width and a value, in place. -/
def packed : List (Nat × Nat × Nat) → Nat
  | [] => 0
  | (low, width, value) :: rest => field low width value + packed rest

@[simp] theorem packed_nil : packed [] = 0 := rfl

@[simp] theorem packed_cons (low width value : Nat) (rest : List (Nat × Nat × Nat)) :
    packed ((low, width, value) :: rest) = field low width value + packed rest := rfl

/-- The fields stand apart in ascending order, from bit `low` on and below bit `top`. -/
def ascendTo (top : Nat) : Nat → List (Nat × Nat × Nat) → Bool
  | _, [] => true
  | low, (l, width, _) :: rest => Nat.ble low l && Nat.ble (l + width) top && ascendTo top (l + width) rest

theorem ascendTo_cons {top low l width value : Nat} {rest : List (Nat × Nat × Nat)} :
    ascendTo top low ((l, width, value) :: rest) = true ↔
      (low ≤ l ∧ l + width ≤ top) ∧ ascendTo top (l + width) rest = true := by
  simp [ascendTo]

/-- Such fields lie between the two bits. -/
theorem ascendTo_bounds {top low : Nat} {fields : List (Nat × Nat × Nat)} (h : ascendTo top low fields = true) :
    ∀ f ∈ fields, low ≤ f.1 ∧ f.1 + f.2.1 ≤ top := by
  induction fields generalizing low with
  | nil => simp
  | cons f rest ih =>
    obtain ⟨hf, hrest⟩ := ascendTo_cons.1 h
    refine List.forall_mem_cons.2 ⟨hf, fun g hg => ?_⟩
    obtain ⟨hlow, htop⟩ := ih hrest g hg
    exact ⟨by omega, htop⟩

/-- The bits below the first field are 0. -/
theorem two_pow_dvd_packed {top low : Nat} {fields : List (Nat × Nat × Nat)} (h : ascendTo top low fields = true) :
    2 ^ low ∣ packed fields := by
  induction fields generalizing low with
  | nil => exact dvd_zero _
  | cons f rest ih =>
    obtain ⟨⟨hlow, _⟩, hrest⟩ := ascendTo_cons.1 h
    have hfield : 2 ^ low ∣ field f.1 f.2.1 f.2.2 := (pow_dvd_pow 2 hlow).mul_left _
    exact hfield.add ((pow_dvd_pow 2 (by omega)).trans (ih hrest))

/-- A bit of packed fields is the first field's, or comes from the fields above it. -/
theorem testBit_packed_cons {top low l width value : Nat} {rest : List (Nat × Nat × Nat)}
    (h : ascendTo top low ((l, width, value) :: rest) = true) (i : Nat) :
    (packed ((l, width, value) :: rest)).testBit i =
      if i < l + width then decide (l ≤ i) && value.testBit (i - l) else (packed rest).testBit i := by
  obtain ⟨_, hrest⟩ := ascendTo_cons.1 h
  obtain ⟨q, hq⟩ := two_pow_dvd_packed hrest
  have hfield : field l width value < 2 ^ (l + width) := by
    rw [field, Nat.add_comm, pow_add]
    exact Nat.mul_lt_mul_of_pos_right (Nat.mod_lt _ (by positivity)) (by positivity)
  rw [packed_cons, hq, Nat.add_comm, Nat.testBit_two_pow_mul_add _ hfield, Nat.testBit_two_pow_mul]
  split
  · next hi =>
    rw [field, Nat.testBit_mul_two_pow, Nat.testBit_mod_two_pow]
    by_cases hl : l ≤ i
    · simp [hl, show i - l < width by omega]
    · simp [hl]
  · next hi => simp [show l + width ≤ i by omega]

/-- Each packed field reads back. -/
theorem testBit_packed_of_mem {top low : Nat} {fields : List (Nat × Nat × Nat)} (h : ascendTo top low fields = true) :
    ∀ f ∈ fields, ∀ j < f.2.1, (packed fields).testBit (f.1 + j) = f.2.2.testBit j := by
  induction fields generalizing low with
  | nil => simp
  | cons f rest ih =>
    obtain ⟨l, width, value⟩ := f
    obtain ⟨_, hrest⟩ := ascendTo_cons.1 h
    refine List.forall_mem_cons.2 ⟨fun j hj => ?_, fun g hg j hj => ?_⟩
    · dsimp only at hj ⊢
      rw [testBit_packed_cons h, if_pos (Nat.add_lt_add_left hj l)]
      simp
    · have habove := (ascendTo_bounds hrest g hg).1
      rw [testBit_packed_cons h, if_neg (by omega)]
      exact ih hrest g hg j hj

/-- A bit that no field occupies is 0. -/
theorem testBit_packed_of_free {top low i : Nat} {fields : List (Nat × Nat × Nat)} (h : ascendTo top low fields = true)
    (hfree : ∀ f ∈ fields, i < f.1 ∨ f.1 + f.2.1 ≤ i) : (packed fields).testBit i = false := by
  induction fields generalizing low with
  | nil => exact Nat.zero_testBit i
  | cons f rest ih =>
    obtain ⟨l, width, value⟩ := f
    obtain ⟨_, hrest⟩ := ascendTo_cons.1 h
    obtain ⟨hf, hothers⟩ := List.forall_mem_cons.1 hfree
    rw [testBit_packed_cons h, ih hrest hothers]
    split
    · next hi =>
      have hbelow : i < l := hf.resolve_right (Nat.not_le.2 hi)
      simp [hbelow]
    · rfl

/-- A word packed from ascending fields holds them, and 0 elsewhere. -/
theorem holdsFields_packed {n : Nat} {fields : List (Nat × Nat × Nat)} (h : ascendTo n 0 fields = true) :
    HoldsFields (BitVec.ofNat n (packed fields)) fields := by
  refine ⟨fun f hf => BitVec.eq_of_getLsbD_eq fun j hj => ?_, fun i hi hfree => ?_⟩
  · have htop := (ascendTo_bounds h f hf).2
    have hin : f.1 + j < n := by omega
    rw [BitVec.getLsbD_extractLsb', BitVec.getLsbD_ofNat, BitVec.getLsbD_ofNat, testBit_packed_of_mem h f hf j hj]
    simp [hj, hin]
  · rw [BitVec.getLsbD_ofNat, testBit_packed_of_free h hfree, Bool.and_false]

theorem WordsHold.cons {word : Word} {words : List Word} {fields : List (Nat × Nat × Nat)}
    {layouts : List (List (Nat × Nat × Nat))} (hword : HoldsFields word fields) (h : WordsHold words layouts) :
    WordsHold (word :: words) (fields :: layouts) := by
  obtain ⟨hlength, hwords⟩ := h
  exact ⟨congrArg (· + 1) hlength, List.forall_mem_cons.2 ⟨hword, hwords⟩⟩

/-- Words packed from a layout follow it. -/
theorem wordsHold_packed {words : List Word} {layouts : List (List (Nat × Nat × Nat))}
    (h : layouts.all (ascendTo 32 0) = true) (hwords : words = layouts.map fun fields => toWord (packed fields)) :
    WordsHold words layouts := by
  subst hwords
  induction layouts with
  | nil => exact ⟨rfl, by simp⟩
  | cons fields layouts ih =>
    rw [List.all_cons, Bool.and_eq_true] at h
    obtain ⟨hfields, hlayouts⟩ := h
    exact .cons (holdsFields_packed hfields) (ih hlayouts)

/-! ### The fields that the model's words are summed from

Halves of a tag and of a detail are written with 2^32 as `simp` writes it. -/

@[simp] theorem field_toNat {n : Nat} (w : BitVec n) : field 0 n w.toNat = w.toNat := by
  rw [field, Nat.mod_eq_of_lt w.isLt, pow_zero, mul_one]

@[simp] theorem toWord_zero : toWord 0 = 0 := rfl

@[simp] theorem toWord_toNat (w : Word) : toWord w.toNat = w := BitVec.ofNat_toNat ..

@[simp] theorem toWord_field (n : Nat) : toWord (field 0 32 n) = toWord n := by
  apply BitVec.eq_of_toNat_eq
  simp [toWord, field]

@[simp] theorem toWord_mod (n : Nat) : toWord (n % 4294967296) = toWord n := by
  apply BitVec.eq_of_toNat_eq
  simp [toWord]

theorem field_bit (low : Nat) (b : Bool) : field low 1 (bit b) = 2 ^ low * bit b := by
  cases b <;> simp [field, bit]

/-- The upper half of a tag is its own field. -/
@[simp] theorem field_tag_upper (t : Tag) : field 0 16 (t.toNat / 4294967296) = t.toNat / 4294967296 := by
  rw [field, Nat.mod_eq_of_lt (by omega), pow_zero, mul_one]

theorem LogArea.code_eq (a : LogArea) : a.code = bit (decide (a = .areaB)) := by cases a <;> rfl

/-! ### Alerts (R147, R156) -/

theorem AlertKind.code_eq (k : AlertKind) : k.code = (alertTable k).1 := by
  cases k with
  | planBack w => cases w <;> rfl
  | _ => rfl

theorem alertTable_ascends (k : AlertKind) : ascendTo 80 0 (alertTable k).2 = true := by
  cases k with
  | planBack w => cases w <;> rfl
  | _ => rfl

/-- The detail of each kind is packed from its fields, in the 80 bits that an entry has for it. -/
theorem AlertKind.detail_packed (k : AlertKind) : BitVec.ofNat 80 k.detail = BitVec.ofNat 80 (packed (alertTable k).2) := by
  apply BitVec.eq_of_toNat_eq
  simp only [BitVec.toNat_ofNat]
  cases k with
  | planBack w => cases w <;> simp [AlertKind.detail, alertTable, field]
  | calDone o => simp [AlertKind.detail, alertTable, Offsets.detail, Nat.add_assoc]
  | calFail a b c => simp [AlertKind.detail, alertTable, failedChannels, field_bit, Nat.add_assoc]
  | logHalf a => cases a <;> simp [AlertKind.detail, alertTable, LogArea.code, field]
  | configDefaulted r => cases r <;> simp [AlertKind.detail, alertTable, ConfigReason.parameter, field]
  | _ => simp [AlertKind.detail, alertTable, field, Nat.add_assoc]

/-- The 80 bits that hold the fields of a detail show all that an entry's words take of it. -/
theorem AlertKind.detail_holdsFields (k : AlertKind) :
    ∃ detail : BitVec 80, HoldsFields detail (alertTable k).2 ∧ toWord detail.toNat = toWord k.detail ∧
      toWord (detail.toNat / 4294967296) = toWord (k.detail / 4294967296) ∧
      field 16 16 (detail.toNat / 4294967296 / 4294967296) = field 16 16 (k.detail / 4294967296 / 4294967296) := by
  refine ⟨BitVec.ofNat 80 k.detail, ?_, ?_, ?_, ?_⟩
  · rw [k.detail_packed]
    exact holdsFields_packed (alertTable_ascends k)
  · rw [← toWord_mod, ← toWord_mod k.detail, BitVec.toNat_ofNat]
    congr 1
    omega
  · rw [← toWord_mod, ← toWord_mod (k.detail / _), BitVec.toNat_ofNat]
    congr 1
    omega
  · rw [field, field, BitVec.toNat_ofNat]
    omega

/-! ### The other records -/

/-- The first booking with an internal index is the one that a scan for it finds. -/
theorem bookView_of_first {k : Booking} {after : List Booking} : ∀ {before : List Booking} {rank : Nat},
    (∀ j ∈ before, j.index ≠ k.index) → bookView (before ++ k :: after) rank k.index = some (rank + before.length, k)
  | [], _, _ => by simp [bookView]
  | j :: before, rank, h => by
    obtain ⟨hj, hrest⟩ := List.forall_mem_cons.1 h
    rw [List.cons_append, bookView, if_neg hj, bookView_of_first hrest, List.length_cons]
    congr 2
    omega

theorem State.bookRecord_of_first {s : State} {before after : List Booking} {k : Booking}
    (hbook : s.book = before ++ k :: after) (hbefore : ∀ j ∈ before, j.index ≠ k.index) : s.bookRecord k.index = some (before.length + 1, k) := by
  rw [State.bookRecord, hbook, bookView_of_first hbefore, Nat.add_comm]

theorem State.bookRecord_of_free {s : State} {i : BookIx} (h : ∀ k ∈ s.book, k.index ≠ i) : s.bookRecord i = none :=
  bookView_none h

theorem skipCode_eq (r : Option SkipReason) : (r.map SkipReason.code).getD 0 = bit (decide (r = some .passInFlight)) := by
  cases r with
  | none => rfl
  | some reason => cases reason <;> rfl

theorem commonCodes : CommonCodes := ⟨rfl, rfl, rfl, rfl, rfl, rfl, rfl, rfl⟩

theorem recordPlaces : RecordPlaces :=
  ⟨⟨rfl, rfl⟩, fun _ => ⟨rfl, rfl⟩, fun _ => ⟨rfl, rfl⟩, fun _ => ⟨rfl, rfl⟩, fun _ => ⟨rfl, rfl⟩, fun _ => ⟨rfl, rfl⟩,
    fun _ => ⟨rfl, rfl⟩, fun _ => ⟨rfl, rfl⟩⟩

/-- Settles O24: each record's words are packed from the fields of its layout, record by record. -/
theorem recordWordsFollowTheLayouts : Obligations.RecordWordsFollowTheLayouts := by
  refine ⟨commonCodes, recordPlaces, fun s => ?_⟩
  dsimp only
  refine ⟨wordsHold_packed rfl ?header, fun n => wordsHold_packed rfl ?slot, fun b => wordsHold_packed rfl ?bay,
    fun i hnone => wordsHold_packed rfl ?freeEntry, fun i e hsome => wordsHold_packed rfl ?entry,
    fun i hfree => wordsHold_packed rfl ?freeBooking, fun before k after hbook hbefore => wordsHold_packed rfl ?booking,
    fun i hnone => wordsHold_packed rfl ?noAlert, fun i a hsome => ?alert,
    fun area i hnone => wordsHold_packed rfl ?noLogRecord, fun area i e hsome => wordsHold_packed rfl ?logRecord⟩
  case header =>
    simp [State.recordWords, headerWords, Generations.count, PlanState.isAutonomous_eq, Curtail.inForce_eq, LogArea.code_eq,
      beq_eq_decide, Nat.add_assoc]
  case slot => simp [State.recordWords, slotWords, Nat.add_assoc]
  case bay => simp [State.recordWords, bayWords, tagLow, tagHigh, Nat.add_assoc]
  case freeEntry => simp [State.recordWords, rosterWords, hnone]
  case entry => cases hbay : e.bay <;> simp [State.recordWords, rosterWords, hsome, hbay, tagLow, tagHigh, Nat.add_assoc]
  case freeBooking => simp [State.recordWords, bookingWords, State.bookRecord_of_free hfree]
  case booking =>
    have hrecord := State.bookRecord_of_first hbook hbefore
    cases hpre : k.precondition <;>
      simp [State.recordWords, bookingWords, hrecord, hpre, tagLow, tagHigh, beq_eq_decide, Nat.add_assoc]
  case noAlert => simp [State.recordWords, alertWords, hnone]
  case alert =>
    obtain ⟨detail, hfields, hlow, hmiddle, hhigh⟩ := a.kind.detail_holdsFields
    refine ⟨detail, hfields, wordsHold_packed rfl ?_⟩
    cases htag : a.tag <;>
      simp [State.recordWords, alertWords, hsome, htag, AlertKind.code_eq, hlow, hmiddle, hhigh, Nat.add_assoc]
  case noLogRecord =>
    rw [State.recordWords, hnone]
    rfl
  case logRecord => simp [State.recordWords, logWords, hsome, skipCode_eq, Nat.add_assoc]

end Sys2Proof.Machine
end

section
/-!
PROOF. The image read and the end of start-up (R153 to R155): the checks and the parameters of an image by their places and
ranges, what the loader hands over when it takes a set, and the part as it enters service.
-/

namespace Sys2Proof.Machine

open Sys2Proof

/-! ### The end of start-up (R155) -/

theorem State.curtailFromInput_of_released {s : State} (h : s.meter.filteredLevel = .released) :
    s.curtailFromInput = s.updMeter fun m => { m with curtail := .inactive, tailElapsed := 0 } := by
  rw [State.curtailFromInput, h]

theorem State.curtailFromInput_of_asserted {s : State} (h : s.meter.filteredLevel = .asserted) :
    s.curtailFromInput = (s.updMeter fun m => { m with tailElapsed := 0 }).curtailOn := by
  rw [State.curtailFromInput, h]

/-- Settles O10: the blocks that start-up's end sets, and Curtail by the filtered input. -/
theorem startUpEndPutsThePartInService : Obligations.StartUpEndPutsThePartInService := by
  intro s hending
  refine ⟨_, congrArg Host.Outcome.next (if_pos hending), by simp, by simp [DepotClock.started], by simp,
    State.eq_of_fields (by simp), ?_⟩
  cases hlevel : s.meter.filteredLevel with
  | released =>
    rw [State.curtailFromInput_of_released (by exact hlevel)]
    exact ⟨rfl, rfl⟩
  | asserted =>
    rw [State.curtailFromInput_of_asserted (by exact hlevel)]
    exact ⟨State.curtailOn_meter _, (MarksOnly.refl _).curtailOn.2⟩

/-! ### Values in the image (R156, R157) -/

theorem foldl_octets_lt (octets : List Byte) (v : Nat) :
    octets.foldl (fun v o => 256 * v + o.toNat) v < (v + 1) * 256 ^ octets.length := by
  induction octets generalizing v with
  | nil => simp
  | cons o rest ih =>
    have ho := o.isLt
    calc rest.foldl (fun v o => 256 * v + o.toNat) (256 * v + o.toNat)
        < (256 * v + o.toNat + 1) * 256 ^ rest.length := ih _
      _ ≤ (v + 1) * 256 * 256 ^ rest.length := Nat.mul_le_mul_right _ (by omega)
      _ = (v + 1) * 256 ^ (o :: rest).length := by rw [List.length_cons, pow_succ', mul_assoc]

/-- So many octets hold no greater value. -/
theorem valueAt_lt (octets : List Byte) (start count : Nat) : valueAt octets start count < 256 ^ count :=
  calc valueAt octets start count < (0 + 1) * 256 ^ ((octets.drop start).take count).length := foldl_octets_lt _ 0
    _ ≤ 256 ^ count := by simpa using Nat.pow_le_pow_right (by decide) (List.length_take_le count (octets.drop start))

/-- The lowest bits of an octet. -/
theorem extractLsb'_zero_eq_ofNat (o : Byte) (width : Nat) : o.extractLsb' 0 width = BitVec.ofNat width o.toNat := by
  apply BitVec.eq_of_toNat_eq
  simp

theorem getLsbD_seven_eq (o : Byte) : o.getLsbD 7 = decide (128 ≤ o.toNat) := by
  have ho := o.isLt
  rw [BitVec.getLsbD, Nat.testBit_eq_decide_div_mod_eq, decide_eq_decide]
  omega

/-- Bits 6-4 of an octet are 0, by its value. -/
theorem reservedBits_eq_zero_iff (o : Byte) : o.extractLsb' 4 3 = 0 ↔ o.toNat / 16 % 8 = 0 := by
  have hfield : o.extractLsb' 4 3 = BitVec.ofNat 3 (o.toNat / 16 % 8) := extractLsb'_eq_ofNat o 4 3
  rw [hfield, ← BitVec.toNat_inj]
  simp

/-! ### The ranges (R154) -/

/-- Parameters 1 to 24 are judged by their table. Where the model leaves a bound of an interval out, the width of the field or the
alignment gives it. -/
theorem scalarOk_eq_inRange (image : List Byte) {n : Nat} (hfirst : 1 ≤ n) (hlast : n ≤ 24) :
    scalarOk image n = inRange image n := by
  have hplan := valueAt_lt image 9 3
  have hmirror := valueAt_lt image 12 3
  have hwindow := valueAt_lt image 30 1
  have hfeeder := valueAt_lt image 35 2
  rw [Bool.eq_iff_iff]
  interval_cases n <;> simp [scalarOk, inRange, scalarTable, fieldAt_eq_valueAt, intervalLengthOk] <;> omega

theorem modeOk_eq (image : List Byte) (k : Nat) :
    modeOk image k =
      (decide (1 ≤ valueAt image (46 + 2 * k) 1) && decide (valueAt image (46 + 2 * k) 1 ≤ 220) &&
        decide (valueAt image (46 + 2 * k + 1) 1 ≤ valueAt image (46 + 2 * k) 1)) := by
  rw [modeOk, Nat.add_right_comm]
  simp only [fieldAt_eq_valueAt]

theorem bayOk_eq (image : List Byte) (b : Nat) :
    bayOk image b =
      (decide (valueAt image (54 + 2 * b) 1 / 16 % 8 = 0) && decide (valueAt image (54 + 2 * b + 1) 1 ≤ 220)) := by
  rw [bayOk, Nat.add_right_comm, beq_eq_decide, fieldAt_eq_valueAt, valueAt_one image (54 + 2 * b)]
  congr 1
  exact decide_eq_decide.2 (reservedBits_eq_zero_iff _)

theorem parameterOk_eq_inRange (image : List Byte) {n : Nat} (hfirst : 1 ≤ n) : parameterOk image n = inRange image n := by
  by_cases hscalar : n ≤ 24
  · rw [parameterOk, if_pos hscalar, scalarOk_eq_inRange image hfirst hscalar]
  · rw [parameterOk, inRange, if_neg hscalar, if_neg hscalar, modeOk_eq, bayOk_eq]

theorem firstOutOfRange_eq (image : List Byte) :
    firstOutOfRange image = (List.range' 1 76).find? fun n => !inRange image n :=
  List.find?_congr fun n hn => by rw [parameterOk_eq_inRange image (List.mem_range'_1.1 hn).1]

/-! ### The parameters at their places -/

theorem imageMode_eq (image : List Byte) (k : Nat) :
    imageMode image k =
      { maximum := valueAt image (46 + 2 * k) 1, minimumRun := valueAt image (46 + 2 * k + 1) 1 } := by
  rw [imageMode, Nat.add_right_comm]
  simp only [fieldAt_eq_valueAt]

theorem imageBay_eq (image : List Byte) (b : Nat) :
    imageBay image b =
      { enabled := decide (128 ≤ valueAt image (54 + 2 * b) 1), permitted := BitVec.ofNat 4 (valueAt image (54 + 2 * b) 1)
        cap := valueAt image (54 + 2 * b + 1) 1 } := by
  rw [imageBay, Nat.add_right_comm, fieldAt_eq_valueAt, valueAt_one image (54 + 2 * b), getLsbD_seven_eq,
    extractLsb'_zero_eq_ofNat]

theorem imageParams_laneRate (image : List Byte) : (imageParams image).laneRate = imageLaneRate (valueAt image 29 1) := by
  unfold imageParams
  dsimp only
  obtain _ | _ | n := valueAt image 29 1 <;> rfl

theorem readParams_eq (image : List Byte) : readParams image = imageParams image := by
  calc readParams image = { imageParams image with laneRate := imageLaneRate (valueAt image 29 1) } := by
        simp only [readParams, fieldAt_eq_valueAt, imageMode_eq, imageBay_eq]
        rfl
    _ = imageParams image := by rw [← imageParams_laneRate]

theorem defaults_eq : Params.defaults = defaultParams := rfl

/-! ### The checks (R153) -/

/-- The image is used when no check fails, and fails for the first that does. -/
theorem checkImage_eq (acked : Bool) (image : List Byte) :
    checkImage acked image = (imageReason acked image).elim (.used (imageParams image)) .failed := by
  have hread : (!acked || decide (image.length < imageReadLength image)) = true ↔
      acked = false ∨ image.length < imageReadLength image := by simp
  have hwindows : windowsOverlap (imageParams image).planWindowBase (imageParams image).mirrorWindowBase = true ↔
      (BitVec.ofNat 24 (valueAt image 9 3) - BitVec.ofNat 24 (valueAt image 12 3)).toNat < 16384 := decide_eq_true_iff
  unfold checkImage imageReason
  simp only [hread, hwindows, fieldAt_eq_valueAt, firstOutOfRange_eq, readParams_eq]
  cases (List.range' 1 76).find? fun n => !inRange image n with
  | some n => split_ifs <;> rfl
  | none => split_ifs <;> rfl

/-! ### The hand-over (R153 to R155) -/

theorem State.takeParams_meter (s : State) (p : Params) (src : ConfigSource) :
    (s.takeParams p src).meter =
      { s.meter with
        limits := p.limits, calibration := if s.meter.offsets = none then .inFlight .startUp else s.meter.calibration } := by
  unfold State.takeParams State.beginStartUpCalibration State.handOverParams
  cases s.meter.offsets <;> rfl

theorem State.takeParams_setTaken (s : State) (p : Params) (src : ConfigSource) : SetTaken s (s.takeParams p src) p src :=
  ⟨s.takeParams_config p src, s.takeParams_meter p src, s.takeParams_path p src, State.eq_of_fields (by simp)⟩

/-- A failed image hands over the defaults, with CONFIG DEFAULTED. -/
theorem State.configFailed_spec (s : State) (reason : ConfigReason) :
    SetTaken s (s.configFailed reason) defaultParams .defaults ∧
      Raises s.mirror (s.configFailed reason).mirror (plainAlert s (.configDefaulted reason)) := by
  have hmarks : MarksOnly s (s.takeParams Params.defaults .defaults) := .of_mirror (by simp) (by simp)
  refine ⟨⟨?_, ?_, s.configFailed_path reason, State.eq_of_fields (by simp)⟩, hmarks.raises _ none none⟩
  · rw [State.configFailed_config]
    exact s.takeParams_config ..
  · simpa only [State.configFailed, State.raise_keeps, defaults_eq] using s.takeParams_meter Params.defaults .defaults

theorem exec_configImageLoaded_used {acked : Bool} {image : List Byte} {s : State} (hloading : s.config.step = .loading)
    (hpassed : imageReason acked image = none) :
    exec (.configImageLoaded acked image) s = .next (s.takeParams (imageParams image) .image) := by
  refine congrArg Host.Outcome.next ((if_pos hloading).trans ?_)
  rw [checkImage_eq, hpassed]
  rfl

theorem exec_configImageLoaded_failed {acked : Bool} {image : List Byte} {reason : ConfigReason} {s : State}
    (hloading : s.config.step = .loading) (hfailed : imageReason acked image = some reason) :
    exec (.configImageLoaded acked image) s = .next (s.configFailed reason) := by
  refine congrArg Host.Outcome.next ((if_pos hloading).trans ?_)
  rw [checkImage_eq, hfailed]
  rfl

/-- Settles O9: by the outcome of the checks, and by the timeout. -/
theorem imageReadEnds : Obligations.ImageReadEnds :=
  ⟨defaults_eq,
    fun _ _ s hloading hpassed =>
      ⟨_, exec_configImageLoaded_used hloading hpassed, s.takeParams_setTaken .., by simp⟩,
    fun _ _ reason s hloading hfailed => ⟨_, exec_configImageLoaded_failed hloading hfailed, s.configFailed_spec reason⟩,
    fun s hloading => ⟨_, congrArg Host.Outcome.next (if_pos hloading), s.configFailed_spec .noAck⟩⟩

end Sys2Proof.Machine
end

section
/-!
PROOF. One step of the part, by the queue of commands: the command at its front, and the idle step (log entry 4).
-/

namespace Sys2Proof.Machine

open Sys2Proof

/-- With a command waiting, the part runs it with the queue's rest. -/
theorem step_of_pending_cons {s : State} {c : Instr} {rest : List Instr} (hpending : s.pending = c :: rest) :
    step s = exec c { s with pending := rest } := by
  rw [step, hpending]

/-- With none waiting, the part idles. -/
theorem step_of_pending_nil {s : State} (hpending : s.pending = []) : step s = .next s := by
  rw [step, hpending]

/-- Settles O1: by whether a command stands in the queue. -/
theorem stepRunsTheFrontCommand : Obligations.StepRunsTheFrontCommand :=
  ⟨fun _ _ _ => step_of_pending_cons, fun _ => step_of_pending_nil⟩

end Sys2Proof.Machine
end
